-- ==== Sys2Proof/Word.lean ====
section
/-! DEFINITION. The plain data widths of the W8C: a byte of the management link, a bay number, a 32-bit sequence number and a
512-byte block. -/

namespace Sys2Proof

/-- One byte of a frame on the management link. -/
abbrev Byte := BitVec 8

/-- A bay, and the console line of the same number (section 5.2 of 00_scope.md: bays are numbered 0..7). -/
abbrev Bay := Fin 8

/-- A 32-bit sequence number of a line's history; it wraps modulo 2^32 (R44). -/
abbrev SeqNo := BitVec 32

/-- One 512-byte block of a virtual disk (Table 8-1). -/
abbrev Block := Vector Byte 512

end Sys2Proof
end

