-- ==== Sys2Proof/Syntax.lean ====
section
/-! DEFINITION. The commands of the W8C: one constructor for each row of spec/opcode_table.json. A management request carries the raw
field bytes of its payload (Table 11-3), so that every undefined, out-of-range or clamped value can be written and is judged by the
meaning. An event of the bay wiring, a pin or a timer names its bay as `Bay`. -/

namespace Sys2Proof

/-- The twelve field bytes of LINE_SET after the line, in the order of Table 11-3. -/
structure LineFields where
  dataBits : Byte
  parity : Byte
  stopBits : Byte
  flushThreshold : Byte
  idleFlush : Byte
  ctsHonour : Byte
  loopback : Byte
  detectOnPowerOn : Byte
  loopPolicy : Byte
  customRate : Byte
  window : Byte
  errorThreshold : Byte
  deriving DecidableEq, Repr

/-- The fields of WATCH_SET after the bay (Table 11-3). -/
structure WatchFields where
  source : Byte
  period : BitVec 16
  grace : BitVec 16
  action : Byte
  limit : Byte
  enable : Byte
  deriving DecidableEq, Repr

/-- The six setting bytes of POWER_SET after the bay (Table 11-3). -/
structure PowerFields where
  powerGood : Byte
  softStop : Byte
  holdOff : Byte
  resetPulse : Byte
  button : Byte
  weight : Byte
  deriving DecidableEq, Repr

/-- The seven field bytes of STORE (section 11.3): for record 0 the budget, the restore delay and five ignored bytes; for a bay
record the restore policy, the weight, the power-good timeout, the soft-stop wait, the hold-off, the reset pulse, the button press. -/
structure StoreFields where
  f0 : Byte
  f1 : Byte
  f2 : Byte
  f3 : Byte
  f4 : Byte
  f5 : Byte
  f6 : Byte
  deriving DecidableEq, Repr

/-- The eleven field bytes of CACHE_SET (Table 11-3). -/
structure CacheFields where
  reserves : Vector Byte 8
  readAhead : Byte
  fetchTimeout : Byte
  writebackTimeout : Byte
  deriving DecidableEq, Repr

/-- Why the frame receiver drops a frame (R165, R166, R177). -/
inductive DropCause where
  | length
  | check
  | tag
  | overflow
  deriving DecidableEq, Repr

/-- A command of the W8C. A management request stands for a frame of its kind that has passed its check and reaches R166; its first
operand is the frame's tag. -/
inductive Instr where
  | ident (tag : Byte)
  | statusBay (tag scope : Byte)
  | statusPart (tag : Byte)
  | mask (tag scope : Byte) (marks : BitVec 24)
  | restart (tag : Byte)
  | lineSet (tag line : Byte) (f : LineFields)
  | send (tag line drain : Byte) (bytes : List Byte)
  | sendBreak (tag line duration : Byte)
  | rts (tag line level : Byte)
  | rateSet (tag line form : Byte) (value : BitVec 32)
  | rateMode (tag line mode : Byte)
  | rateDetect (tag line : Byte)
  | quality (tag line clear : Byte)
  | historySize (tag line pages : Byte)
  | historyClear (tag line : Byte)
  | history (tag line : Byte) (start : SeqNo) (count : Byte)
  | attach (tag line form : Byte) (start : SeqNo) (credit : BitVec 16)
  | credit (tag line : Byte) (count : BitVec 16)
  | detach (tag line : Byte)
  | matchSetHeartbeat (tag line : Byte) (pattern : List Byte)
  | matchSetPrompt (tag line enable oneShot : Byte) (window : BitVec 16) (pattern response : List Byte)
  | watchSet (tag bay : Byte) (f : WatchFields)
  | watchClear (tag bay : Byte)
  | powerOn (tag bay : Byte)
  | powerOffSoft (tag bay : Byte)
  | powerOffHard (tag bay : Byte)
  | powerCycle (tag bay : Byte)
  | powerReset (tag bay : Byte)
  | powerClearFault (tag bay : Byte)
  | powerSet (tag bay : Byte) (f : PowerFields)
  | budget (tag budget delay : Byte)
  | store (tag record : Byte) (f : StoreFields)
  | insert (tag bay : Byte) (capacity : BitVec 32) (writable ejectOnPowerOff : Byte)
  | eject (tag bay force : Byte)
  | cacheSet (tag : Byte) (f : CacheFields)
  | cacheQuery (tag : Byte)
  | fill (tag id index : Byte) (generation : BitVec 16) (data : Block)
  | fillFail (tag id : Byte)
  | writeDone (tag id outcome : Byte)
  | undefinedRequest (tag kind : Byte)
  /-- The frame receiver drops an incoming frame for the cause named. -/
  | linkFrameDropped (cause : DropCause)
  /-- The byte exchange at which a frame of the part starts; `mosi` is the byte received in it. -/
  | outgoingFrameStart (mosi : Byte)
  /-- The byte exchange that sends the last check byte of the frame in flight; `mosi` is the byte received in it. -/
  | outgoingFrameEnd (mosi : Byte)
  /-- The sample of a character's first stop bit: `data` holds the data bits as received, first bit lowest; `parity` and `stop` are
  the sampled levels of the parity bit (not read with parity NONE) and of the first stop bit. -/
  | characterReceived (line : Bay) (data : Byte) (parity stop : Bool)
  /-- A rising edge after `length` reference clocks of low, on the CON_RX pin or (`internal`) on the internal loopback signal. -/
  | lowPulseEnd (line : Bay) (internal : Bool) (length : Nat)
  | detectionWindowExpiry (line : Bay)
  /-- The CON_CTS pin takes a level; `level` is true for asserted. -/
  | ctsChange (line : Bay) (level : Bool)
  | txBreakLowEnd (line : Bay)
  | txElementComplete (line : Bay)
  | idleFlushExpiry (line : Bay)
  | promptWindowExpiry (bay : Bay)
  | watchTimerExpiry (bay : Bay)
  | monitorRequestTaken (bay : Bay)
  /-- The PGOOD pin takes a level; true is high. -/
  | pgoodChange (bay : Bay) (level : Bool)
  /-- The BTN_SENSE pin takes a level; true is pressed. -/
  | btnSenseChange (bay : Bay) (level : Bool)
  | btnSenseMaskEnd (bay : Bay)
  | powerGoodTimerExpiry (bay : Bay)
  | resetPulseTimerExpiry (bay : Bay)
  | buttonPressTimerExpiry (bay : Bay)
  | softStopWaitExpiry (bay : Bay)
  | holdOffTimerExpiry (bay : Bay)
  /-- The SAG pin takes a level; true is asserted. -/
  | sagChange (level : Bool)
  | restoreDelayEnd
  | mediaOpen (bay : Bay)
  | mediaClose (bay : Bay)
  | read (bay : Bay) (tag : Byte) (start : BitVec 32) (count : Nat)
  | write (bay : Bay) (tag : Byte) (start : BitVec 32) (count : Nat)
  | capacity (bay : Bay) (tag : Byte)
  | ready (bay : Bay) (tag : Byte)
  | serverRequestInvalid (bay : Bay) (tag : Byte)
  /-- The port reports the block transfer in flight done; `data` is the server's block, read for a WRITE transfer only. -/
  | transferEnd (bay : Bay) (data : Block)
  | fetchDeadlineExpiry (id : Byte)
  | writebackDeadlineExpiry (id : Byte)
  | storeWriteComplete
  /-- Power-up; `pinAsserted` says that RESET_N is asserted during it, before the restore has placed its bays (R159). -/
  | coldReset (pinAsserted : Bool)
  | warmReset
  | resetNRelease
  /-- A falling edge of the CON_RX pin or (`internal`) of the internal loopback signal. -/
  | startEdge (line : Bay) (internal : Bool)
  | falseStart (line : Bay)
  | byteExchange (mosi : Byte)
  deriving DecidableEq, Repr

end Sys2Proof
end

