-- ==== Sys2Proof/WellFormed.lean ====
section
/-! DEFINITION. Which commands stand for something that can reach the part: the counts a payload states in one byte, and
the scopes and kinds that name another row of the table. Every operand of a bounded width is bounded by its
type; what a meaning refuses or clamps is not ill-formed. -/

namespace Sys2Proof

/-- The request kinds of Table 11-3. -/
def requestKinds : List Byte :=
  [0x01, 0x02, 0x03, 0x04, 0x08, 0x09, 0x0A, 0x0B, 0x10, 0x11, 0x12, 0x13, 0x18, 0x19, 0x1A, 0x1B, 0x1C, 0x1D, 0x20, 0x21,
   0x22, 0x28, 0x29, 0x2A, 0x2B, 0x30, 0x31, 0x32, 0x33, 0x34, 0x35, 0x36]

/-- A command that stands for a frame or an event of the part.
* SEND and MATCH_SET state their byte counts in one byte (R180, R181); no such payload exceeds the 528 bytes of a frame (R165).
* STATUS of scope 0xFF is STATUS for the part, another row (R180).
* UNDEFINED_REQUEST has a kind that is no request kind (R167).
* A low pulse lasts at least one reference clock (R26), and a record's id is not 0 (R135, R142). -/
def Instr.WellFormed : Instr → Bool
  | .statusBay _ scope => scope != 0xFF
  | .send _ _ _ bytes => bytes.length ≤ 255
  | .matchSetHeartbeat _ _ pattern => pattern.length ≤ 255
  | .matchSetPrompt _ _ _ _ _ pattern response =>
      pattern.length ≤ 255 && response.length ≤ 255
  | .undefinedRequest _ kind => !requestKinds.contains kind
  | .lowPulseEnd _ _ length => 1 ≤ length
  | .fetchDeadlineExpiry id => id != 0
  | .writebackDeadlineExpiry id => id != 0
  | _ => true

/-- The commands that are management requests: frames of the link that reach R166. -/
def Instr.isRequest : Instr → Bool
  | .ident .. | .statusBay .. | .statusPart .. | .mask .. | .restart .. | .lineSet .. | .send .. | .sendBreak .. | .rts ..
  | .rateSet .. | .rateMode .. | .rateDetect .. | .quality .. | .historySize .. | .historyClear .. | .history .. | .attach ..
  | .credit .. | .detach .. | .matchSetHeartbeat .. | .matchSetPrompt .. | .watchSet .. | .watchClear .. | .powerOn ..
  | .powerOffSoft .. | .powerOffHard .. | .powerCycle .. | .powerReset .. | .powerClearFault .. | .powerSet .. | .budget ..
  | .store .. | .insert .. | .eject .. | .cacheSet .. | .cacheQuery .. | .fill .. | .fillFail .. | .writeDone ..
  | .undefinedRequest .. => true
  | _ => false

end Sys2Proof
end

