-- ==== Sys2Proof/Decode.lean ====
section
/-! DEFINITION. `decodeTableWord` over the rows of spec/opcode_table.json that give bits (none does), and the decoding of a received
frame of the management link: from its kind, tag and payload to the request it spells (Table 11-3), with the encoder beside it. -/

namespace Sys2Proof

/-- No row of spec/opcode_table.json gives bits, so no word spells a command (log entry 3). -/
def decodeTableWord (_nbits _w : Nat) : Option Instr := none

/-- Two bytes of an unsigned number, low byte first (R180). -/
def le16 (b0 b1 : Byte) : BitVec 16 := b1 ++ b0

/-- Four bytes of an unsigned number, low byte first (R180). -/
def le32 (b0 b1 b2 b3 : Byte) : BitVec 32 := (b3 ++ b2) ++ (b1 ++ b0)

/-- The bytes of a 16-bit field, low byte first (R180). -/
def bytes16 (x : BitVec 16) : List Byte := [x.extractLsb' 0 8, x.extractLsb' 8 8]

/-- The bytes of a 32-bit field, low byte first (R180). -/
def bytes32 (x : BitVec 32) : List Byte := [x.extractLsb' 0 8, x.extractLsb' 8 8, x.extractLsb' 16 8, x.extractLsb' 24 8]

/-- The three mark bytes of MASK as one bitmap, little-endian (R180). -/
def le24 (b0 b1 b2 : Byte) : BitVec 24 := b2 ++ (b1 ++ b0)

/-- The bytes of the marks of MASK (R180). -/
def bytes24 (x : BitVec 24) : List Byte := [x.extractLsb' 0 8, x.extractLsb' 8 8, x.extractLsb' 16 8]

/-- A POWER payload: the action chooses the row; an undefined action decodes to none (Table 11-2, R81). -/
def decodePower (tag bay action : Byte) : Option Instr :=
  match action.toNat with
  | 0 => some (.powerOn tag bay)
  | 1 => some (.powerOffSoft tag bay)
  | 2 => some (.powerOffHard tag bay)
  | 3 => some (.powerCycle tag bay)
  | 4 => some (.powerReset tag bay)
  | 5 => some (.powerClearFault tag bay)
  | _ => none

/-- A MATCH_SET payload after its length fields: the pattern and the response must fill it exactly, and the matcher chooses the row
(R181, section 4.2); HEARTBEAT ignores enable, one-shot, window and response. The eight fields before the pattern take 8 bytes by
their widths in Table 11-3, whose length column says 7 + p + r: the widths are followed (log entry 13). -/
def decodeMatchSet (tag line matcher enable oneShot : Byte) (window : BitVec 16) (p r : Nat) (rest : List Byte) : Option Instr :=
  if rest.length = p + r then
    match matcher.toNat with
    | 0 => some (.matchSetHeartbeat tag line (rest.take p))
    | 1 => some (.matchSetPrompt tag line enable oneShot window (rest.take p) (rest.drop p))
    | _ => none
  else none

/-- A FILL payload: 512 data bytes after the id, the index and the generation (Table 11-4). -/
def decodeFill (tag id index : Byte) (generation : BitVec 16) (rest : List Byte) : Option Instr :=
  if h : rest.length = 512 then some (.fill tag id index generation ⟨rest.toArray, by simpa using h⟩) else none

/-- The request a received frame spells: its kind chooses the payload layout of Table 11-3; `none` where the payload's length is not
the one the table gives or where the value that chooses the row (the POWER action, the matcher) is undefined (R167, R181). A kind
that is no request kind spells UNDEFINED_REQUEST whatever its payload; a RESTART is taken whatever its payload (R166). -/
def decodeRequest (kind tag : Byte) (payload : List Byte) : Option Instr :=
  match kind.toNat with
  | 0x01 => if payload = [] then some (.ident tag) else none
  | 0x02 => match payload with
    | [scope] => some (if scope = 0xFF then .statusPart tag else .statusBay tag scope)
    | _ => none
  | 0x03 => match payload with
    | [scope, m0, m1, m2] => some (.mask tag scope (le24 m0 m1 m2))
    | _ => none
  | 0x04 => some (.restart tag)
  | 0x08 => match payload with
    | [line, d, p, st, ft, idle, cts, lo, det, pol, cus, w, e] => some (.lineSet tag line ⟨d, p, st, ft, idle, cts, lo, det, pol, cus, w, e⟩)
    | _ => none
  | 0x09 => match payload with
    | line :: drain :: n :: bytes => if bytes.length = n.toNat then some (.send tag line drain bytes) else none
    | _ => none
  | 0x0A => match payload with
    | [line, d] => some (.sendBreak tag line d)
    | _ => none
  | 0x0B => match payload with
    | [line, level] => some (.rts tag line level)
    | _ => none
  | 0x10 => match payload with
    | [line, form, v0, v1, v2, v3] => some (.rateSet tag line form (le32 v0 v1 v2 v3))
    | _ => none
  | 0x11 => match payload with
    | [line, mode] => some (.rateMode tag line mode)
    | _ => none
  | 0x12 => match payload with
    | [line] => some (.rateDetect tag line)
    | _ => none
  | 0x13 => match payload with
    | [line, clear] => some (.quality tag line clear)
    | _ => none
  | 0x18 => match payload with
    | [line, pages] => some (.historySize tag line pages)
    | _ => none
  | 0x19 => match payload with
    | [line] => some (.historyClear tag line)
    | _ => none
  | 0x1A => match payload with
    | [line, s0, s1, s2, s3, n] => some (.history tag line (le32 s0 s1 s2 s3) n)
    | _ => none
  | 0x1B => match payload with
    | [line, form, s0, s1, s2, s3, c0, c1] => some (.attach tag line form (le32 s0 s1 s2 s3) (le16 c0 c1))
    | _ => none
  | 0x1C => match payload with
    | [line, c0, c1] => some (.credit tag line (le16 c0 c1))
    | _ => none
  | 0x1D => match payload with
    | [line] => some (.detach tag line)
    | _ => none
  | 0x20 => match payload with
    | line :: m :: en :: one :: w0 :: w1 :: p :: r :: rest => decodeMatchSet tag line m en one (le16 w0 w1) p.toNat r.toNat rest
    | _ => none
  | 0x21 => match payload with
    | [bay, src, p0, p1, g0, g1, act, lim, en] => some (.watchSet tag bay ⟨src, le16 p0 p1, le16 g0 g1, act, lim, en⟩)
    | _ => none
  | 0x22 => match payload with
    | [bay] => some (.watchClear tag bay)
    | _ => none
  | 0x28 => match payload with
    | [bay, action] => decodePower tag bay action
    | _ => none
  | 0x29 => match payload with
    | [bay, pg, ss, ho, rp, bt, wt] => some (.powerSet tag bay ⟨pg, ss, ho, rp, bt, wt⟩)
    | _ => none
  | 0x2A => match payload with
    | [b, d] => some (.budget tag b d)
    | _ => none
  | 0x2B => match payload with
    | [r, f0, f1, f2, f3, f4, f5, f6] => some (.store tag r ⟨f0, f1, f2, f3, f4, f5, f6⟩)
    | _ => none
  | 0x30 => match payload with
    | [bay, c0, c1, c2, c3, w, e] => some (.insert tag bay (le32 c0 c1 c2 c3) w e)
    | _ => none
  | 0x31 => match payload with
    | [bay, force] => some (.eject tag bay force)
    | _ => none
  | 0x32 => match payload with
    | [r0, r1, r2, r3, r4, r5, r6, r7, ra, ft, wt] => some (.cacheSet tag ⟨#v[r0, r1, r2, r3, r4, r5, r6, r7], ra, ft, wt⟩)
    | _ => none
  | 0x33 => if payload = [] then some (.cacheQuery tag) else none
  | 0x34 => match payload with
    | id :: index :: g0 :: g1 :: rest => decodeFill tag id index (le16 g0 g1) rest
    | _ => none
  | 0x35 => match payload with
    | [id] => some (.fillFail tag id)
    | _ => none
  | 0x36 => match payload with
    | [id, outcome] => some (.writeDone tag id outcome)
    | _ => none
  | _ => some (.undefinedRequest tag kind)

/-- The frame of a request: its kind, its tag and its payload (Table 11-3); fields the kind ignores are written 0. -/
structure RequestFrame where
  kind : Byte
  tag : Byte
  payload : List Byte
  deriving DecidableEq, Repr

/-- The frame that spells a request; `none` for an event. -/
def encodeRequest : Instr → Option RequestFrame
  | .ident tag => some ⟨0x01, tag, []⟩
  | .statusBay tag scope => some ⟨0x02, tag, [scope]⟩
  | .statusPart tag => some ⟨0x02, tag, [0xFF]⟩
  | .mask tag scope marks => some ⟨0x03, tag, scope :: bytes24 marks⟩
  | .restart tag => some ⟨0x04, tag, []⟩
  | .lineSet tag line f => some ⟨0x08, tag, [line, f.dataBits, f.parity, f.stopBits, f.flushThreshold, f.idleFlush, f.ctsHonour,
      f.loopback, f.detectOnPowerOn, f.loopPolicy, f.customRate, f.window, f.errorThreshold]⟩
  | .send tag line drain bytes => some ⟨0x09, tag, line :: drain :: BitVec.ofNat 8 bytes.length :: bytes⟩
  | .sendBreak tag line d => some ⟨0x0A, tag, [line, d]⟩
  | .rts tag line level => some ⟨0x0B, tag, [line, level]⟩
  | .rateSet tag line form value => some ⟨0x10, tag, line :: form :: bytes32 value⟩
  | .rateMode tag line mode => some ⟨0x11, tag, [line, mode]⟩
  | .rateDetect tag line => some ⟨0x12, tag, [line]⟩
  | .quality tag line clear => some ⟨0x13, tag, [line, clear]⟩
  | .historySize tag line pages => some ⟨0x18, tag, [line, pages]⟩
  | .historyClear tag line => some ⟨0x19, tag, [line]⟩
  | .history tag line start count => some ⟨0x1A, tag, line :: (bytes32 start ++ [count])⟩
  | .attach tag line form start credit => some ⟨0x1B, tag, line :: form :: (bytes32 start ++ bytes16 credit)⟩
  | .credit tag line count => some ⟨0x1C, tag, line :: bytes16 count⟩
  | .detach tag line => some ⟨0x1D, tag, [line]⟩
  | .matchSetHeartbeat tag line pattern =>
      some ⟨0x20, tag, [line, 0, 0, 0, 0, 0, BitVec.ofNat 8 pattern.length, 0] ++ pattern⟩
  | .matchSetPrompt tag line enable oneShot window pattern response =>
      some ⟨0x20, tag, [line, 1, enable, oneShot] ++ bytes16 window ++
        [BitVec.ofNat 8 pattern.length, BitVec.ofNat 8 response.length] ++ pattern ++ response⟩
  | .watchSet tag bay f => some ⟨0x21, tag, [bay, f.source] ++ bytes16 f.period ++ bytes16 f.grace ++ [f.action, f.limit, f.enable]⟩
  | .watchClear tag bay => some ⟨0x22, tag, [bay]⟩
  | .powerOn tag bay => some ⟨0x28, tag, [bay, 0]⟩
  | .powerOffSoft tag bay => some ⟨0x28, tag, [bay, 1]⟩
  | .powerOffHard tag bay => some ⟨0x28, tag, [bay, 2]⟩
  | .powerCycle tag bay => some ⟨0x28, tag, [bay, 3]⟩
  | .powerReset tag bay => some ⟨0x28, tag, [bay, 4]⟩
  | .powerClearFault tag bay => some ⟨0x28, tag, [bay, 5]⟩
  | .powerSet tag bay f => some ⟨0x29, tag, [bay, f.powerGood, f.softStop, f.holdOff, f.resetPulse, f.button, f.weight]⟩
  | .budget tag b d => some ⟨0x2A, tag, [b, d]⟩
  | .store tag r f => some ⟨0x2B, tag, [r, f.f0, f.f1, f.f2, f.f3, f.f4, f.f5, f.f6]⟩
  | .insert tag bay capacity w e => some ⟨0x30, tag, bay :: (bytes32 capacity ++ [w, e])⟩
  | .eject tag bay force => some ⟨0x31, tag, [bay, force]⟩
  | .cacheSet tag f => some ⟨0x32, tag, f.reserves.toList ++ [f.readAhead, f.fetchTimeout, f.writebackTimeout]⟩
  | .cacheQuery tag => some ⟨0x33, tag, []⟩
  | .fill tag id index generation data => some ⟨0x34, tag, id :: index :: (bytes16 generation ++ data.toList)⟩
  | .fillFail tag id => some ⟨0x35, tag, [id]⟩
  | .writeDone tag id outcome => some ⟨0x36, tag, [id, outcome]⟩
  | .undefinedRequest tag kind => some ⟨kind, tag, []⟩
  | _ => none

end Sys2Proof
end

