-- ==== Sys2Proof/Config.lean ====
section
/-! DEFINITION. What the W8C fixes once for every part (Table 7-1 of 00_scope.md, the standard rate table) and the free values: what
the specification leaves open while the part goes on. A free value has no body, so nothing can be proved of it but what its type says. -/

namespace Sys2Proof.Config

/-- The reference clock, in Hz (00_scope.md, section 3). -/
def fRef : Nat := 48000000

/-- Reference clocks in 10 ms, the unit of a BREAK element's duration (R11). -/
def clocksPer10ms : Nat := 480000

/-- The edge timer saturates here (R26). -/
def edgeTimerMax : Nat := 16777215

/-- The transmit queue of a line holds this many waiting elements (R8). -/
def txQueueMax : Nat := 256

/-- Pages in the history store (R43). -/
def historyPages : Nat := 128

/-- Entry slots in one page (R43). -/
def pageSlots : Nat := 1024

/-- Saturation limit of the 16-bit counters (Table 7-1). -/
def counterMax : Nat := 65535

/-- The gap count of a stream saturates here (R46). -/
def gapMax : Nat := 4294967295

/-- Records of the fetch table (R135). -/
def fetchMax : Nat := 32

/-- Places of the writeback table (R142). -/
def writebackMax : Nat := 16

/-- Requests a bay's server request queue holds (R119). -/
def serverQueueMax : Nat := 4

/-- Replies the reply queue holds (R169). -/
def replyMax : Nat := 4

/-- The standard rate table: each entry's rate in bit/s and B_nom (R24, Table 2-2), in index order. -/
def rateTable : List (Nat × Nat) :=
  [(1200, 40000), (2400, 20000), (4800, 10000), (9600, 5000), (19200, 2500), (38400, 1250),
   (57600, 833), (115200, 417), (230400, 208), (460800, 104), (921600, 52)]

/-- The divisors of the standard rate table, in index order. -/
def divisorTable : List Nat := rateTable.map Prod.snd

/-- The rate index that marks a divisor set or locked without a table entry (R24). -/
def customIndex : Nat := 255

/-- The identity: family, part and revision codes (R161, R176). -/
def identity : List Byte := [0x31, 0x08, 0x01]

/-- FREE VALUE (DESIGN CHOICE: left open, log entry 1). An exchange that sends the last byte of the part's frame may carry the last check
byte of a request as well; whether the frame's end or the received frame is taken first is stated nowhere. `true`: the end first. -/
opaque endTakenFirst : Nat → Bool

/-- FREE VALUE (DESIGN CHOICE: left open, log entry 2). A reply's kind is its request's kind plus 0x80 in one byte (R182); for a frame whose
kind is 0x80 or above, which R167 refuses with MALFORMED, that sum is no byte and the kind of the reply is stated nowhere. -/
opaque wideReplyKind : Byte → Byte

/-- A function that gives a record its check byte, with what R153 demands of it: content of another record number fails the check, and
so does content changed without its check byte. One check byte cannot tell apart every two of the 256^7 contents, so the second demand is
made of a change of one content byte (DEDUCED, log entry 45). -/
structure CheckFunction where
  value : Fin 9 → Vector Byte 7 → Byte
  number_counts : ∀ r q x, r ≠ q → value r x ≠ value q x
  content_counts : ∀ r x (i : Fin 7) v, v ≠ x[i] → value r (x.set i v) ≠ value r x

/-- The sum of the record number and the content bytes meets both demands of R153. It only shows that the free value below exists: nothing
can be proved to be this sum. -/
def checkSum : CheckFunction where
  value r x := BitVec.ofNat 8 r.val + (x[0] + x[1] + x[2] + x[3] + x[4] + x[5] + x[6])
  number_counts := by
    intro r q x h e
    have := r.isLt
    have := q.isLt
    exact h (Fin.ext (by bv_omega))
  content_counts := by
    intro r x i v h e
    apply h
    match i with
    | 0 | 1 | 2 | 3 | 4 | 5 | 6 => simp at e ⊢; bv_omega

/-- FREE VALUE (DESIGN CHOICE: left open, log entry 45). The check function of the part: R153 computes the check byte from the record number
and the seven content bytes and states no formula. Nothing is known of it but the two demands of `CheckFunction`. -/
opaque checkFunction (exists_one : Inhabited CheckFunction) : CheckFunction

/-- The check byte of a record number and its seven content bytes (R153), a constrained free value (log entry 45). -/
def checkByte (r : Fin 9) (x : Vector Byte 7) : Byte := (checkFunction ⟨checkSum⟩).value r x

end Sys2Proof.Config
end

