-- ==== Sys2Proof/Machine/State.lean ====
section
/-! DEFINITION. The state of the W8C as plain data: every register, queue, buffer, counter, timer, mark and pin the specification gives
the part, the queue of waiting commands, and the state right after reset. A timer that can run holds the duration it was started
with, in the unit of its setting (log entry 4). -/

namespace Sys2Proof.Machine

/-! ## Console line unit (chapter 1) -/

/-- Parity of a line (Table 1-1). -/
inductive Parity where
  | none
  | even
  | odd
  deriving DecidableEq, Repr

/-- What shapes a character frame (R2). -/
structure Framing where
  dataBits : Nat := 8
  parity : Parity := .none
  stopBits : Nat := 1
  deriving DecidableEq, Repr

/-- The mode a lock sets (Table 1-1). -/
inductive LoopPolicy where
  | track
  | hold
  deriving DecidableEq, Repr

/-- Quality window size W (Table 1-1). -/
inductive WindowSize where
  | w256
  | w1024
  | w4096
  deriving DecidableEq, Repr

/-- The line configuration record with its cold defaults (Table 1-1, R1). -/
structure LineConfig where
  framing : Framing := ⟨8, .none, 1⟩
  flushThreshold : Nat := 64
  idleFlush : Nat := 4
  ctsHonour : Bool := false
  loopback : Bool := false
  detectOnPowerOn : Bool := false
  loopPolicy : LoopPolicy := .track
  customRate : Bool := false
  window : WindowSize := .w1024
  errorThreshold : Nat := 0
  deriving DecidableEq, Repr

/-- An element of the transmit queue (Table 1-3). -/
inductive TxElement where
  | data (value : Byte)
  /-- A BREAK of `duration` units of 10 ms. -/
  | brk (duration : Nat)
  /-- An RTS level; true is asserted. -/
  | rts (level : Bool)
  deriving DecidableEq, Repr

/-- The transmitter (R9, R10, R11). A DATA element in flight holds the levels of its frame, one per bit time, start bit first, and the
divisor that times it; a BREAK element holds its duration and the divisor of its recovery bit. -/
inductive Transmitter where
  | idle
  | character (bits : List Bool) (divisor : Nat)
  | breakLow (duration : Nat) (divisor : Nat)
  | breakRecovery (duration : Nat) (divisor : Nat)
  deriving DecidableEq, Repr

/-- A run of the internal loopback signal at one level, in reference clocks (R19). -/
structure Span where
  high : Bool
  clocks : Nat
  deriving DecidableEq, Repr

/-- The receiver (section 1.3). FRAME holds the framing and the divisor of the character's start edge (R2) and, in loopback, what the
element in flight drives from that edge on (R19); HOLD_LOW says whether the character's entry is deferred to the rise (R5). -/
inductive Receiver where
  | waitHigh
  | hunt
  | frame (framing : Framing) (divisor : Nat) (heard : List Span)
  | holdLow (deferred : Bool)
  deriving DecidableEq, Repr

/-- A low period the edge timer is counting (R26): the character time in force at its falling edge (R5, R32), whether that edge was a
character's own start edge (R5), and, where the internal signal drives it, how long it will last (R19). -/
structure LowPeriod where
  charTime : Nat
  ownStart : Bool
  length : Option Nat
  deriving DecidableEq, Repr

/-! ## Rate unit (chapter 2) -/

/-- The mode of a line (R25). -/
inductive Mode where
  | manual
  | track
  | hold
  deriving DecidableEq, Repr

/-- The state of a detection in progress (R27); its 3 s window timer runs for as long as it is present. -/
structure Detection where
  wMin : Option Nat := none
  q : Nat := 0
  c : Nat := 0
  deriving DecidableEq, Repr

/-- The result of the last detection that ended (Table 11-2). -/
inductive DetectionResult where
  | none
  | table
  | custom
  | failed
  | noSignal
  | cancelled
  deriving DecidableEq, Repr

/-- The detection record (R30, R31, R38); an absent field is `none`. -/
structure DetectionRecord where
  result : DetectionResult := .none
  lockedIndex : Option Nat := none
  wMin : Option Nat := none
  nearest : Option Nat := none
  distance : Option Nat := none
  q : Option Nat := none
  c : Option Nat := none
  deriving DecidableEq, Repr

/-- The drift mark (R34). -/
inductive DriftMark where
  | none
  | lower
  | upper
  deriving DecidableEq, Repr

/-- The four counts of a quality window (R36). -/
structure WindowCounts where
  characters : Nat := 0
  parityErrors : Nat := 0
  framingErrors : Nat := 0
  breaks : Nat := 0
  deriving DecidableEq, Repr

/-- The rate unit of a line with its cold values (Table 2-1, R42). The line is DETECTING exactly while `detection` is present. -/
structure RateUnit where
  /-- B, in reference clocks per bit. -/
  divisor : Nat := 417
  /-- B_lock. -/
  lock : Nat := 417
  index : Nat := 7
  /-- A, the tracking accumulator. -/
  acc : Int := 0
  mode : Mode := .manual
  detection : Option Detection := none
  record : DetectionRecord := {}
  drift : DriftMark := .none
  rejected : Nat := 0
  window : WindowCounts := {}
  lastWindow : WindowCounts := {}
  lastNumber : Nat := 0
  deriving DecidableEq, Repr

/-- One console line: configuration, transmit side, receive side, pins and rate unit. -/
structure Line where
  config : LineConfig := {}
  queue : List TxElement := []
  tx : Transmitter := .idle
  /-- The RTS output; true is asserted. -/
  rts : Bool := true
  drainMark : Bool := false
  receiver : Receiver := .waitHigh
  lowPeriod : Option LowPeriod := none
  /-- What the element in flight still drives onto the internal loopback signal, from the part not yet heard by the receive side on; none
  for an element that was in flight when loopback was switched on, or that goes to the pin (R19; log entry 19). -/
  looped : Option (List Span) := some []
  /-- The CON_RX pin; true is high. -/
  conRx : Bool := true
  /-- The CON_CTS pin; true is asserted. -/
  conCts : Bool := false
  /-- The CTS reference: the seen level at its last change or reset (R18, R21). -/
  ctsRef : Bool := false
  rate : RateUnit := {}
  deriving DecidableEq, Repr

/-! ## History store (chapter 3) -/

/-- Kind of a history entry (R44). -/
inductive EntryKind where
  | data
  | parity
  | framing
  | brk
  deriving DecidableEq, Repr

/-- A history entry (R44). -/
structure HistoryEntry where
  kind : EntryKind
  value : Byte
  deriving DecidableEq, Repr

/-- What an ATTACHED line's stream holds (R50). -/
structure Stream where
  cursor : SeqNo
  gap : Nat
  credit : Nat
  deriving DecidableEq, Repr

/-- A line's ring and stream with their cold values (R60): `entries` is the run oldest..next - 1; DETACHED is the absence of a stream. -/
structure History where
  pages : Nat := 16
  entries : List HistoryEntry := []
  next : SeqNo := 0
  /-- The idle-flush timer has expired (true) or is running (R55). -/
  idleExpired : Bool := true
  stream : Option Stream := none
  deriving DecidableEq, Repr

/-! ## Matchers and hang monitor (chapter 4) -/

/-- The heartbeat matcher (R62, R77); an empty pattern is an absent one. -/
structure Heartbeat where
  pattern : List Byte := []
  j : Nat := 0
  deriving DecidableEq, Repr

/-- The prompt responder (R65, R67, R77); an empty pattern or response is an absent one. `armed` holds the duration, in seconds, its
running window timer was started with, and is absent while the responder is disarmed and the timer stopped. -/
structure Responder where
  pattern : List Byte := []
  response : List Byte := []
  window : Nat := 60
  enable : Bool := false
  oneShot : Bool := false
  armed : Option Nat := none
  j : Nat := 0
  deriving DecidableEq, Repr

/-- What counts as activity (Table 4-3). -/
inductive WatchSource where
  | anyOutput
  | heartbeat
  deriving DecidableEq, Repr

/-- The monitor's action (Table 4-3). -/
inductive WatchAction where
  | notify
  | reset
  | cycle
  deriving DecidableEq, Repr

/-- A request handed to the sequencer (R73). -/
inductive WatchRequest where
  | reset
  | cycle
  deriving DecidableEq, Repr

/-- The watch settings with their cold defaults (Table 4-3). -/
structure WatchSettings where
  source : WatchSource := .anyOutput
  period : Nat := 120
  grace : Nat := 600
  action : WatchAction := .notify
  limit : Nat := 3
  enable : Bool := false
  deriving DecidableEq, Repr

/-- Hang monitor states (Table 4-4). -/
inductive MonitorState where
  | disabled
  | suspended
  | grace
  | watching
  | expired
  | acting
  deriving DecidableEq, Repr

/-- The hang monitor (R70 to R78). -/
structure Monitor where
  settings : WatchSettings := {}
  state : MonitorState := .disabled
  /-- The watch timer: running with a duration in seconds, or stopped. -/
  timer : Option Nat := none
  count : Nat := 0
  outstanding : Option WatchRequest := none
  deriving DecidableEq, Repr

/-! ## Power sequencer and grant queue (chapters 5 and 6) -/

/-- Sequencer states (Table 5-2). -/
inductive SeqState where
  | off
  | queued
  | powering
  | on
  | resetting
  | softStopping
  | holdOff
  | fault
  deriving DecidableEq, Repr

/-- The timers of a sequencer; at most one of them runs (Table 5-2). -/
inductive SeqTimer where
  | powerGood
  | resetPulse
  | buttonPress
  | softStopWait
  | holdOff
  deriving DecidableEq, Repr

/-- Power settings with their defaults (Table 5-3). -/
structure PowerSettings where
  powerGood : Nat := 30
  softStop : Nat := 60
  holdOff : Nat := 5
  resetPulse : Nat := 20
  button : Nat := 50
  weight : Nat := 4
  deriving DecidableEq, Repr

/-- Cause of the last POWER_FAULT (Table 5-1). -/
inductive FaultReason where
  | none
  | powerGoodTimeout
  | softStopTimeout
  deriving DecidableEq, Repr

/-- The masking hold on BTN_SENSE (R92): the level held; while `pressing` the button press goes on, afterwards the 100 ms run. -/
structure ButtonHold where
  level : Bool
  pressing : Bool
  deriving DecidableEq, Repr

/-- The power sequencer of a bay (Table 5-1, R100). -/
structure Sequencer where
  state : SeqState := .off
  pendingOn : Bool := false
  settings : PowerSettings := {}
  /-- The running timer and the duration it was started with, or none. -/
  timer : Option (SeqTimer × Nat) := none
  fault : FaultReason := .none
  /-- The PGOOD pin, which is also the level seen; true is high. -/
  pgood : Bool := false
  /-- The BTN_SENSE pin; true is pressed. -/
  btnSense : Bool := false
  buttonHold : Option ButtonHold := none
  snapshotPgood : Bool := false
  snapshotBtn : Bool := false
  deriving DecidableEq, Repr

/-- The restore delay timer (Table 6-1). -/
inductive RestoreTimer where
  | notStarted
  | running (seconds : Nat)
  | ended
  deriving DecidableEq, Repr

/-- The grant queue (Table 6-1); `granted` holds each bay's granted weight. -/
structure GrantQueue where
  queue : List Bay := []
  budget : Nat := 8
  restoreDelay : Nat := 0
  timer : RestoreTimer := .ended
  granted : Vector (Option Nat) 8 := Vector.replicate 8 none
  /-- The SAG pin, which is also the level seen; true is asserted. -/
  sag : Bool := false
  deriving DecidableEq, Repr

/-! ## Media (chapter 7) and block cache (chapter 8) -/

/-- Medium states (R111). -/
inductive MediumState where
  | empty
  | present
  | ejectPending
  deriving DecidableEq, Repr

/-- The medium record of a bay (Table 7-1, R128). -/
structure Medium where
  state : MediumState := .empty
  generation : Nat := 0
  capacity : Option Nat := none
  writable : Bool := false
  ejectOnPowerOff : Bool := false
  changed : Bool := false
  deriving DecidableEq, Repr

/-- Server statuses (Table 7-3). -/
inductive ServerStatus where
  | good
  | busy
  | notReady
  | mediumChanged
  | outOfRange
  | writeProtected
  | mediaError
  | invalid
  deriving DecidableEq, Repr

/-- What a media port tells its server: the answer to an open, a status, the GOOD status of CAPACITY with the capacity and the
writable flag, or a block of a READ. -/
inductive PortMessage where
  | openAccepted
  | openRefused
  | status (tag : Byte) (status : ServerStatus)
  | capacity (tag : Byte) (blocks : Nat) (writable : Bool)
  | block (tag : Byte) (block : Nat) (data : Block)
  deriving DecidableEq, Repr

/-- An admitted READ (`write` false) or WRITE (section 7.5). `serial` is the model's own number for it (log entry 5). -/
structure ServerRequest where
  serial : Nat
  tag : Byte
  write : Bool
  start : Nat
  count : Nat
  next : Nat
  failed : Bool := false
  transferred : Nat := 0
  resolved : Nat := 0
  deriving DecidableEq, Repr

/-- The block transfer in flight (R121): the request it belongs to, its direction and the cache entry it pins. -/
structure Transfer where
  serial : Nat
  write : Bool
  entry : Fin 256
  deriving DecidableEq, Repr

/-- The media port of a bay (Table 7-1). `sent` is the model's own record of what the port has told the server (log entry 6). -/
structure Port where
  /-- The media link: true is UP. -/
  up : Bool := false
  queue : List ServerRequest := []
  transfer : Option Transfer := none
  sent : List PortMessage := []
  deriving DecidableEq, Repr

/-- Cache entry states (R129). -/
inductive EntryState where
  | free
  | filling
  | valid
  | dirty
  deriving DecidableEq, Repr

/-- The block an entry holds (Table 8-1). -/
structure BlockKey where
  bay : Bay
  generation : Nat
  block : Nat
  deriving DecidableEq, Repr

/-- The record an entry belongs to (Table 8-1). -/
inductive Owner where
  | fetch (id : Nat) (index : Nat)
  | writeback (id : Nat)
  deriving DecidableEq, Repr

/-- A cache entry (Table 8-1, R150). -/
structure CacheEntry where
  state : EntryState := .free
  key : Option BlockKey := none
  data : Block := Vector.replicate 512 0
  pinned : Bool := false
  stamp : BitVec 32 := 0
  owner : Option Owner := none
  deriving DecidableEq, Repr

/-- Whether a record's notice waits, is in its frame, or has been sent (Table 8-2). -/
inductive NoticeState where
  | pending
  | sending
  | sent
  deriving DecidableEq, Repr

/-- A fetch record (Table 8-2); `deadline` is absent while stopped. -/
structure FetchRecord where
  id : Nat
  bay : Bay
  generation : Nat
  first : Nat
  marks : List Bool
  notice : NoticeState := .pending
  deadline : Option Nat := none
  orphan : Bool := false
  deriving DecidableEq, Repr

/-- A writeback record (Table 8-3). `request` is the serial of the WRITE it belongs to. -/
structure WritebackRecord where
  id : Nat
  bay : Bay
  generation : Nat
  block : Nat
  entry : Option (Fin 256)
  request : Option Nat
  notice : NoticeState := .pending
  deadline : Option Nat := none
  orphan : Bool := false
  deriving DecidableEq, Repr

/-- Answer and deadline counters (R149). -/
structure CacheCounters where
  unknown : Nat := 0
  stale : Nat := 0
  range : Nat := 0
  duplicate : Nat := 0
  timeout : Nat := 0
  deriving DecidableEq, Repr

/-- The block cache, the fetch table and the writeback table (R150); both tables oldest record first. -/
structure Cache where
  entries : Vector CacheEntry 256 := Vector.replicate 256 {}
  useCounter : BitVec 32 := 0
  fetches : List FetchRecord := []
  writebacks : List WritebackRecord := []
  lastFetchId : Nat := 255
  lastWritebackId : Nat := 255
  reserves : Vector Nat 8 := Vector.replicate 8 16
  readAhead : Nat := 7
  fetchTimeout : Nat := 10
  writebackTimeout : Nat := 20
  counters : CacheCounters := {}
  deriving DecidableEq, Repr

/-! ## Policy store (chapter 9) -/

/-- Restore policy (Table 9-1). -/
inductive RestorePolicy where
  | off
  | on
  | last
  deriving DecidableEq, Repr

/-- The RAM copy of the global record with the defaults of a torn one (Table 9-1). -/
structure GlobalRecord where
  budget : Nat := 8
  restoreDelay : Nat := 0
  deriving DecidableEq, Repr

/-- The RAM copy of a bay record with the defaults of a torn one (Table 9-1). -/
structure BayRecord where
  policy : RestorePolicy := .off
  /-- The last commanded state: true is ON. -/
  lastOn : Bool := false
  settings : PowerSettings := {}
  deriving DecidableEq, Repr

/-- The eight bytes of a record written in nonvolatile memory: seven content bytes and the check byte (R152, R153). -/
structure NvRecord where
  content : Vector Byte 7
  check : Byte
  deriving DecidableEq, Repr

/-- The policy store and reset control (Table 9-2). Bit r of `dirty` and `torn` is record r. -/
structure PolicyStore where
  /-- The records in nonvolatile memory; none is a record erased, or written only in part (R153; log entry 7). -/
  nv : Vector (Option NvRecord) 9 := Vector.replicate 9 none
  ramGlobal : GlobalRecord := {}
  ramBays : Vector BayRecord 8 := Vector.replicate 8 {}
  dirty : BitVec 9 := 0
  /-- WRITING a record with the content fixed at its start, or IDLE. -/
  writer : Option (Fin 9 × Vector Byte 7) := none
  torn : BitVec 9 := 0
  restartPending : Bool := false
  /-- Bits 0 COLD, 1 PIN, 2 REQUEST, 3 STORE_INTERRUPTED (R184). -/
  causes : BitVec 4 := 1
  causeReported : Bool := false
  deriving DecidableEq, Repr

/-! ## Management link (chapter 10) -/

/-- The frame receiver with the incoming frame so far (R165). -/
inductive FrameReceiver where
  | hunt
  | length (first : Option Byte)
  | body (lengthBytes : List Byte) (left : Nat) (got : List Byte)
  | check (lengthBytes : List Byte) (got : List Byte) (first : Option Byte)
  deriving DecidableEq, Repr

/-- A frame of the part before its mark, length and check are added (R179). -/
structure Frame where
  kind : Byte
  tag : Byte
  payload : List Byte
  deriving DecidableEq, Repr

/-- Which of the arbiter's sources a frame in flight came from (R170). -/
inductive Origin where
  | hello
  | reply
  | summary
  | fetch (id : Nat)
  | writeback (id : Nat)
  | console (line : Bay)
  deriving DecidableEq, Repr

/-- The frame in flight on MISO with the count of its bytes sent (Table 10-1). -/
structure Outgoing where
  origin : Origin
  bytes : List Byte
  sent : Nat
  deriving DecidableEq, Repr

/-- The management link (Table 10-1). Part flags and marks use the bits of section 11.4; a mark of 1 is unmasked. -/
structure Link where
  receiver : FrameReceiver := .hunt
  replies : List Frame := []
  outgoing : Option Outgoing := none
  helloPending : Bool := true
  summaryPending : Bool := false
  partFlags : BitVec 4 := 0
  partUnmasked : BitVec 4 := BitVec.allOnes 4
  checkErrors : Nat := 0
  lengthErrors : Nat := 0
  tagErrors : Nat := 0
  overflowErrors : Nat := 0
  /-- The link hold (R164). -/
  hold : Bool := false
  /-- The byte last sent on MISO. -/
  miso : Byte := 0
  deriving DecidableEq, Repr

/-! ## The part -/

/-- One bay slice (Table 2-1 of 00_scope.md) with its event flags and mask marks (Table 10-2, bits of Table 11-5). -/
structure Slice where
  line : Line := {}
  history : History := {}
  heartbeat : Heartbeat := {}
  responder : Responder := {}
  monitor : Monitor := {}
  sequencer : Sequencer := {}
  medium : Medium := {}
  port : Port := {}
  flags : BitVec 19 := 0
  unmasked : BitVec 19 := BitVec.allOnes 19
  deriving DecidableEq, Repr

/-- The state of the part, and the queue of commands that wait for it. -/
structure State where
  slices : Vector Slice 8
  /-- The round-robin mark of the history store (R57). -/
  lastServed : Bay
  cache : Cache
  grant : GrantQueue
  policy : PolicyStore
  link : Link
  /-- The RESET_N pin; true is asserted (low). -/
  resetN : Bool
  /-- The model's own: the next serial of a server request (log entry 5). -/
  nextSerial : Nat
  /-- The model's own: which free value is read next (log entry 1). -/
  freeIndex : Nat
  /-- The model's own: the commands waiting, first in, first out. -/
  pending : List Instr
  deriving DecidableEq, Repr

/-- The state right after a cold reset of a part whose policy store is erased, with every input pin at rest (log entries 7, 8): the
cold values of every block, every record torn (R153, R162), no bay restored (R163), the restore delay of 0 ended (R107), HELLO
pending with cause COLD (R158, R161) and the link hold clear (R164). -/
def State.reset : State where
  slices := Vector.replicate 8 {}
  lastServed := 7
  cache := {}
  grant := {}
  policy := { torn := BitVec.allOnes 9 }
  link := {}
  resetN := false
  nextSerial := 0
  freeIndex := 0
  pending := []

/-- Why a command stops the machine with a fault. The W8C has none: every value it cannot use is refused by a reply, a status or a
drop, which are effects on the state (R168), so nothing raises this. Safe. -/
inductive Fault where
  deriving DecidableEq, Repr

/-- Why a command is refused by the model. -/
inductive Refusal where
  /-- The model gives the command named no meaning. No arm of `exec` raises it. Safe: a refused command proves nothing. -/
  | notModelled (mnemonic : String)
  deriving DecidableEq, Repr

end Sys2Proof.Machine
end

