-- ==== Sys2Proof/Machine/Ops.lean ====
section
/-! DEFINITION. The named operations over the state that every family uses: reading and changing one block of one bay, event flags
being set apart (Flags.lean); frames and their check; and the taking of a management request: the judgement of R166, the reply. -/

namespace Sys2Proof.Machine

/-! ## Reading and changing one block -/

/-- The slice of a bay. -/
def State.slice (s : State) (b : Bay) : Slice := s.slices.get b

/-- Change the slice of one bay. -/
def State.modSlice (s : State) (b : Bay) (f : Slice → Slice) : State := { s with slices := s.slices.set b (f (s.slice b)) }

/-- Change the console line of one bay. -/
abbrev State.modLine (s : State) (b : Bay) (f : Line → Line) : State := s.modSlice b fun x => { x with line := f x.line }

/-- Change the rate unit of one line. -/
abbrev State.modRate (s : State) (b : Bay) (f : RateUnit → RateUnit) : State :=
  s.modLine b fun l => { l with rate := f l.rate }

/-- Change the history of one line. -/
abbrev State.modHistory (s : State) (b : Bay) (f : History → History) : State :=
  s.modSlice b fun x => { x with history := f x.history }

/-- Change the heartbeat matcher of one bay. -/
abbrev State.modHeartbeat (s : State) (b : Bay) (f : Heartbeat → Heartbeat) : State :=
  s.modSlice b fun x => { x with heartbeat := f x.heartbeat }

/-- Change the prompt responder of one bay. -/
abbrev State.modResponder (s : State) (b : Bay) (f : Responder → Responder) : State :=
  s.modSlice b fun x => { x with responder := f x.responder }

/-- Change the hang monitor of one bay. -/
abbrev State.modMonitor (s : State) (b : Bay) (f : Monitor → Monitor) : State :=
  s.modSlice b fun x => { x with monitor := f x.monitor }

/-- Change the power sequencer of one bay. -/
abbrev State.modSeq (s : State) (b : Bay) (f : Sequencer → Sequencer) : State :=
  s.modSlice b fun x => { x with sequencer := f x.sequencer }

/-- Change the medium record of one bay. -/
abbrev State.modMedium (s : State) (b : Bay) (f : Medium → Medium) : State :=
  s.modSlice b fun x => { x with medium := f x.medium }

/-- Change the media port of one bay. -/
abbrev State.modPort (s : State) (b : Bay) (f : Port → Port) : State := s.modSlice b fun x => { x with port := f x.port }

/-- Change the block cache and its tables. -/
def State.modCache (s : State) (f : Cache → Cache) : State := { s with cache := f s.cache }

/-- Change the grant queue. -/
def State.modGrant (s : State) (f : GrantQueue → GrantQueue) : State := { s with grant := f s.grant }

/-- Change the policy store. -/
def State.modPolicy (s : State) (f : PolicyStore → PolicyStore) : State := { s with policy := f s.policy }

/-- Change the management link. -/
def State.modLink (s : State) (f : Link → Link) : State := { s with link := f s.link }

/-- A counter that saturates at 65,535, one step up (Table 7-1). -/
def bump (n : Nat) : Nat := min (n + 1) Config.counterMax

/-- A value out of its range is replaced by the nearest end of the range (section 5.3, R168). -/
def clamp (lo hi n : Nat) : Nat := max lo (min n hi)

/-! ## Frames (section 11.1) -/

/-- One bit of the CRC-16 with generator x^16 + x^12 + x^5 + 1, most significant bit first (R179). -/
def crcBit (crc : BitVec 16) : BitVec 16 := if crc.msb then (crc <<< 1) ^^^ 0x1021 else crc <<< 1

/-- The CRC-16 after one more byte (R179). -/
def crcByte (crc : BitVec 16) (b : Byte) : BitVec 16 :=
  (List.replicate 8 ()).foldl (fun x _ => crcBit x) (crc ^^^ (b ++ (0 : Byte)))

/-- The CRC-16 of a run of bytes, from 0xFFFF and with no final inversion (R179). -/
def crc16 (bytes : List Byte) : BitVec 16 := bytes.foldl crcByte 0xFFFF

/-- The frame mark (Table 11-1). -/
def frameMark : Byte := 0xC3

/-- An unsigned number in one byte (R180). -/
def le1 (n : Nat) : List Byte := [BitVec.ofNat 8 n]

/-- An unsigned number in two bytes, low byte first (R180). -/
def le2 (n : Nat) : List Byte := [BitVec.ofNat 8 n, BitVec.ofNat 8 (n / 256)]

/-- An unsigned number in three bytes, low byte first: a bay's flag bitmap (R180). -/
def le3 (n : Nat) : List Byte := le2 n ++ le1 (n / 65536)

/-- An unsigned number in four bytes, low byte first (R180). -/
def le4 (n : Nat) : List Byte := le2 n ++ le2 (n / 65536)

/-- The bytes a frame occupies on the wire: mark, length, kind, tag, payload and check, high byte of the check first (Table 11-1). -/
def Frame.wire (f : Frame) : List Byte :=
  let covered := le2 (f.payload.length + 2) ++ f.kind :: f.tag :: f.payload
  let crc := crc16 covered
  frameMark :: covered ++ [crc.extractLsb' 8 8, crc.extractLsb' 0 8]

/-! ## Requests and replies (section 10.3) -/

/-- Reply codes (Table 11-6). -/
inductive ReplyCode where
  | ok
  | malformed
  | range
  | state
  | busy
  | conflict
  | unknown
  | stale
  | duplicate
  | faulted
  deriving DecidableEq, Repr

/-- The byte of a reply code (Table 11-6). -/
def ReplyCode.byte : ReplyCode → Byte
  | .ok => 0
  | .malformed => 1
  | .range => 2
  | .state => 3
  | .busy => 4
  | .conflict => 5
  | .unknown => 6
  | .stale => 7
  | .duplicate => 8
  | .faulted => 9

/-- What a block answers to a request: the state the request leaves, the reply code and the fields of an OK reply. -/
structure Answer where
  state : State
  code : ReplyCode
  fields : List Byte

/-- A refusal: no state changes, and the reply carries only the code (R167, R182). -/
def refuse (c : ReplyCode) (s : State) : Answer := ⟨s, c, []⟩

/-- A request taken and replied OK with the fields its owning rule lists (R167, R182). -/
def accept (s : State) (fields : List Byte) : Answer := ⟨s, .ok, fields⟩

/-- The kind of the reply to a request kind: plus 0x80 (R182); for a kind of 0x80 or above, a free value (log entry 2). -/
def replyKind (kind : Byte) : Byte := if kind.toNat < 128 then kind + 0x80 else Config.wideReplyKind kind

/-- The reply joins the tail of the reply queue, its contents fixed (R167). -/
def pushReply (kind tag : Byte) (a : Answer) : State :=
  a.state.modLink fun l => { l with replies := l.replies ++ [⟨replyKind kind, tag, a.code.byte :: a.fields⟩] }

/-- A bay or line number above 7 is refused with RANGE; otherwise the request goes to its owner (R167, checks 4 and 5). -/
def onBay (n : Byte) (act : Bay → State → Answer) (s : State) : Answer :=
  if h : n.toNat < 8 then act ⟨n.toNat, h⟩ s else refuse .range s

/-- An enumerated field decodes, or the request is refused with MALFORMED (R167, check 3). -/
def withField {α : Type} (v : Option α) (act : α → State → Answer) (s : State) : Answer :=
  match v with
  | some x => act x s
  | none => refuse .malformed s

end Sys2Proof.Machine
end

