-- ==== Sys2Proof/Machine/Flags.lean ====
section
/-! DEFINITION. Event flags, masks and the summary pending mark (section 10.5), the link error counters (R177), and the judgement of a
received frame before it becomes a request (R166). -/

namespace Sys2Proof.Machine

/-- The event flags of a bay (Table 10-2). -/
inductive BayFlag where
  | rateLocked
  | rateFailed
  | rateLost
  | rateDrift
  | qualityReady
  | txDrained
  | ctsChanged
  | promptAnswered
  | promptMissed
  | promptDropped
  | hang
  | hangLimit
  | powerState
  | powerFault
  | serverStopped
  | senseChanged
  | mediaLink
  | mediaEjected
  | mediaWriteFailed
  deriving DecidableEq, Repr

/-- The bit of a bay flag (Table 11-5). -/
def BayFlag.bit : BayFlag → Nat
  | .rateLocked => 0
  | .rateFailed => 1
  | .rateLost => 2
  | .rateDrift => 3
  | .qualityReady => 4
  | .txDrained => 5
  | .ctsChanged => 6
  | .promptAnswered => 7
  | .promptMissed => 8
  | .promptDropped => 9
  | .hang => 10
  | .hangLimit => 11
  | .powerState => 12
  | .powerFault => 13
  | .serverStopped => 14
  | .senseChanged => 15
  | .mediaLink => 16
  | .mediaEjected => 17
  | .mediaWriteFailed => 18

/-- The part-level flags (Table 10-2). -/
inductive PartFlag where
  | restarted
  | linkError
  | sagChanged
  | storeDone
  deriving DecidableEq, Repr

/-- The bit of a part-level flag (section 11.4). -/
def PartFlag.bit : PartFlag → Nat
  | .restarted => 0
  | .linkError => 1
  | .sagChanged => 2
  | .storeDone => 3

/-- A flag of a bay is set. -/
def State.flag (s : State) (b : Bay) (f : BayFlag) : Bool := (s.slice b).flags.getLsbD f.bit

/-- A part-level flag is set. -/
def State.partFlag (s : State) (f : PartFlag) : Bool := s.link.partFlags.getLsbD f.bit

/-- The summary pending mark is set where `raise` holds; a mark already set stays set (R173). -/
def raiseSummary (raise : Bool) (s : State) : State := s.modLink fun l => { l with summaryPending := l.summaryPending || raise }

/-- A block flags an event of a bay: the flag is set whatever its mask (R172), and an unmasked flag that goes from clear to set makes
the summary pending (R173). -/
def setFlag (b : Bay) (f : BayFlag) (s : State) : State :=
  raiseSummary (!(s.slice b).flags.getLsbD f.bit && (s.slice b).unmasked.getLsbD f.bit)
    (s.modSlice b fun x => { x with flags := x.flags ||| BitVec.twoPow 19 f.bit })

/-- A block flags an event of the part (R172, R173). -/
def setPartFlag (f : PartFlag) (s : State) : State :=
  raiseSummary (!s.link.partFlags.getLsbD f.bit && s.link.partUnmasked.getLsbD f.bit)
    (s.modLink fun l => { l with partFlags := l.partFlags ||| BitVec.twoPow 4 f.bit })

/-- Set a flag where a condition holds. -/
def setFlagIf (c : Bool) (b : Bay) (f : BayFlag) (s : State) : State := if c then setFlag b f s else s

/-- Count a dropped frame under its cause (R177). -/
def countDrop (cause : DropCause) (l : Link) : Link :=
  match cause with
  | .length => { l with lengthErrors := bump l.lengthErrors }
  | .check => { l with checkErrors := bump l.checkErrors }
  | .tag => { l with tagErrors := bump l.tagErrors }
  | .overflow => { l with overflowErrors := bump l.overflowErrors }

/-- A frame is dropped: its counter increases and LINK_ERROR is flagged (R165, R166, R177). -/
def dropFrame (cause : DropCause) (s : State) : State := setPartFlag .linkError (s.modLink (countDrop cause))

/-- The receiver hunts for the next frame mark (R165). -/
def toHunt (s : State) : State := s.modLink fun l => { l with receiver := .hunt }

/-- A frame that has passed its check is judged in the order of R166 and, where it becomes a request, taken by `act`. Under the link
hold no frame is received (R164); while a restart is pending the frame is discarded without a count (R160). -/
def judgeFrame (tag : Byte) (act : State → State) (s : State) : State :=
  if s.link.hold || s.policy.restartPending then toHunt s
  else if tag = 0 then dropFrame .tag (toHunt s)
  else if Config.replyMax ≤ s.link.replies.length then dropFrame .overflow (toHunt s)
  else act (toHunt s)

/-- A request of a kind is judged, taken by its owner and replied (R166, R167). -/
def takeRequest (kind tag : Byte) (act : State → Answer) (s : State) : State :=
  judgeFrame tag (fun s => pushReply kind tag (act s)) s

end Sys2Proof.Machine
end

