-- ==== Sys2Proof/Machine/Operands.lean ====
section
/-! DEFINITION. How fields are carried in a payload (section 11.2): decoding of the enumerated and on/off fields a request reads, and
encoding of every kind of field a reply or a notice carries (R180, Table 11-2). -/

namespace Sys2Proof.Machine

/-! ## Fields a request reads -/

/-- An on/off field: 1 for on, 0 for off, any other value undefined (R180). -/
def onOff (b : Byte) : Option Bool :=
  match b.toNat with
  | 0 => some false
  | 1 => some true
  | _ => none

/-- Parity (Table 11-2). -/
def parityOf (b : Byte) : Option Parity :=
  match b.toNat with
  | 0 => some .none
  | 1 => some .even
  | 2 => some .odd
  | _ => none

/-- Loop policy and the mode of RATE_MODE: 1 and 2 only (Table 11-2). -/
def loopPolicyOf (b : Byte) : Option LoopPolicy :=
  match b.toNat with
  | 1 => some .track
  | 2 => some .hold
  | _ => none

/-- Window size (Table 11-2). -/
def windowOf (b : Byte) : Option WindowSize :=
  match b.toNat with
  | 0 => some .w256
  | 1 => some .w1024
  | 2 => some .w4096
  | _ => none

/-- RATE_SET form: true for a divisor, false for a table index (Table 11-2). -/
def rateFormOf (b : Byte) : Option Bool := onOff b

/-- ATTACH start form (R51). -/
inductive StartForm where
  | next
  | oldest
  | position
  deriving DecidableEq, Repr

/-- ATTACH start form (Table 11-2). -/
def startFormOf (b : Byte) : Option StartForm :=
  match b.toNat with
  | 0 => some .next
  | 1 => some .oldest
  | 2 => some .position
  | _ => none

/-- Watch source (Table 11-2). -/
def watchSourceOf (b : Byte) : Option WatchSource :=
  match b.toNat with
  | 0 => some .anyOutput
  | 1 => some .heartbeat
  | _ => none

/-- Watch action (Table 11-2). -/
def watchActionOf (b : Byte) : Option WatchAction :=
  match b.toNat with
  | 0 => some .notify
  | 1 => some .reset
  | 2 => some .cycle
  | _ => none

/-- Restore policy (Table 11-2). -/
def restorePolicyOf (b : Byte) : Option RestorePolicy :=
  match b.toNat with
  | 0 => some .off
  | 1 => some .on
  | 2 => some .last
  | _ => none

/-- WRITE_DONE outcome: true for ok (Table 11-2). -/
def outcomeOf (b : Byte) : Option Bool :=
  match b.toNat with
  | 0 => some true
  | 1 => some false
  | _ => none

/-! ## Fields a reply carries -/

/-- An on/off, set/clear, asserted, high, pressed or armed field (R180). -/
def bit (b : Bool) : List Byte := [if b then 1 else 0]

/-- A field that may be absent: a presence byte, then the field; when absent its bytes are sent as 0 (R180). -/
def optional (width : Nat) (enc : Nat → List Byte) (v : Option Nat) : List Byte :=
  match v with
  | some n => 1 :: enc n
  | none => 0 :: List.replicate width 0

/-- The two's complement of a signed number in a given count of bits (R180). -/
def twosComplement (bits : Nat) (i : Int) : Nat := (i % (2 ^ bits : Nat)).toNat

/-- Parity code (Table 11-2). -/
def Parity.code : Parity → Nat
  | .none => 0
  | .even => 1
  | .odd => 2

/-- Mode code (Table 11-2). -/
def Mode.code : Mode → Nat
  | .manual => 0
  | .track => 1
  | .hold => 2

/-- The mode a loop policy names (R25). -/
def LoopPolicy.mode : LoopPolicy → Mode
  | .track => .track
  | .hold => .hold

/-- Window size code (Table 11-2). -/
def WindowSize.code : WindowSize → Nat
  | .w256 => 0
  | .w1024 => 1
  | .w4096 => 2

/-- Window size in characters (Table 1-1). -/
def WindowSize.characters : WindowSize → Nat
  | .w256 => 256
  | .w1024 => 1024
  | .w4096 => 4096

/-- Detection result code (Table 11-2). -/
def DetectionResult.code : DetectionResult → Nat
  | .none => 0
  | .table => 1
  | .custom => 2
  | .failed => 3
  | .noSignal => 4
  | .cancelled => 5

/-- History entry kind code (Table 11-2). -/
def EntryKind.code : EntryKind → Nat
  | .data => 0
  | .parity => 1
  | .framing => 2
  | .brk => 3

/-- Watch source code (Table 11-2). -/
def WatchSource.code : WatchSource → Nat
  | .anyOutput => 0
  | .heartbeat => 1

/-- Watch action code (Table 11-2). -/
def WatchAction.code : WatchAction → Nat
  | .notify => 0
  | .reset => 1
  | .cycle => 2

/-- Hang monitor state code (Table 11-2). -/
def MonitorState.code : MonitorState → Nat
  | .disabled => 0
  | .suspended => 1
  | .grace => 2
  | .watching => 3
  | .expired => 4
  | .acting => 5

/-- Sequencer state code (Table 11-2). -/
def SeqState.code : SeqState → Nat
  | .off => 0
  | .queued => 1
  | .powering => 2
  | .on => 3
  | .resetting => 4
  | .softStopping => 5
  | .holdOff => 6
  | .fault => 7

/-- Last fault reason code (Table 11-2). -/
def FaultReason.code : FaultReason → Nat
  | .none => 0
  | .powerGoodTimeout => 1
  | .softStopTimeout => 2

/-- Restore policy code (Table 11-2). -/
def RestorePolicy.code : RestorePolicy → Nat
  | .off => 0
  | .on => 1
  | .last => 2

/-- Medium state code (Table 11-2). -/
def MediumState.code : MediumState → Nat
  | .empty => 0
  | .present => 1
  | .ejectPending => 2

/-- The twelve configuration fields in the order of Table 1-1 (R20). -/
def LineConfig.encode (c : LineConfig) : List Byte :=
  le1 c.framing.dataBits ++ le1 c.framing.parity.code ++ le1 c.framing.stopBits ++ le1 c.flushThreshold ++ le1 c.idleFlush ++
  bit c.ctsHonour ++ bit c.loopback ++ bit c.detectOnPowerOn ++ le1 c.loopPolicy.mode.code ++ bit c.customRate ++
  le1 c.window.code ++ le1 c.errorThreshold

/-- The four counts of a window (R36). -/
def WindowCounts.encode (w : WindowCounts) : List Byte :=
  le2 w.characters ++ le2 w.parityErrors ++ le2 w.framingErrors ++ le2 w.breaks

/-- The detection record: result, locked index, W_min, nearest entry and its d, q, c (Table 2-1, R180). -/
def DetectionRecord.encode (r : DetectionRecord) : List Byte :=
  le1 r.result.code ++ optional 1 le1 r.lockedIndex ++ optional 4 le4 r.wMin ++ optional 1 le1 r.nearest ++
  optional 4 le4 r.distance ++ optional 2 le2 r.q ++ optional 2 le2 r.c

/-- The watch settings in the order of Table 4-3 (R70). -/
def WatchSettings.encode (w : WatchSettings) : List Byte :=
  le1 w.source.code ++ le2 w.period ++ le2 w.grace ++ le1 w.action.code ++ le1 w.limit ++ bit w.enable

/-- The six power settings in the order of Table 5-3 (R80). -/
def PowerSettings.encode (p : PowerSettings) : List Byte :=
  le1 p.powerGood ++ le1 p.softStop ++ le1 p.holdOff ++ le1 p.resetPulse ++ le1 p.button ++ le1 p.weight

/-- A bay record in the order of Table 9-1 (R154, R180). -/
def BayRecord.encode (r : BayRecord) : List Byte :=
  le1 r.policy.code ++ bit r.lastOn ++ le1 r.settings.weight ++ le1 r.settings.powerGood ++ le1 r.settings.softStop ++
  le1 r.settings.holdOff ++ le1 r.settings.resetPulse ++ le1 r.settings.button

/-- The global record in the order of Table 9-1 (R154, R180). -/
def GlobalRecord.encode (r : GlobalRecord) : List Byte := le1 r.budget ++ le1 r.restoreDelay

/-- History entries, each with its kind and value (R49, R180). -/
def encodeEntries (es : List HistoryEntry) : List Byte := es.flatMap fun e => le1 e.kind.code ++ [e.value]

/-- A list of bays: a count, then the bays (R180). -/
def encodeBays (bs : List Bay) : List Byte := le1 bs.length ++ bs.flatMap fun b => le1 b.val

/-! ## Power settings out of their range (Table 5-3, R80, R154) -/

/-- Six values, each clamped to its range of Table 5-3. -/
def PowerSettings.clamped (powerGood softStop holdOff resetPulse button weight : Nat) : PowerSettings where
  powerGood := clamp 1 255 powerGood
  softStop := clamp 1 255 softStop
  holdOff := clamp 1 60 holdOff
  resetPulse := clamp 1 255 resetPulse
  button := clamp 10 250 button
  weight := clamp 1 15 weight

end Sys2Proof.Machine
end

