-- ==== Sys2Proof/Machine/Transmit.lean ====
section
/-! DEFINITION. The transmit side of a console line (sections 1.2 and 1.4 to 1.6): character frames, the transmit queue, the
transmitter, RTS and the CTS level seen, the drain mark, and the requests and events SEND, BREAK, RTS, CTS_CHANGE,
TX_BREAK_LOW_END and TX_ELEMENT_COMPLETE. -/

namespace Sys2Proof.Machine

/-! ## Character frames and bit timing (R2, R22) -/

/-- Parity bits in a frame (R2). -/
def Framing.parityBits (f : Framing) : Nat := if f.parity = .none then 0 else 1

/-- Frame length in bits (R2). -/
def Framing.length (f : Framing) : Nat := 1 + f.dataBits + f.parityBits + f.stopBits

/-- The low data bits of a byte, least significant first (R2, R10). -/
def Framing.dataOf (f : Framing) (v : Byte) : List Bool := (List.range f.dataBits).map fun i => v.getLsbD i

/-- The parity bit that makes the number of ones even or odd (R2); read only where there is a parity bit. -/
def Framing.parityOf (f : Framing) (bits : List Bool) : Bool :=
  match f.parity with
  | .odd => bits.count true % 2 = 0
  | _ => bits.count true % 2 = 1

/-- The levels of a frame, one per bit time: start bit low, data bits, parity bit if any, stop bits high (R2, R10). -/
def Framing.frame (f : Framing) (v : Byte) : List Bool :=
  false :: f.dataOf v ++ List.replicate f.parityBits (f.parityOf (f.dataOf v)) ++ List.replicate f.stopBits true

/-- The lengths of the 16 sample ticks of a bit time, in reference clocks: the first B mod 16 are one longer (R22). -/
def tickLengths (b : Nat) : List Nat := (List.range 16).map fun i => if i < b % 16 then b / 16 + 1 else b / 16

/-- The character time C, with the framing and the divisor in force (R2, R23). -/
def Line.charTime (l : Line) : Nat := l.config.framing.length * l.rate.divisor

/-! ## Pins -/

/-- The CTS level seen by the line: the pin, or the line's own RTS output in loopback (R18). -/
def Line.seenCts (l : Line) : Bool := if l.config.loopback then l.rts else l.conCts

/-- What the transmitter drives for the element in flight: the bits of a frame, one bit time each, or a BREAK's low time and its recovery
bit (R10, R11); high while IDLE. -/
def Transmitter.spans : Transmitter → List Span
  | .idle => []
  | .character bits n => bits.map fun v => ⟨v, n⟩
  | .breakLow d n => [⟨false, d * Config.clocksPer10ms⟩, ⟨true, n⟩]
  | .breakRecovery _ n => [⟨true, n⟩]

/-- What is driven onto CON_TX: the transmitter's element, or nothing but the idle high in loopback (R19). -/
def Line.conTx (l : Line) : List Span := if l.config.loopback then [] else l.tx.spans

/-- An element starts; in loopback the internal signal is about to take all it drives (R9, R19). -/
def Line.startElement (t : Transmitter) (l : Line) : Line :=
  { l with tx := t, looped := if l.config.loopback then some t.spans else none }

/-- A change of the seen CTS level flags CTS_CHANGED and becomes the reference (R18). -/
def ctsCheck (b : Bay) (s : State) : State :=
  let seen := (s.slice b).line.seenCts
  setFlagIf (seen != (s.slice b).line.ctsRef) b .ctsChanged (s.modLine b fun l => { l with ctsRef := seen })

/-! ## The queue and the transmitter -/

/-- Free space of the transmit queue (R8). -/
def Line.free (l : Line) : Nat := Config.txQueueMax - l.queue.length

/-- Elements join the tail of the queue (R8). -/
def appendTx (b : Bay) (els : List TxElement) (s : State) : State := s.modLine b fun l => { l with queue := l.queue ++ els }

/-- The start of an element is allowed: CTS honour off, or the seen level asserted (R9). -/
def Line.startAllowed (l : Line) : Bool := !l.config.ctsHonour || l.seenCts

/-- At an element's completion: a line whose queue holds no waiting element has drained, and with the drain mark set TX_DRAINED is
flagged and the mark clears (R17). -/
def drainCheck (b : Bay) (s : State) : State :=
  let l := (s.slice b).line
  if l.queue.isEmpty && l.drainMark then setFlag b .txDrained (s.modLine b fun l => { l with drainMark := false }) else s

/-- From IDLE, start the waiting elements `q` from the head for as long as the start is allowed; a DATA or BREAK element stays in
flight, an RTS element sets the output and completes at once (R9 to R12). -/
def startFrom (b : Bay) : List TxElement → State → State
  | [], s => s
  | e :: rest, s =>
    let l := (s.slice b).line
    if l.startAllowed then
      match e with
      | .data v => s.modLine b fun l => { l with queue := rest }.startElement (.character (l.config.framing.frame v) l.rate.divisor)
      | .brk d => s.modLine b fun l => { l with queue := rest }.startElement (.breakLow d l.rate.divisor)
      | .rts level => startFrom b rest (drainCheck b (ctsCheck b (s.modLine b fun l => { l with queue := rest, rts := level })))
    else s

/-- An idle transmitter starts the head of the queue (R9). -/
def startTx (b : Bay) (s : State) : State :=
  if (s.slice b).line.tx = .idle then startFrom b (s.slice b).line.queue s else s

/-! ## Requests (section 1.5) -/

/-- SEND on a line: as many bytes as fit join the queue, and the drain mark takes the option (R13). The free space reported is the one
left after the append (log entry 9). -/
def sendAct (drain : Bool) (bytes : List Byte) (b : Bay) (s : State) : Answer :=
  if bytes.length = 0 || 240 < bytes.length then refuse .malformed s
  else
    let free := (s.slice b).line.free
    let taken := bytes.take free
    let s' := appendTx b (taken.map .data) (s.modLine b fun l => { l with drainMark := drain })
    accept (startTx b s') (le1 taken.length ++ le2 (free - taken.length))

/-- One element joins the queue, or the request is refused with BUSY (R14, R15). The free space reported is that of the state the request
leaves, in which an element that starts at once has left the queue again (R9, R167). -/
def joinTx (e : TxElement) (b : Bay) (s : State) : Answer :=
  let t := startTx b (appendTx b [e] s)
  if (s.slice b).line.free = 0 then refuse .busy s else accept t (le2 (t.slice b).line.free)

/-- SEND (R13). -/
def takeSend (tag line drain : Byte) (bytes : List Byte) (s : State) : State :=
  takeRequest 0x09 tag (withField (onOff drain) fun d => onBay line (sendAct d bytes)) s

/-- BREAK: a duration of 0 is clamped to 1 (R14). -/
def takeSendBreak (tag line duration : Byte) (s : State) : State :=
  takeRequest 0x0A tag (onBay line (joinTx (.brk (clamp 1 255 duration.toNat)))) s

/-- RTS (R15). -/
def takeRts (tag line level : Byte) (s : State) : State :=
  takeRequest 0x0B tag (withField (onOff level) fun v => onBay line (joinTx (.rts v))) s

/-- The meaning of SEND (R13). -/
def execSend (tag line drain : Byte) (bytes : List Byte) (s : State) : Host.Outcome State Fault Refusal :=
  .next (takeSend tag line drain bytes s)

/-- The meaning of BREAK (R14). -/
def execSendBreak (tag line duration : Byte) (s : State) : Host.Outcome State Fault Refusal :=
  .next (takeSendBreak tag line duration s)

/-- The meaning of RTS (R15). -/
def execRts (tag line level : Byte) (s : State) : Host.Outcome State Fault Refusal := .next (takeRts tag line level s)

/-! ## Events -/

/-- The CON_CTS pin takes a level: a change of the seen level flags CTS_CHANGED and may allow a held start (R9, R18). -/
def execCtsChange (b : Bay) (level : Bool) (s : State) : Host.Outcome State Fault Refusal :=
  .next (startTx b (ctsCheck b (s.modLine b fun l => { l with conCts := level })))

/-- The low time of a BREAK element ends and its recovery bit time begins (R11). -/
def execTxBreakLowEnd (b : Bay) (s : State) : Host.Outcome State Fault Refusal :=
  match (s.slice b).line.tx with
  | .breakLow d n => .next (s.modLine b fun l => { l with tx := .breakRecovery d n })
  | _ => .next s

/-- A DATA frame or a BREAK recovery bit ends: the transmitter is IDLE, the line may have drained, and the next element starts
(R9, R10, R11, R17). -/
def completeTx (b : Bay) (s : State) : State := startTx b (drainCheck b (s.modLine b fun l => { l with tx := .idle, looped := some [] }))

/-- The meaning of TX_ELEMENT_COMPLETE (R10, R11); with no such element in flight there is nothing to complete. -/
def execTxElementComplete (b : Bay) (s : State) : Host.Outcome State Fault Refusal :=
  match (s.slice b).line.tx with
  | .character _ _ => .next (completeTx b s)
  | .breakRecovery _ _ => .next (completeTx b s)
  | _ => .next s

end Sys2Proof.Machine
end

