-- ==== Sys2Proof/Machine/Watch.lean ====
section
/-! DEFINITION. Pattern matchers, prompt responder and hang monitor (chapter 4): the matching rule, arming and disarming, activity,
the monitor against the sequencer's transitions, and the commands MATCH_SET, WATCH_SET, WATCH_CLEAR, PROMPT_WINDOW_EXPIRY and
WATCH_TIMER_EXPIRY. -/

namespace Sys2Proof.Machine

/-! ## The matching rule (R62) -/

/-- The length, at most `k`, of the longest ending of `text` that is a beginning of `pattern` (R62). -/
def longestEnding (text pattern : List Byte) : Nat → Nat
  | 0 => 0
  | k + 1 => if text.drop (text.length - (k + 1)) = pattern.take (k + 1) then k + 1 else longestEnding text pattern k

/-- A matcher takes one presented entry: its new j, and whether a match is taken. With an absent pattern j stays 0 (R62). -/
def matchStep (pattern : List Byte) (j : Nat) (e : HistoryEntry) : Nat × Bool :=
  if pattern.isEmpty then (0, false)
  else
    match e.kind with
    | .data =>
      let text := pattern.take j ++ [e.value]
      let k := longestEnding text pattern text.length
      if k = pattern.length then (0, true) else (k, false)
    | _ => (0, false)

/-- Both matchers of a line set j to 0, at the start or restart of a detection (R63). -/
def clearMatchers (b : Bay) (s : State) : State :=
  (s.modHeartbeat b fun h => { h with j := 0 }).modResponder b fun r => { r with j := 0 }

/-! ## The prompt responder -/

/-- The responder arms where its enable is on: j = 0 and the window timer starts with the window in force (R67). -/
def armResponder (b : Bay) (s : State) : State :=
  s.modResponder b fun r => if r.enable then { r with armed := some r.window, j := 0 } else r

/-- The responder disarms and its window timer stops; while it is disarmed its j stays at 0 (R63, R69). -/
def disarmResponder (b : Bay) (s : State) : State := s.modResponder b fun r => { r with armed := none, j := 0 }

/-- A match taken while armed: the response joins the transmit queue whole, or not at all, and is flagged; the responder disarms, and
with one-shot on turns its own enable off (R16, R68). -/
def promptMatch (b : Bay) (s : State) : State :=
  let r := (s.slice b).responder
  let fits := r.response.length ≤ (s.slice b).line.free
  let queued := if fits then setFlag b .promptAnswered (appendTx b (r.response.map .data) s) else setFlag b .promptDropped s
  startTx b ((disarmResponder b queued).modResponder b fun r => { r with enable := r.enable && !r.oneShot })

/-- The prompt matcher steps on a presented entry while the responder is armed (R63). -/
def presentToPrompt (b : Bay) (e : HistoryEntry) (s : State) : State :=
  let r := (s.slice b).responder
  if r.armed.isSome then
    let step := matchStep r.pattern r.j e
    let s' := s.modResponder b fun r => { r with j := step.1 }
    if step.2 then promptMatch b s' else s'
  else s

/-! ## The hang monitor -/

/-- Activity at the monitor (R71). -/
def Monitor.activity (m : Monitor) : Monitor :=
  match m.state with
  | .grace | .watching | .expired => { m with state := .watching, timer := some m.settings.period }
  | .disabled | .suspended | .acting => m

/-- Activity of the bay's line reaches the monitor where its source is ANY_OUTPUT (R28, R71). -/
def outputActivity (b : Bay) (s : State) : State :=
  s.modMonitor b fun m => if m.settings.source = .anyOutput then m.activity else m

/-- A heartbeat match sets the count to 0 and, with source HEARTBEAT, is activity (R66). -/
def heartbeatMatch (b : Bay) (s : State) : State :=
  s.modMonitor b fun m =>
    let m := { m with count := 0 }
    if m.settings.source = .heartbeat then m.activity else m

/-- The heartbeat matcher steps on every presented entry (R63, R66). -/
def presentToHeartbeat (b : Bay) (e : HistoryEntry) (s : State) : State :=
  let h := (s.slice b).heartbeat
  let step := matchStep h.pattern h.j e
  let s' := s.modHeartbeat b fun h => { h with j := step.1 }
  if step.2 then heartbeatMatch b s' else s'

/-- An appended DATA entry is activity under ANY_OUTPUT (R71). -/
def presentToMonitor (b : Bay) (e : HistoryEntry) (s : State) : State := if e.kind = .data then outputActivity b s else s

/-- The monitor becomes SUSPENDED with its timer stopped, unless it is DISABLED (R74). -/
def Monitor.suspend (m : Monitor) : Monitor :=
  if m.state = .disabled then m else { m with state := .suspended, timer := none }

/-- The bay reaches ON from POWERING, or RESETTING ends: SUSPENDED and ACTING enter GRACE with the full G (Table 4-5). -/
def Monitor.reachOn (m : Monitor) : Monitor :=
  if m.state = .suspended ∨ m.state = .acting then { m with state := .grace, timer := some m.settings.grace } else m

/-- The bay leaves ON, or loses power, or enters OFF: the monitor is suspended, but an ACTING monitor whose own request is being taken
stays ACTING (Table 4-5, R98). -/
def suspendMonitor (own : Bool) (b : Bay) (s : State) : State :=
  s.modMonitor b fun m => if own && m.state = .acting then m else m.suspend

/-- The state in which enable and the sequencer's state place a monitor (R70, R78). -/
def Monitor.place (on : Bool) (m : Monitor) : Monitor :=
  if m.settings.enable then
    if on then { m with state := .grace, timer := some m.settings.grace } else { m with state := .suspended, timer := none }
  else { m with state := .disabled, timer := none }

/-! ## Requests -/

/-- MATCH_SET for the HEARTBEAT matcher of a line (R64). -/
def matchHeartbeatAct (pattern : List Byte) (b : Bay) (s : State) : Answer :=
  if 16 < pattern.length then refuse .malformed s
  else accept (s.modHeartbeat b fun _ => ⟨pattern, 0⟩) (le1 pattern.length)

/-- MATCH_SET for the PROMPT matcher of a line: with enable off the responder disarms, with enable on an arming keeps its expiry (R65). -/
def matchPromptAct (enable oneShot : Bool) (window : Nat) (pattern response : List Byte) (b : Bay) (s : State) : Answer :=
  if 16 < pattern.length || 16 < response.length || (enable && (pattern.isEmpty || response.isEmpty)) then refuse .malformed s
  else
    let w := clamp 1 600 window
    accept (s.modResponder b fun r => ⟨pattern, response, w, enable, oneShot, if enable then r.armed else none, 0⟩)
      (le1 pattern.length ++ le1 response.length ++ le2 w ++ bit enable ++ bit oneShot)

/-- WATCH_SET on a bay: the settings as clamped, the count 0, the monitor placed by Table of R70, and a request not yet taken withdrawn
(R70, R73). -/
def watchSetAct (source : WatchSource) (action : WatchAction) (enable : Bool) (f : WatchFields) (b : Bay) (s : State) : Answer :=
  let w : WatchSettings := ⟨source, max 5 f.period.toNat, max 10 f.grace.toNat, action, min f.limit.toNat 15, enable⟩
  let s' := s.modMonitor b fun m => Monitor.place ((s.slice b).sequencer.state = .on)
    { m with settings := w, count := 0, outstanding := if m.state = .acting then none else m.outstanding }
  accept s' (w.encode ++ le1 (s'.slice b).monitor.state.code ++ le1 0)

/-- WATCH_CLEAR on a bay (R76). -/
def watchClearAct (b : Bay) (s : State) : Answer :=
  accept (s.modMonitor b fun m => { m with count := 0 }) (le1 (s.slice b).monitor.state.code)

/-- MATCH_SET HEARTBEAT (R64). -/
def takeMatchSetHeartbeat (tag line : Byte) (pattern : List Byte) (s : State) : State :=
  takeRequest 0x20 tag (onBay line (matchHeartbeatAct pattern)) s

/-- MATCH_SET PROMPT (R65). -/
def takeMatchSetPrompt (tag line enable oneShot : Byte) (window : BitVec 16) (pattern response : List Byte) (s : State) : State :=
  takeRequest 0x20 tag (withField (onOff enable) fun en => withField (onOff oneShot) fun one =>
    onBay line (matchPromptAct en one window.toNat pattern response)) s

/-- WATCH_SET (R70). -/
def takeWatchSet (tag bay : Byte) (f : WatchFields) (s : State) : State :=
  takeRequest 0x21 tag (withField (watchSourceOf f.source) fun src => withField (watchActionOf f.action) fun act =>
    withField (onOff f.enable) fun en => onBay bay (watchSetAct src act en f)) s

/-- WATCH_CLEAR (R76). -/
def takeWatchClear (tag bay : Byte) (s : State) : State := takeRequest 0x22 tag (onBay bay watchClearAct) s

/-- The meaning of MATCH_SET HEARTBEAT (R64). -/
def execMatchSetHeartbeat (tag line : Byte) (pattern : List Byte) (s : State) : Host.Outcome State Fault Refusal :=
  .next (takeMatchSetHeartbeat tag line pattern s)

/-- The meaning of MATCH_SET PROMPT (R65). -/
def execMatchSetPrompt (tag line enable oneShot : Byte) (window : BitVec 16) (pattern response : List Byte) (s : State) :
    Host.Outcome State Fault Refusal :=
  .next (takeMatchSetPrompt tag line enable oneShot window pattern response s)

/-- The meaning of WATCH_SET (R70). -/
def execWatchSet (tag bay : Byte) (f : WatchFields) (s : State) : Host.Outcome State Fault Refusal := .next (takeWatchSet tag bay f s)

/-- The meaning of WATCH_CLEAR (R76). -/
def execWatchClear (tag bay : Byte) (s : State) : Host.Outcome State Fault Refusal := .next (takeWatchClear tag bay s)

/-! ## Timer expiries -/

/-- The responder's window expires while armed: it disarms and PROMPT_MISSED is flagged (R69). -/
def execPromptWindowExpiry (b : Bay) (s : State) : Host.Outcome State Fault Refusal :=
  if (s.slice b).responder.armed.isSome then .next (setFlag b .promptMissed (disarmResponder b s)) else .next s

/-- The action check at an expiry of the watch timer (R72, R75). -/
def actionCheck (b : Bay) (s : State) : State :=
  let m := (s.slice b).monitor
  let stop (st : MonitorState) : State := s.modMonitor b fun m => { m with state := st, timer := none }
  let request (r : WatchRequest) : State :=
    if m.count < m.settings.limit then
      s.modMonitor b fun m => { m with state := .acting, timer := none, count := m.count + 1, outstanding := some r }
    else setFlag b .hangLimit (stop .expired)
  match m.settings.action with
  | .reset => request .reset
  | .cycle => request .cycle
  | .notify => stop .expired

/-- The watch timer expires in GRACE or WATCHING: HANG is flagged and the action check made (R72). With the timer stopped there is no
expiry. -/
def execWatchTimerExpiry (b : Bay) (s : State) : Host.Outcome State Fault Refusal :=
  if (s.slice b).monitor.timer.isSome ∧ ((s.slice b).monitor.state = .grace ∨ (s.slice b).monitor.state = .watching) then
    .next (actionCheck b (setFlag b .hang s))
  else .next s

end Sys2Proof.Machine
end

