-- ==== Sys2Proof/Machine/Rate.lean ====
section
/-! DEFINITION. The rate unit (chapter 2): divisor arithmetic, detection, tracking, quality windows, and the commands RATE_SET,
RATE_MODE, RATE_DETECT, QUALITY and DETECTION_WINDOW_EXPIRY. -/

namespace Sys2Proof.Machine

/-! ## Arithmetic (R23, R24) -/

/-- Least and greatest bit divisor (R22). -/
def divisorMin : Nat := 32

/-- Greatest bit divisor (R22). -/
def divisorMax : Nat := 1048575

/-- f_ref / B in bit/s, rounded to nearest, halves up (R23). -/
def reportedRate (b : Nat) : Nat := (2 * Config.fRef + b) / (2 * b)

/-- (B_lock - B) × 1,000,000 / B in ppm, rounded to nearest, halves away from zero (R23). -/
def deviation (lock b : Nat) : Int :=
  let x : Int := ((lock : Int) - (b : Int)) * 1000000
  let magnitude : Int := ((2 * x.natAbs + b) / (2 * b) : Nat)
  if x < 0 then -magnitude else magnitude

/-- The difference of two numbers, without sign. -/
def absDiff (a b : Nat) : Nat := max a b - min a b

/-- d = |W_min - B_nom| × 1,000,000 / B_nom, truncated, in ppm (R30). -/
def ppmDistance (w nominal : Nat) : Nat := absDiff w nominal * 1000000 / nominal

/-- The nearest of the entries left, against the best so far: the smaller d, and where two share it the lower index (R30). -/
def nearestFrom (w : Nat) : List Nat → Nat → Nat × Nat → Nat × Nat
  | [], _, best => best
  | n :: rest, i, best => nearestFrom w rest (i + 1) (if ppmDistance w n < best.2 then (i, ppmDistance w n) else best)

/-- The index of the nearest table entry and its d (R30). -/
def nearestEntry (w : Nat) : Nat × Nat :=
  nearestFrom w (Config.divisorTable.drop 1) 1 (0, ppmDistance w (Config.divisorTable.headD 0))

/-! ## Detection (R27 to R31) -/

/-- A detection starts or restarts: W_min none, q and c 0, the 3 s window from its start; the receiver abandons what it has in
progress, the edge timer discards its low period, and both matchers set j to 0 (R7, R26, R27, R63). -/
def startDetection (b : Bay) (s : State) : State :=
  clearMatchers b (s.modLine b fun l =>
    { l with receiver := .waitHigh, lowPeriod := none, rate := { l.rate with detection := some {} } })

/-- The line state becomes RUNNING and the receiver enters WAIT_HIGH; the edge timer discards the low period in progress (R7, R26, R30). R29
has a pulse whose rise comes after the window's expiry delivered to RUNNING; R7 and R26 have the pulse in progress at the detection's end
delivered to no consumer, and that is followed (DESIGN CHOICE, log entry 50). -/
def Line.endDetection (l : Line) (r : RateUnit) : Line :=
  { l with receiver := .waitHigh, lowPeriod := none, rate := { r with detection := none } }

/-- The line locks to a divisor: B and B_lock, rate index, A, drift mark, mode and detection record are set and RATE_LOCKED is flagged
(R30, R31). -/
def lockLine (b : Bay) (n index : Nat) (record : DetectionRecord) (s : State) : State :=
  setFlag b .rateLocked (s.modLine b fun l => l.endDetection
    { l.rate with divisor := n, lock := n, index := index, acc := 0, drift := .none, mode := l.config.loopPolicy.mode, record := record })

/-- The detection fails: the remembered values stand, the record is written and RATE_FAILED is flagged (R31). -/
def failDetection (b : Bay) (record : DetectionRecord) (s : State) : State :=
  setFlag b .rateFailed (s.modLine b fun l => l.endDetection { l.rate with record := record })

/-- The widest d, in ppm, at which the table matches (R30). -/
def ppmLimit : Nat := 40000

/-- The outcome of a detection that holds W_min = `w`, with the index and the d of the nearest entry (R30, R31). -/
def concludeDetection (b : Bay) (nearest : Nat × Nat) (w q c : Nat) (s : State) : State :=
  if nearest.2 ≤ ppmLimit then
    lockLine b (Config.divisorTable.getD nearest.1 0) nearest.1
      ⟨.table, some nearest.1, some w, some nearest.1, some nearest.2, some q, some c⟩ s
  else if (s.slice b).line.config.customRate then
    lockLine b (clamp divisorMin divisorMax w) Config.customIndex
      ⟨.custom, some Config.customIndex, some w, some nearest.1, some nearest.2, some q, some c⟩ s
  else failDetection b ⟨.failed, none, some w, some nearest.1, some nearest.2, some q, some c⟩ s

/-- Evaluation of a detection that holds W_min = `w` (R30, R31). -/
def evaluateDetection (b : Bay) (w q c : Nat) (s : State) : State := concludeDetection b (nearestEntry w) w q c s

/-- Steps 2 to 6 of R28 for a pulse that qualifies. -/
def Detection.step (d : Detection) (len : Nat) : Detection :=
  let q := bump d.q
  match d.wMin with
  | none => ⟨some len, q, 1⟩
  | some w =>
    if absDiff len w ≤ w / 8 then ⟨some (min w len), q, bump d.c⟩
    else if len < w then ⟨some len, q, 1⟩
    else ⟨some w, q, d.c⟩

/-- A pulse delivered to a detection (R28): glitches and saturated pulses are ignored; one that qualifies is activity and may end the
detection. -/
def detectionPulse (b : Bay) (len : Nat) (d : Detection) (s : State) : State :=
  if len < divisorMin ∨ len = Config.edgeTimerMax then s
  else
    let d' := d.step len
    let s' := outputActivity b (s.modRate b fun r => { r with detection := some d' })
    if 8 ≤ d'.q ∧ 4 ≤ d'.c then evaluateDetection b (d'.wMin.getD len) d'.q d'.c s' else s'

/-! ## Tracking (R32 to R35) -/

/-- B_min of a line: the larger of 32 and B_lock - floor(B_lock / 32) (R33). -/
def trackMin (lock : Nat) : Nat := max divisorMin (lock - lock / 32)

/-- B_max of a line: the smaller of 1,048,575 and B_lock + floor(B_lock / 32) (R33). -/
def trackMax (lock : Nat) : Nat := min divisorMax (lock + lock / 32)

/-- B, A and the drift mark while B is stepped, and whether RATE_DRIFT is to be flagged (R33, R34). -/
structure Stepping where
  b : Nat
  a : Int
  drift : DriftMark
  flagged : Bool
  deriving DecidableEq, Repr

/-- The drift mark after B changes to `b`: NONE unless `b` is the bound the mark names (R34). -/
def driftAfter (lo hi b : Nat) : DriftMark → DriftMark
  | .none => .none
  | .lower => if b = lo then .lower else .none
  | .upper => if b = hi then .upper else .none

/-- Up to `n` upward steps: B up by 1 and A down by 256, or, at the upper bound, A = +255 and the stepping ends (R33, R34). -/
def stepUp (lo hi : Nat) : Nat → Stepping → Stepping
  | 0, x => x
  | n + 1, x =>
    if hi < x.b + 1 then { x with a := 255, drift := .upper, flagged := x.drift ≠ .upper }
    else stepUp lo hi n { x with b := x.b + 1, a := x.a - 256, drift := driftAfter lo hi (x.b + 1) x.drift }

/-- Up to `n` downward steps: B down by 1 and A up by 256, or, at the lower bound, A = -255 and the stepping ends (R33, R34). -/
def stepDown (lo hi : Nat) : Nat → Stepping → Stepping
  | 0, x => x
  | n + 1, x =>
    if x.b < lo + 1 then { x with a := -255, drift := .lower, flagged := x.drift ≠ .lower }
    else stepDown lo hi n { x with b := x.b - 1, a := x.a + 256, drift := driftAfter lo hi (x.b - 1) x.drift }

/-- The accumulator is brought back within -255..+255 by stepping B (R33): |A| / 256 steps are needed, each of them within the bounds. -/
def stepDivisor (lo hi : Nat) (x : Stepping) : Stepping :=
  if 0 ≤ x.a then stepUp lo hi (x.a.natAbs / 256) x else stepDown lo hi (x.a.natAbs / 256) x

/-- The nearest whole number of bits of a pulse, halves rounding up (R32, step 2). -/
def wholeBits (len b : Nat) : Nat := (2 * len + b) / (2 * b)

/-- A pulse delivered to tracking, with the character time at its falling edge (R32, R35). -/
def trackingPulse (b : Bay) (len charTime : Nat) (s : State) : State :=
  let r := (s.slice b).line.rate
  let k := wholeBits len r.divisor
  let e : Int := (len : Int) - (k * r.divisor : Nat)
  if r.mode = .manual ∨ charTime < len ∨ k < 1 ∨ 10 < k then s
  else if r.divisor / 4 < e.natAbs then s.modRate b fun r => { r with rejected := bump r.rejected }
  else if r.mode = .hold then s
  else
    let x := stepDivisor (trackMin r.lock) (trackMax r.lock) ⟨r.divisor, r.acc + e, r.drift, false⟩
    setFlagIf x.flagged b .rateDrift (s.modRate b fun r => { r with divisor := x.b, acc := x.a, drift := x.drift })

/-! ## Quality windows (R36, R37) -/

/-- An appended entry is counted into the current window (R36). -/
def WindowCounts.count (w : WindowCounts) (k : EntryKind) : WindowCounts :=
  match k with
  | .data => { w with characters := bump w.characters }
  | .parity => { w with characters := bump w.characters, parityErrors := bump w.parityErrors }
  | .framing => { w with characters := bump w.characters, framingErrors := bump w.framingErrors }
  | .brk => { w with breaks := bump w.breaks }

/-- The re-detect check on a closed window (R37). -/
def redetectCheck (b : Bay) (closed : WindowCounts) (s : State) : State :=
  let l := (s.slice b).line
  if l.config.errorThreshold ≠ 0 ∧ l.config.errorThreshold < closed.parityErrors + closed.framingErrors ∧ l.rate.mode ≠ .manual then
    startDetection b (setFlag b .rateLost s)
  else s

/-- The window closes: its counts become the last-window record and QUALITY_READY is flagged (R36). -/
def closeWindow (b : Bay) (w : WindowCounts) (s : State) : State :=
  setFlag b .qualityReady (s.modRate b fun r => { r with window := {}, lastWindow := w, lastNumber := (r.lastNumber + 1) % 256 })

/-- The quality window takes an appended entry, and closes when its character count has reached W (R36, R37). -/
def presentToWindow (b : Bay) (k : EntryKind) (s : State) : State :=
  let w := (s.slice b).line.rate.window.count k
  if (s.slice b).line.config.window.characters ≤ w.characters then redetectCheck b w (closeWindow b w s)
  else s.modRate b fun r => { r with window := w }

/-! ## Requests (section 2.9) -/

/-- RATE_SET on a line with its divisor and rate index; a detection in progress is cancelled (R38). -/
def setRate (n index : Nat) (b : Bay) (s : State) : Answer :=
  let set (r : RateUnit) : RateUnit := { r with divisor := n, lock := n, index := index, acc := 0, drift := .none, mode := .manual }
  let record (d : Detection) : DetectionRecord :=
    ⟨.cancelled, none, d.wMin, d.wMin.map fun w => (nearestEntry w).1, d.wMin.map fun w => (nearestEntry w).2, some d.q, some d.c⟩
  let s' := s.modLine b fun l =>
    match l.rate.detection with
    | some d => l.endDetection { set l.rate with record := record d }
    | none => { l with rate := set l.rate }
  accept s' (le4 n ++ le1 index ++ le4 (reportedRate n))

/-- RATE_SET: a table index above 10 is refused with RANGE; a divisor is clamped (R38). -/
def rateSetAct (byDivisor : Bool) (value : Nat) (b : Bay) (s : State) : Answer :=
  if byDivisor then setRate (clamp divisorMin divisorMax value) Config.customIndex b s
  else if value < Config.divisorTable.length then setRate (Config.divisorTable.getD value 0) value b s
  else refuse .range s

/-- RATE_MODE: refused with STATE in MANUAL or while DETECTING (R39). -/
def rateModeAct (p : LoopPolicy) (b : Bay) (s : State) : Answer :=
  let r := (s.slice b).line.rate
  if r.mode = .manual ∨ r.detection.isSome then refuse .state s
  else accept (s.modRate b fun r => { r with mode := p.mode }) (le1 p.mode.code)

/-- RATE_DETECT (R40). -/
def rateDetectAct (b : Bay) (s : State) : Answer := accept (startDetection b s) []

/-- QUALITY (R41). -/
def qualityAct (clear : Bool) (b : Bay) (s : State) : Answer :=
  let r := (s.slice b).line.rate
  accept (if clear then s.modRate b fun r => { r with rejected := 0 } else s)
    (le4 r.divisor ++ le4 r.lock ++ le2 (twosComplement 16 r.acc) ++ le1 r.index ++ le1 r.mode.code ++ bit r.detection.isSome ++
     le4 (reportedRate r.divisor) ++ le4 (twosComplement 32 (deviation r.lock r.divisor)) ++ le2 r.rejected ++ r.window.encode ++
     r.lastWindow.encode ++ le1 r.lastNumber ++ r.record.encode)

/-- RATE_SET (R38). -/
def takeRateSet (tag line form : Byte) (value : BitVec 32) (s : State) : State :=
  takeRequest 0x10 tag (withField (rateFormOf form) fun d => onBay line (rateSetAct d value.toNat)) s

/-- RATE_MODE (R39). -/
def takeRateMode (tag line mode : Byte) (s : State) : State :=
  takeRequest 0x11 tag (withField (loopPolicyOf mode) fun p => onBay line (rateModeAct p)) s

/-- RATE_DETECT (R40). -/
def takeRateDetect (tag line : Byte) (s : State) : State := takeRequest 0x12 tag (onBay line rateDetectAct) s

/-- QUALITY (R41). -/
def takeQuality (tag line clear : Byte) (s : State) : State :=
  takeRequest 0x13 tag (withField (onOff clear) fun c => onBay line (qualityAct c)) s

/-- The meaning of RATE_SET (R38). -/
def execRateSet (tag line form : Byte) (value : BitVec 32) (s : State) : Host.Outcome State Fault Refusal :=
  .next (takeRateSet tag line form value s)

/-- The meaning of RATE_MODE (R39). -/
def execRateMode (tag line mode : Byte) (s : State) : Host.Outcome State Fault Refusal := .next (takeRateMode tag line mode s)

/-- The meaning of RATE_DETECT (R40). -/
def execRateDetect (tag line : Byte) (s : State) : Host.Outcome State Fault Refusal := .next (takeRateDetect tag line s)

/-- The meaning of QUALITY (R41). -/
def execQuality (tag line clear : Byte) (s : State) : Host.Outcome State Fault Refusal := .next (takeQuality tag line clear s)

/-- The detection window expires: evaluated with c of at least 2, NO_SIGNAL otherwise (R29, R31). A line that is RUNNING has no window
timer. -/
def execDetectionWindowExpiry (b : Bay) (s : State) : Host.Outcome State Fault Refusal :=
  match (s.slice b).line.rate.detection with
  | none => .next s
  | some d =>
    match d.wMin with
    | some w => .next (if 2 ≤ d.c then evaluateDetection b w d.q d.c s
                       else failDetection b ⟨.noSignal, none, none, none, none, some d.q, some d.c⟩ s)
    | none => .next (failDetection b ⟨.noSignal, none, none, none, none, some d.q, some d.c⟩ s)

end Sys2Proof.Machine
end

