-- ==== Sys2Proof/Machine/HistoryOps.lean ====
section
/-! DEFINITION. Console history and the live stream (chapter 3): rings and sequence numbers, append, eligibility and the CONSOLE
notice, and the commands HISTORY_SIZE, HISTORY_CLEAR, HISTORY, ATTACH, CREDIT, DETACH and IDLE_FLUSH_EXPIRY. -/

namespace Sys2Proof.Machine

/-! ## The ring (R43 to R45) -/

/-- Capacity of a ring in entries (R43). -/
def History.capacity (h : History) : Nat := h.pages * Config.pageSlots

/-- The number of the oldest entry the ring holds (R44). -/
def History.oldest (h : History) : SeqNo := h.next - BitVec.ofNat 32 h.entries.length

/-- The number of the last entry appended; oldest - 1 for an empty ring (R44). -/
def History.newest (h : History) : SeqNo := h.next - 1

/-- The distance of a number behind next (R45). -/
def History.behind (h : History) (n : SeqNo) : Nat := (h.next - n).toNat

/-- Where a requested number stands against the ring: `held` covers an entry held and newest + 1 (R45). -/
inductive Placing where
  | held
  | belowOldest
  | aboveNewest
  deriving DecidableEq, Repr

/-- Place a number against the ring (R45). -/
def History.place (h : History) (n : SeqNo) : Placing :=
  if h.behind n ≤ h.entries.length then .held else if h.behind n ≤ 2147483648 then .belowOldest else .aboveNewest

/-- Pages that lie free in the pool (R43). -/
def freePages (s : State) : Nat := Config.historyPages - (s.slices.toList.map fun x => x.history.pages).sum

/-- Unsent entries of a stream (R50). -/
def History.unsent (h : History) (st : Stream) : Nat := (h.next - st.cursor).toNat

/-! ## Append (R46) -/

/-- The stream after the entry numbered `gone` has been overwritten: a cursor that stood there moves up and the gap grows (R46). -/
def Stream.overwrite (gone : SeqNo) (st : Stream) : Stream :=
  if st.cursor = gone then { st with cursor := st.cursor + 1, gap := min (st.gap + 1) Config.gapMax } else st

/-- A ring that is full loses its oldest entry (R46, step 1). -/
def History.dropOldest (h : History) : History :=
  if h.capacity ≤ h.entries.length then
    { h with entries := h.entries.drop 1, stream := h.stream.map (Stream.overwrite h.oldest) }
  else h

/-- The append of one entry (R46). -/
def History.append (h : History) (e : HistoryEntry) : History :=
  let h := h.dropOldest
  { h with entries := h.entries ++ [e], next := h.next + 1, idleExpired := false }

/-- The ring is emptied: oldest becomes next, and an attached stream moves there with no gap (R47, R48). -/
def History.clear (h : History) : History :=
  { h with entries := [], stream := h.stream.map fun st => { st with cursor := h.next, gap := 0 } }

/-! ## Eligibility and the CONSOLE notice (R56 to R58) -/

/-- A line is eligible for a CONSOLE notice (R56). -/
def Slice.eligible (x : Slice) : Bool :=
  match x.history.stream with
  | none => false
  | some st =>
    1 ≤ st.credit && (1 ≤ x.history.unsent st || 1 ≤ st.gap) &&
    (x.line.config.flushThreshold ≤ x.history.unsent st || x.history.idleExpired)

/-- The lines in round-robin order: the one after the mark first, the mark last (R57). -/
def roundRobin (mark : Bay) : List Bay := (List.finRange 8).map fun i => mark + 1 + i

/-- The line the store chooses, if one is eligible (R57). -/
def chooseLine (s : State) : Option Bay := (roundRobin s.lastServed).find? fun b => (s.slice b).eligible

/-- How many of the entries a notice may carry with at most `marks` entries of a kind other than DATA: it ends just before the next
such entry (R58, step 4). -/
def countWithin (marks : Nat) : List HistoryEntry → Nat
  | [] => 0
  | e :: rest =>
    if e.kind = .data then countWithin marks rest + 1
    else match marks with
      | 0 => 0
      | m + 1 => countWithin m rest + 1

/-- The unsent entries of a stream, from its cursor on (R50). -/
def History.unsentEntries (h : History) (st : Stream) : List HistoryEntry := h.entries.drop (h.entries.length - h.unsent st)

/-- The entries a notice takes: the smallest of the unsent count, the credit and 240, cut before the 129th mark (R58). -/
def History.noticeEntries (h : History) (st : Stream) : List HistoryEntry :=
  let first := (h.unsentEntries st).take (min st.credit 240)
  first.take (countWithin 128 first)

/-- The offset and kind of each entry of a kind other than DATA, in offset order (R58). -/
def markList (es : List HistoryEntry) : List (Nat × EntryKind) :=
  (es.zipIdx.filter fun p => p.1.kind ≠ .data).map fun p => (p.2, p.1.kind)

/-- The payload of a CONSOLE notice (R58, Table 11-9). -/
def consolePayload (b : Bay) (st : Stream) (es : List HistoryEntry) : List Byte :=
  le1 b.val ++ le4 st.gap ++ le4 st.cursor.toNat ++ le1 es.length ++ le1 (markList es).length ++ es.map HistoryEntry.value ++
  (markList es).flatMap fun m => le1 m.1 ++ le1 m.2.code

/-- The stream after a notice that takes `n` entries: the gap reported, the cursor on, the credit down (R58). -/
def Stream.consume (n : Nat) (st : Stream) : Stream :=
  { cursor := st.cursor + BitVec.ofNat 32 n, gap := 0, credit := st.credit - n }

/-! ## Requests -/

/-- HISTORY_SIZE (R47). -/
def historySizeAct (pages : Nat) (b : Bay) (s : State) : Answer :=
  if pages < 2 ∨ 64 < pages then refuse .range s
  else if freePages s < pages - (s.slice b).history.pages then refuse .conflict s
  else
    let s' := s.modHistory b fun h => { h.clear with pages := pages }
    accept s' (le1 pages ++ le1 (freePages s'))

/-- HISTORY_CLEAR (R48). -/
def historyClearAct (b : Bay) (s : State) : Answer :=
  accept (s.modHistory b History.clear) (le4 (s.slice b).history.next.toNat)

/-- The fields of the reply to a HISTORY read of up to `n` entries from a start held or newest + 1 (R49). -/
def History.readFrom (h : History) (truncated : Bool) (start : SeqNo) (n : Nat) : List Byte :=
  let es := (h.entries.drop (h.entries.length - h.behind start)).take n
  bit truncated ++ le4 start.toNat ++ le1 es.length ++ encodeEntries es ++ le4 (start + BitVec.ofNat 32 es.length).toNat ++
  le4 h.oldest.toNat ++ le4 h.newest.toNat

/-- HISTORY: a count above 240 is clamped; a start below oldest reads from oldest, truncated (R49). -/
def historyAct (start : SeqNo) (count : Nat) (b : Bay) (s : State) : Answer :=
  let h := (s.slice b).history
  match h.place start with
  | .aboveNewest => refuse .range s
  | .belowOldest => accept s (h.readFrom true h.oldest (min count 240))
  | .held => accept s (h.readFrom false start (min count 240))

/-- Attach a stream and reply (R51). -/
def attachAt (cursor : SeqNo) (gap credit : Nat) (b : Bay) (s : State) : Answer :=
  let h := (s.slice b).history
  accept (s.modHistory b fun h => { h with stream := some ⟨cursor, gap, credit⟩ })
    (le4 cursor.toNat ++ le4 gap ++ le2 credit ++ le4 h.oldest.toNat ++ le4 h.newest.toNat)

/-- ATTACH (R51). -/
def attachAct (form : StartForm) (start : SeqNo) (credit : Nat) (b : Bay) (s : State) : Answer :=
  let h := (s.slice b).history
  match form with
  | .next => attachAt h.next 0 credit b s
  | .oldest => attachAt h.oldest 0 credit b s
  | .position =>
    match h.place start with
    | .held => attachAt start 0 credit b s
    | .belowOldest => attachAt h.oldest (h.oldest - start).toNat credit b s
    | .aboveNewest => refuse .range s

/-- CREDIT: refused with STATE on a DETACHED line (R52). -/
def creditAct (n : Nat) (b : Bay) (s : State) : Answer :=
  match (s.slice b).history.stream with
  | none => refuse .state s
  | some st =>
    let c := min (st.credit + n) Config.counterMax
    accept (s.modHistory b fun h => { h with stream := some { st with credit := c } }) (le2 c)

/-- DETACH (R53). -/
def detachAct (b : Bay) (s : State) : Answer := accept (s.modHistory b fun h => { h with stream := none }) []

/-- HISTORY_SIZE (R47). -/
def takeHistorySize (tag line pages : Byte) (s : State) : State :=
  takeRequest 0x18 tag (onBay line (historySizeAct pages.toNat)) s

/-- HISTORY_CLEAR (R48). -/
def takeHistoryClear (tag line : Byte) (s : State) : State := takeRequest 0x19 tag (onBay line historyClearAct) s

/-- HISTORY (R49). -/
def takeHistory (tag line : Byte) (start : SeqNo) (count : Byte) (s : State) : State :=
  takeRequest 0x1A tag (onBay line (historyAct start count.toNat)) s

/-- ATTACH (R51). -/
def takeAttach (tag line form : Byte) (start : SeqNo) (credit : BitVec 16) (s : State) : State :=
  takeRequest 0x1B tag (withField (startFormOf form) fun f => onBay line (attachAct f start credit.toNat)) s

/-- CREDIT (R52). -/
def takeCredit (tag line : Byte) (count : BitVec 16) (s : State) : State :=
  takeRequest 0x1C tag (onBay line (creditAct count.toNat)) s

/-- DETACH (R53). -/
def takeDetach (tag line : Byte) (s : State) : State := takeRequest 0x1D tag (onBay line detachAct) s

/-- The meaning of HISTORY_SIZE (R47). -/
def execHistorySize (tag line pages : Byte) (s : State) : Host.Outcome State Fault Refusal := .next (takeHistorySize tag line pages s)

/-- The meaning of HISTORY_CLEAR (R48). -/
def execHistoryClear (tag line : Byte) (s : State) : Host.Outcome State Fault Refusal := .next (takeHistoryClear tag line s)

/-- The meaning of HISTORY (R49). -/
def execHistory (tag line : Byte) (start : SeqNo) (count : Byte) (s : State) : Host.Outcome State Fault Refusal :=
  .next (takeHistory tag line start count s)

/-- The meaning of ATTACH (R51). -/
def execAttach (tag line form : Byte) (start : SeqNo) (credit : BitVec 16) (s : State) : Host.Outcome State Fault Refusal :=
  .next (takeAttach tag line form start credit s)

/-- The meaning of CREDIT (R52). -/
def execCredit (tag line : Byte) (count : BitVec 16) (s : State) : Host.Outcome State Fault Refusal :=
  .next (takeCredit tag line count s)

/-- The meaning of DETACH (R53). -/
def execDetach (tag line : Byte) (s : State) : Host.Outcome State Fault Refusal := .next (takeDetach tag line s)

/-- The idle-flush timer of a line expires and stays expired until the next append (R55). -/
def execIdleFlushExpiry (b : Bay) (s : State) : Host.Outcome State Fault Refusal :=
  .next (s.modHistory b fun h => { h with idleExpired := true })

end Sys2Proof.Machine
end

