-- ==== Sys2Proof/Machine/Receive.lean ====
section
/-! DEFINITION. The receive side of a console line (sections 1.3, 1.6 and 1.7): the receiver, breaks, the handing of entries to the
history store and its consumers, and the commands START_EDGE, FALSE_START, CHARACTER_RECEIVED, LOW_PULSE_END and LINE_SET. -/

namespace Sys2Proof.Machine

/-- The receiver hands an entry to the history store of its line; once appended it is presented to the two matchers, the hang monitor
and the quality window, whose close may start a detection after every consumer has had the entry (R6, R37, R46). -/
def handEntry (b : Bay) (e : HistoryEntry) (s : State) : State :=
  presentToWindow b e.kind (presentToMonitor b e (presentToPrompt b e (presentToHeartbeat b e
    (s.modHistory b fun h => h.append e))))

/-- An edge on the pin or on the internal signal is one of the line's receive signal exactly when loopback says so (R19, R26). -/
def Line.observes (l : Line) (internal : Bool) : Bool := l.config.loopback == internal

/-- From the next falling edge on: what is left of the internal signal once the high part before it has passed (R19). -/
def fromFall (xs : List Span) : List Span := xs.dropWhile fun x => x.high

/-- The low time at the head of a run of spans. -/
def lowTime (xs : List Span) : Nat := ((xs.takeWhile fun x => !x.high).map Span.clocks).sum

/-- What the internal signal takes from its next falling edge on, where the transmitter settles it (R19). -/
def Line.course (internal : Bool) (l : Line) : Option (List Span) := if internal then l.looped.map fromFall else none

/-- A falling edge of the receive signal can come about: the pin is high, or the internal signal is high and the element in flight, where
it settles the signal, still has a low part to drive (R19). -/
def Line.canFall (internal : Bool) (l : Line) : Bool :=
  if internal then l.lowPeriod.isNone && l.course true != some [] else l.conRx

/-- A falling edge of the receive signal: the edge timer starts its count, with the character time in force, and, while RUNNING, a
receiver that has seen the signal high enters FRAME with the framing and divisor in force (R2, R3, R5, R26). WAIT_HIGH counts as
HUNT here: the signal was high before it fell (log entry 10). In loopback the element in flight settles how long the low period lasts
and what the frame samples (R19). -/
def Line.fall (internal : Bool) (l : Line) : Line :=
  let starts := l.rate.detection.isNone && (l.receiver = .hunt || l.receiver = .waitHigh)
  let course := l.course internal
  { l with
    lowPeriod := some ⟨l.charTime, starts, course.map lowTime⟩
    receiver := if starts then .frame l.config.framing l.rate.divisor (course.getD []) else l.receiver
    looped := if internal then course.map (List.dropWhile fun x => !x.high) else l.looped }

/-- START_EDGE (R3, R26). A signal that is low already cannot fall; an edge the line does not observe changes the pin alone (R19). -/
def execStartEdge (b : Bay) (internal : Bool) (s : State) : Host.Outcome State Fault Refusal :=
  if (s.slice b).line.canFall internal then
    .next (s.modLine b fun l =>
      let l := if internal then l else { l with conRx := false }
      if l.observes internal then l.fall internal else l)
  else .next s

/-! ## Samples (R3, R19, R22) -/

/-- When a frame timed with `b` clocks a bit samples its bit `k`, in reference clocks from its start edge: at the bit's eighth tick (R3,
R22). -/
def sampleTime (b k : Nat) : Nat := k * b + ((tickLengths b).take 8).sum

/-- The level `t` clocks into a run of spans, as far as they last. -/
def levelAt : List Span → Nat → Option Bool
  | [], _ => none
  | x :: rest, t => if t < x.clocks then some x.high else levelAt rest (t - x.clocks)

/-- The sample of a frame's bit `k`: what the internal signal holds then, where the element heard settles it, and otherwise the level the
event carries (R3, R19). -/
def sampleOr (heard : List Span) (b k : Nat) (carried : Bool) : Bool := (levelAt heard (sampleTime b k)).getD carried

/-- The eight samples after the start bit, with the first as the lowest bit (R4). -/
def sampledByte (heard : List Span) (b : Nat) (carried : Byte) : Byte :=
  (List.range 8).foldl (fun v i => if sampleOr heard b (i + 1) (carried.getLsbD i) then v ||| BitVec.twoPow 8 i else v) 0

/-- FALSE_START: the start-bit sample is high, and the receiver returns to HUNT (R3). A start bit that the internal signal holds low is no
false start (R19). -/
def execFalseStart (b : Bay) (s : State) : Host.Outcome State Fault Refusal :=
  match (s.slice b).line.receiver with
  | .frame _ n heard => .next (if sampleOr heard n 0 true then s.modLine b fun l => { l with receiver := .hunt } else s)
  | _ => .next s

/-- The data bits as received, with the bits above the line's data bit count 0 (R4). -/
def Framing.received (f : Framing) (data : Byte) : Byte := data &&& BitVec.ofNat 8 (2 ^ f.dataBits - 1)

/-- The sampled parity bit is right, or there is none (R2, Table 1-2). -/
def Framing.parityRight (f : Framing) (value : Byte) (parity : Bool) : Bool :=
  f.parity = .none || parity == f.parityOf (f.dataOf value)

/-- A character completes with its data bits and its parity and first stop bits as sampled (R4, R5). A low stop bit with the character's own
start-edge low period still in progress defers the entry to the rise. -/
def takeCharacter (b : Bay) (f : Framing) (data : Byte) (parity stop : Bool) (s : State) : State :=
  let value := f.received data
  let kind : EntryKind := if f.parityRight value parity then .data else .parity
  if stop then handEntry b ⟨kind, value⟩ (s.modLine b fun l => { l with receiver := .hunt })
  else if (s.slice b).line.lowPeriod.any fun p => p.ownStart then s.modLine b fun l => { l with receiver := .holdLow true }
  else handEntry b ⟨.framing, value⟩ (s.modLine b fun l => { l with receiver := .holdLow false })

/-- CHARACTER_RECEIVED: the sample of the first stop bit (R3, R4, R5). The levels are the event's, but where the internal signal settles
them they are the transmitter's (R19); with the start bit sampled high no character comes about. -/
def execCharacterReceived (b : Bay) (data : Byte) (parity stop : Bool) (s : State) : Host.Outcome State Fault Refusal :=
  match (s.slice b).line.receiver with
  | .frame f n heard =>
    .next (if sampleOr heard n 0 false then s
      else takeCharacter b f (sampledByte heard n data) (sampleOr heard n (1 + f.dataBits) parity)
        (sampleOr heard n (1 + f.dataBits + f.parityBits) stop) s)
  | _ => .next s

/-- The low pulse's length as the edge timer counts it: the length of the event, but in loopback, where the transmitter settles it, the low
time it drove (R19, R26). -/
def Line.pulseLength (l : Line) (length : Nat) : Nat :=
  min ((l.lowPeriod.bind LowPeriod.length).getD length) Config.edgeTimerMax

/-- The receiver at a rising edge: WAIT_HIGH and HOLD_LOW return to HUNT (R3, R5). -/
def Receiver.rise : Receiver → Receiver
  | .frame f d heard => .frame f d heard
  | _ => .hunt

/-- Break judgement at a rise: longer than C, one BREAK entry of floor(L / C) saturating at 255; otherwise a deferred character becomes
a FRAMING entry of value 0 (R5). -/
def judgeBreak (b : Bay) (len charTime : Nat) (deferred : Bool) (s : State) : State :=
  if charTime < len then handEntry b ⟨.brk, BitVec.ofNat 8 (min (len / charTime) 255)⟩ s
  else if deferred then handEntry b ⟨.framing, 0⟩ s
  else s

/-- A rising edge of the receive signal ends a low period and delivers its length to the consumers the line state and mode name
(R26): detection while DETECTING, otherwise tracking and break measurement. -/
def risePulse (b : Bay) (len : Nat) (s : State) : State :=
  let l := (s.slice b).line
  let s' := s.modLine b fun l => { l with lowPeriod := none }
  match l.rate.detection, l.lowPeriod with
  | some d, some _ => detectionPulse b len d s'
  | some _, none => s'
  | none, low =>
    let s' := s'.modLine b fun l => { l with receiver := l.receiver.rise }
    match low with
    | none => s'
    | some p => judgeBreak b len p.charTime (l.receiver = .holdLow true) (trackingPulse b len p.charTime s')

/-- LOW_PULSE_END (R26). A pin that is high already cannot rise; an edge the line does not observe changes the pin alone (R19). -/
def execLowPulseEnd (b : Bay) (internal : Bool) (length : Nat) (s : State) : Host.Outcome State Fault Refusal :=
  let l := (s.slice b).line
  if !internal && l.conRx then .next s
  else
    let s' := if internal then s else s.modLine b fun l => { l with conRx := true }
    if l.observes internal then .next (risePulse b (l.pulseLength length) s') else .next s'

/-! ## LINE_SET (R20) -/

/-- LINE_SET on a line: the record is written; a switch of loopback makes the receiver and the edge timer discard; a change of the seen
CTS level is flagged; a held start may be allowed (R9, R18, R19, R20). -/
def lineSetAct (c : LineConfig) (b : Bay) (s : State) : Answer :=
  let switched := (s.slice b).line.config.loopback != c.loopback
  let s' := s.modLine b fun l =>
    if switched then
      { l with config := c, receiver := .waitHigh, lowPeriod := none, looped := if l.tx = .idle then some [] else none }
    else { l with config := c }
  accept (startTx b (ctsCheck b s')) c.encode

/-- LINE_SET: enumerated and on/off fields are checked, numeric fields clamped (Table 1-4). -/
def takeLineSet (tag line : Byte) (f : LineFields) (s : State) : State :=
  takeRequest 0x08 tag
    (withField (parityOf f.parity) fun parity => withField (onOff f.ctsHonour) fun cts => withField (onOff f.loopback) fun loopback =>
     withField (onOff f.detectOnPowerOn) fun detect => withField (loopPolicyOf f.loopPolicy) fun policy =>
     withField (onOff f.customRate) fun custom => withField (windowOf f.window) fun window =>
     onBay line (lineSetAct
      { framing := ⟨clamp 5 8 f.dataBits.toNat, parity, clamp 1 2 f.stopBits.toNat⟩
        flushThreshold := clamp 1 240 f.flushThreshold.toNat
        idleFlush := clamp 1 15 f.idleFlush.toNat
        ctsHonour := cts, loopback := loopback, detectOnPowerOn := detect, loopPolicy := policy, customRate := custom
        window := window, errorThreshold := f.errorThreshold.toNat })) s

/-- The meaning of LINE_SET (R20). -/
def execLineSet (tag line : Byte) (f : LineFields) (s : State) : Host.Outcome State Fault Refusal := .next (takeLineSet tag line f s)

end Sys2Proof.Machine
end

