-- ==== Sys2Proof/Machine/CacheOps.lean ====
section
/-! DEFINITION. The block cache and its tables (chapter 8): entries, uses, holdings, victims, fetch records and their extents, writeback
places, and the orphaning of records. -/

namespace Sys2Proof.Machine

/-! ## Entries (R129 to R134) -/

/-- A cache entry by its number. -/
def Cache.entry (c : Cache) (i : Fin 256) : CacheEntry := c.entries.get i

/-- Change one cache entry. -/
def Cache.modEntry (c : Cache) (i : Fin 256) (f : CacheEntry → CacheEntry) : Cache :=
  { c with entries := c.entries.set i (f (c.entry i)) }

/-- Change every cache entry. -/
def Cache.mapEntries (c : Cache) (f : CacheEntry → CacheEntry) : Cache := { c with entries := c.entries.map f }

/-- The entry becomes FREE: it holds no block and has no owner; its pin and its stamp stay (R129, R130). -/
def CacheEntry.release (e : CacheEntry) : CacheEntry := { e with state := .free, key := none, owner := none }

/-- The entry is outside FREE and belongs to a bay (R132). -/
def CacheEntry.heldBy (b : Bay) (e : CacheEntry) : Bool := e.state ≠ .free && e.key.any fun k => k.bay = b

/-- The entry outside FREE that holds a block of a bay in a generation, if there is one (R129). -/
def Cache.find (c : Cache) (k : BlockKey) : Option (Fin 256) :=
  (List.finRange 256).find? fun i => (c.entry i).state ≠ .free && (c.entry i).key = some k

/-- Entries for which a condition holds. -/
def Cache.count (c : Cache) (p : CacheEntry → Bool) : Nat := c.entries.toList.countP p

/-- The holding of a bay (R132). -/
def Cache.holding (c : Cache) (b : Bay) : Nat := c.count (CacheEntry.heldBy b)

/-- A use of an entry: the use counter increases and the entry takes its new value (R131). -/
def Cache.use (c : Cache) (i : Fin 256) : Cache :=
  { c with useCounter := c.useCounter + 1 }.modEntry i fun e => { e with stamp := c.useCounter + 1 }

/-- The age of an entry (R131). -/
def Cache.age (c : Cache) (i : Fin 256) : Nat := (c.useCounter - (c.entry i).stamp).toNat

/-- An entry is an eligible FREE victim (R133). -/
def Cache.freeVictim (c : Cache) (i : Fin 256) : Bool := (c.entry i).state = .free && !(c.entry i).pinned

/-- An entry is an eligible VALID victim for a requesting bay (R133). -/
def Cache.validVictim (c : Cache) (b : Bay) (i : Fin 256) : Bool :=
  (c.entry i).state = .valid && !(c.entry i).pinned &&
  (c.entry i).key.any fun k => k.bay = b || c.reserves.get k.bay < c.holding k.bay

/-- The oldest of a list of entries; of equal ages the one named first (R131). -/
def Cache.oldest (c : Cache) : List (Fin 256) → Option (Fin 256)
  | [] => none
  | i :: rest =>
    match c.oldest rest with
    | none => some i
    | some j => if c.age i < c.age j then some j else some i

/-- The victim for a requesting bay: the lowest eligible FREE entry, else the oldest eligible VALID entry (R133). -/
def Cache.victim (c : Cache) (b : Bay) : Option (Fin 256) :=
  match (List.finRange 256).find? c.freeVictim with
  | some i => some i
  | none => c.oldest ((List.finRange 256).filter (c.validVictim b))

/-- Taking a victim gives the entry its new block, state and owner and records a use (R131, R134). -/
def Cache.take (c : Cache) (i : Fin 256) (k : BlockKey) (st : EntryState) (owner : Option Owner) : Cache :=
  (c.modEntry i fun e => { e with state := st, key := some k, owner := owner }).use i

/-- The bay that loses its block when an entry is taken as a victim (R134). -/
def Cache.loser (c : Cache) (i : Fin 256) : Option Bay :=
  if (c.entry i).state = .valid then (c.entry i).key.map BlockKey.bay else none

/-! ## Records (R135, R142) -/

/-- The id after `last`, wrapping from 255 to 1 (R135). -/
def followingId (last : Nat) : Nat := if 255 ≤ last then 1 else last + 1

/-- The id after `last` that no record in the table holds, within `n` tries (R135). -/
def freshId (held : List Nat) : Nat → Nat → Nat
  | 0, last => followingId last
  | n + 1, last => if held.contains (followingId last) then freshId held n (followingId last) else followingId last

/-- The id a new fetch record takes (R135). -/
def Cache.nextFetchId (c : Cache) : Nat := freshId (c.fetches.map FetchRecord.id) 255 c.lastFetchId

/-- The id a new writeback record takes (R142). -/
def Cache.nextWritebackId (c : Cache) : Nat := freshId (c.writebacks.map WritebackRecord.id) 255 c.lastWritebackId

/-- The fetch record with an id. -/
def Cache.fetchOf (c : Cache) (id : Nat) : Option FetchRecord := c.fetches.find? fun r => r.id = id

/-- The writeback record with an id. -/
def Cache.writebackOf (c : Cache) (id : Nat) : Option WritebackRecord := c.writebacks.find? fun r => r.id = id

/-- A fetch record is freed (R135). -/
def Cache.dropFetch (c : Cache) (id : Nat) : Cache := { c with fetches := c.fetches.filter fun r => r.id ≠ id }

/-- A writeback record is freed (R142). -/
def Cache.dropWriteback (c : Cache) (id : Nat) : Cache := { c with writebacks := c.writebacks.filter fun r => r.id ≠ id }

/-- Change the fetch record with an id. -/
def Cache.modFetch (c : Cache) (id : Nat) (f : FetchRecord → FetchRecord) : Cache :=
  { c with fetches := c.fetches.map fun r => if r.id = id then f r else r }

/-- The mark of an index is set (R138). -/
def FetchRecord.marked (i : Nat) (r : FetchRecord) : FetchRecord := { r with marks := r.marks.set i true }

/-- Every mark of a record is set (R138). -/
def FetchRecord.complete (r : FetchRecord) : Bool := r.marks.all fun m => m

/-- A mark of the fetch record is set, and the record is freed once every mark is (R138). -/
def Cache.markFetch (c : Cache) (r : FetchRecord) (i : Nat) : Cache :=
  if (r.marked i).complete then c.dropFetch r.id else c.modFetch r.id (FetchRecord.marked i)

/-- The entry belongs to a fetch record (R129). -/
def CacheEntry.ofFetch (id : Nat) (e : CacheEntry) : Bool :=
  match e.owner with
  | some (.fetch i _) => e.state = .filling && i = id
  | _ => false

/-- The live fetch records of an ejected bay become orphans; one whose notice is PENDING is freed at once (R141). -/
def orphanFetches (b : Bay) (rs : List FetchRecord) : List FetchRecord :=
  (rs.filter fun r => !(r.bay = b && !r.orphan && r.notice = .pending)).map fun r => if r.bay = b then { r with orphan := true } else r

/-- The live writeback records of a bay become orphans at a forced eject; one whose notice is PENDING is freed at once (R146). -/
def orphanWritebacks (b : Bay) (rs : List WritebackRecord) : List WritebackRecord :=
  (rs.filter fun r => !(r.bay = b && !r.orphan && r.notice = .pending)).map fun r =>
    if r.bay = b then { r with orphan := true, entry := none, request := none } else r

/-- Places reserved by WRITE transfers in flight (R142): each holds one. -/
def reservedPlaces (s : State) : Nat :=
  s.slices.toList.countP fun x => x.port.transfer.any fun t => t.write

/-- Places of the writeback table that are taken: records in use, orphans included, and reservations (R142). -/
def usedPlaces (s : State) : Nat := s.cache.writebacks.length + reservedPlaces s

/-! ## Fetches (R136) -/

/-- A block of a bay's present generation. -/
def State.key (s : State) (b : Bay) (block : Nat) : BlockKey := ⟨b, (s.slice b).medium.generation, block⟩

/-- The extent of a fetch, at most `n` blocks from `block` on: missing, below the capacity, and not past `last` (R136, step 2). -/
def fetchExtent (s : State) (b : Bay) (last : Nat) : Nat → Nat → List Nat
  | 0, _ => []
  | n + 1, block =>
    if (s.cache.find (s.key b block)).isNone && block < (s.slice b).medium.capacity.getD 0 && block ≤ last then
      block :: fetchExtent s b last n (block + 1)
    else []

/-- Victims are taken for the blocks of an extent in block order until none is available (R136, step 3): the cache, how many blocks
received one, and the bays that lost a block. -/
def takeVictims (k : Nat → BlockKey) (b : Bay) (id : Nat) : List Nat → Nat → Cache → Cache × Nat × List Bay
  | [], n, c => (c, n, [])
  | block :: rest, n, c =>
    match c.victim b with
    | none => (c, n, [])
    | some i =>
      let (c', m, lost) := takeVictims k b id rest (n + 1) (c.take i (k block) .filling (some (.fetch id n)))
      (c', m, (c.loser i).toList ++ lost)

/-- A change the block cache reports to the media ports (R121): the bay it belongs to, whether it reaches every port or only that
bay's, and whether an entry or a fetch record was freed, so that waiting READs ask again (R122). -/
structure Report where
  origin : Bay
  toAll : Bool
  freed : Bool
  deriving DecidableEq, Repr

/-- The loss of a block to a victim choice, reported to its bay as the freeing of the block's entry (R134). -/
def lossReport (b : Bay) : Report := ⟨b, false, true⟩

/-- A media port asks for a fetch at a missed block, for a READ whose last block is `last` (R136). -/
def askFetch (b : Bay) (block last : Nat) (s : State) : State × List Report :=
  if Config.fetchMax ≤ s.cache.fetches.length then (s, [])
  else
    let id := s.cache.nextFetchId
    let (c, n, lost) := takeVictims (s.key b) b id (fetchExtent s b (last + s.cache.readAhead) 8 block) 0 s.cache
    if n = 0 then (s, [])
    else
      (s.modCache fun _ =>
        { c with
          fetches := c.fetches ++ [{ id, bay := b, generation := (s.slice b).medium.generation, first := block, marks := List.replicate n false }]
          lastFetchId := id },
       lost.map lossReport)

end Sys2Proof.Machine
end

