-- ==== Sys2Proof/Machine/Media.lean ====
section
/-! DEFINITION. Media ports and medium records (chapter 7) and the answers to fetches and writebacks (chapter 8): the transfer engine,
the reports that make waiting requests ask again, completion, the media link, eject, and the commands MEDIA_OPEN, MEDIA_CLOSE, READ,
WRITE, CAPACITY, READY, SERVER_REQUEST_INVALID, TRANSFER_END, INSERT, EJECT, FILL, FILL_FAIL, WRITE_DONE, FETCH_DEADLINE_EXPIRY,
WRITEBACK_DEADLINE_EXPIRY, CACHE_SET and CACHE_QUERY. -/

namespace Sys2Proof.Machine

/-! ## Messages and completion (R119) -/

/-- The port tells its server something. -/
def tell (b : Bay) (m : PortMessage) (s : State) : State := s.modPort b fun p => { p with sent := p.sent ++ [m] }

/-- The admitted request with a serial. -/
def Port.request (p : Port) (serial : Nat) : Option ServerRequest := p.queue.find? fun r => r.serial = serial

/-- Change the admitted request with a serial. -/
def modRequest (b : Bay) (serial : Nat) (f : ServerRequest → ServerRequest) (s : State) : State :=
  s.modPort b fun p => { p with queue := p.queue.map fun r => if r.serial = serial then f r else r }

/-- Completion of an admitted request: its status is sent and it leaves the queue (R119). -/
def complete (b : Bay) (r : ServerRequest) (st : ServerStatus) (s : State) : State :=
  tell b (.status r.tag st) (s.modPort b fun p => { p with queue := p.queue.filter fun q => q.serial ≠ r.serial })

/-! ## The transfer engine (R121 to R124) -/

/-- A transfer starts: its entry is pinned and records a use (R123, R124, R130). -/
def startTransfer (b : Bay) (r : ServerRequest) (i : Fin 256) (s : State) : State :=
  (s.modCache fun c => (c.modEntry i fun e => { e with pinned := true }).use i).modPort b fun p =>
    { p with transfer := some ⟨r.serial, r.write, i⟩ }

/-- The engine looks at a READ: a VALID or DIRTY next block is transferred when no transfer is in flight; a missing one is asked for
where `ask` holds (R121, R122). -/
def lookRead (ask : Bool) (b : Bay) (r : ServerRequest) (s : State) : State × List Report :=
  match s.cache.find (s.key b r.next) with
  | some i =>
    if (s.slice b).port.transfer.isNone && ((s.cache.entry i).state = .valid || (s.cache.entry i).state = .dirty) then
      (startTransfer b r i s, [])
    else (s, [])
  | none => if ask then askFetch b r.next (r.start + r.count - 1) s else (s, [])

/-- The engine looks at a WRITE with blocks left: it needs an entry at hand and a writeback place (R124). -/
def lookWrite (b : Bay) (r : ServerRequest) (s : State) : State × List Report :=
  if (s.slice b).port.transfer.isSome || r.count ≤ r.transferred || Config.writebackMax ≤ usedPlaces s then (s, [])
  else
    match s.cache.find (s.key b r.next) with
    | some i =>
      if (s.cache.entry i).state = .valid && !(s.cache.entry i).pinned then (startTransfer b r i s, []) else (s, [])
    | none =>
      match s.cache.victim b with
      | none => (s, [])
      | some i =>
        (startTransfer b r i (s.modCache fun c => c.take i (s.key b r.next) .valid none), (s.cache.loser i).toList.map lossReport)

/-- The engine looks at one admitted request (R121, Table 7-4). A READ whose own transfer is in flight starts nothing, but asks for its next
block like any other where a failed writeback has freed that block's entry (R122, R130). -/
def lookRequest (ask : Bool) (b : Bay) (serial : Nat) (s : State) : State × List Report :=
  match (s.slice b).port.request serial with
  | none => (s, [])
  | some r => if r.write then lookWrite b r s else lookRead ask b r s

/-- The engine looks at a list of requests in order, each finding what the earlier ones left (R121). -/
def lookAll (ask : Bool) (b : Bay) : List Nat → State → State × List Report
  | [], s => (s, [])
  | serial :: rest, s =>
    let (s', reports) := lookRequest ask b serial s
    let (s'', more) := lookAll ask b rest s'
    (s'', reports ++ more)

/-- The engine of a bay judges its queue, oldest request first (R121). -/
def judgeQueue (ask : Bool) (b : Bay) (s : State) : State × List Report :=
  lookAll ask b ((s.slice b).port.queue.map ServerRequest.serial) s

/-- Several ports take a report one at a time (R121). -/
def judgePorts (ask : Bool) : List Bay → State → State × List Report
  | [], s => (s, [])
  | b :: rest, s =>
    let (s', reports) := judgeQueue ask b s
    let (s'', more) := judgePorts ask rest s'
    (s'', reports ++ more)

/-- The ports a report reaches, in order: from the bay after its origin on, or its origin alone (R121). -/
def Report.ports (r : Report) : List Bay := if r.toAll then roundRobin r.origin else [r.origin]

/-- Up to `n` reports are taken, first in, first out; a report that the taking of another causes is taken after those waiting
(log entry 11). -/
def serve : Nat → List Report → State → State
  | 0, _, s => s
  | _ + 1, [], s => s
  | n + 1, r :: rest, s =>
    let (s', more) := judgePorts r.freed r.ports s
    serve n (rest ++ more) s'

/-- More reports than one event can cause: each but the first few follows a block lost to a victim choice, of which there are at most
256 before an entry is freed again. -/
def serveLimit : Nat := 1024

/-- Entries that are FREE. -/
def freeEntries (s : State) : Nat := s.cache.count fun e => e.state = .free

/-- Entries that are pinned. -/
def pinnedEntries (s : State) : Nat := s.cache.count fun e => e.pinned

/-- The report of what an event of a bay changed from `s` to `t` (R121, R135, R142): it reaches every port where an entry was freed or
unpinned, a record freed or a place returned, and the bay's own port otherwise. -/
def changeReport (b : Bay) (s t : State) : Report where
  origin := b
  toAll := freeEntries s < freeEntries t || pinnedEntries t < pinnedEntries s || t.cache.fetches.length < s.cache.fetches.length ||
    usedPlaces t < usedPlaces s
  freed := freeEntries s < freeEntries t || t.cache.fetches.length < s.cache.fetches.length

/-- After an event of a bay that led from `s` to `t`, the ports take its report and those that follow (R121). -/
def settle (b : Bay) (s t : State) : State := serve serveLimit [changeReport b s t] t

/-! ## Abandonment, the media link and the medium (R113 to R118, R126) -/

/-- A transfer in flight is abandoned: its entry is unpinned, and for a WRITE freed; its reservation returns (R126). -/
def abandon (b : Bay) (s : State) : State :=
  match (s.slice b).port.transfer with
  | none => s
  | some t =>
    (s.modCache fun c => c.modEntry t.entry fun e =>
      let e := { e with pinned := false }
      if t.write then e.release else e).modPort b fun p => { p with transfer := none }

/-- No writeback record of the bay has a request any more (R117, R144). -/
def forgetRequests (b : Bay) (s : State) : State :=
  s.modCache fun c => { c with writebacks := c.writebacks.map fun r => if r.bay = b then { r with request := none } else r }

/-- The media link of a bay goes DOWN, if it is UP: the transfer is abandoned, the queue discarded, MEDIA_LINK flagged (R116, R117). -/
def linkDown (b : Bay) (s : State) : State :=
  if (s.slice b).port.up then
    setFlag b .mediaLink ((forgetRequests b (abandon b s)).modPort b fun p => { p with up := false, queue := [] })
  else s

/-- The medium enters EMPTY: capacity and flags go, the medium-changed mark is set and MEDIA_EJECTED flagged (R115). -/
def emptyMedium (b : Bay) (s : State) : State :=
  setFlag b .mediaEjected (s.modMedium b fun m =>
    { m with state := .empty, capacity := none, writable := false, ejectOnPowerOff := false, changed := true })

/-- DIRTY entries of a bay (R113). -/
def dirtyCount (b : Bay) (s : State) : Nat := s.cache.count fun e => e.heldBy b && e.state = .dirty

/-- Entries of a bay in a state are freed. -/
def freeHeld (b : Bay) (st : EntryState) (s : State) : State :=
  s.modCache fun c => c.mapEntries fun e => if e.heldBy b && e.state = st then e.release else e

/-- Every queued request of the bay completes with NOT_READY (R113, step 1). The order of the statuses is stated nowhere: oldest request
first (DESIGN CHOICE, log entry 48). -/
def endRequests (b : Bay) (s : State) : State :=
  (forgetRequests b s).modPort b fun p =>
    { p with queue := [], sent := p.sent ++ p.queue.map fun r => .status r.tag .notReady }

/-- Step 5 of R113: the bay's writeback records become orphans, its DIRTY entries are freed and the medium enters EMPTY (R114, R146). -/
def forceEject (b : Bay) (s : State) : State :=
  emptyMedium b (freeHeld b .dirty (s.modCache fun c => { c with writebacks := orphanWritebacks b c.writebacks }))

/-- The steps of an EJECT of a PRESENT medium (R113, R141). -/
def ejectPresent (force : Bool) (b : Bay) (s : State) : State :=
  let s1 := endRequests b (abandon b s)
  let s2 := (freeHeld b .filling s1).modCache fun c => { c with fetches := orphanFetches b c.fetches }
  let s3 := freeHeld b .valid s2
  if dirtyCount b s3 = 0 then emptyMedium b s3
  else if force then forceEject b s3
  else s3.modMedium b fun m => { m with state := .ejectPending }

/-- The eject-on-power-off step at a loss of power (R118). -/
def powerOffEject (b : Bay) (s : State) : State :=
  if (s.slice b).medium.state = .present ∧ (s.slice b).medium.ejectOnPowerOff then ejectPresent false b s else s

/-- What a loss of power does at the media port and the medium, in order (R98, steps 1 and 2), and the reports that follow. -/
def mediaPowerLoss (b : Bay) (s : State) : State := settle b s (powerOffEject b (linkDown b s))

/-- MEDIA_OPEN: taken in ON or RESETTING, accepted without effect on an UP link, refused on the port elsewhere (R116). -/
def execMediaOpen (b : Bay) (s : State) : Host.Outcome State Fault Refusal :=
  let q := (s.slice b).sequencer.state
  if (s.slice b).port.up then .next (tell b .openAccepted s)
  else if q = .on ∨ q = .resetting then
    .next (setFlag b .mediaLink (tell b .openAccepted (s.modPort b fun p => { p with up := true })))
  else .next (tell b .openRefused s)

/-- MEDIA_CLOSE: a close taken while the link is DOWN changes nothing (R116, R117). -/
def execMediaClose (b : Bay) (s : State) : Host.Outcome State Fault Refusal :=
  if (s.slice b).port.up then .next (settle b s (linkDown b s)) else .next s

/-! ## Server requests (R119, R120) -/

/-- A server request of a kind defined arrives on an UP link: the queue is judged, then checks 1 and 2 of R120, and then `pass`. A server
issues requests on an open port only (R117). -/
def arrive (b : Bay) (tag : Byte) (pass : State → State) (s : State) : State :=
  let m := (s.slice b).medium
  if !(s.slice b).port.up then s
  else if Config.serverQueueMax ≤ (s.slice b).port.queue.length then tell b (.status tag .busy) s
  else if m.state ≠ .present then tell b (.status tag .notReady) s
  else if m.changed then tell b (.status tag .mediumChanged) (s.modMedium b fun m => { m with changed := false })
  else pass s

/-- The blocks named lie on the disk and the count within 1..128; the sum is formed without overflow (R120, check 3). -/
def blocksInRange (m : Medium) (start count : Nat) : Bool := 1 ≤ count && count ≤ 128 && start + count - 1 < m.capacity.getD 0

/-- An admitted request joins the tail of the queue (R120). -/
def enqueue (b : Bay) (r : ServerRequest) (s : State) : State :=
  { s.modPort b fun p => { p with queue := p.queue ++ [r] } with nextSerial := s.nextSerial + 1 }

/-- A request is admitted; a READ whose next block is missing asks for it; then the engine judges the queue (R121, R122). -/
def admitAndServe (b : Bay) (r : ServerRequest) (s : State) : State :=
  let s1 := enqueue b r s
  if !r.write && (s1.cache.find (s1.key b r.next)).isNone then
    let (s2, reports) := askFetch b r.next (r.start + r.count - 1) s1
    serve serveLimit (⟨b, false, false⟩ :: reports) s2
  else serve serveLimit [⟨b, false, false⟩] s1

/-- READ (R119, R120, R122). -/
def execRead (b : Bay) (tag : Byte) (start : BitVec 32) (count : Nat) (s : State) : Host.Outcome State Fault Refusal :=
  .next (arrive b tag (fun s =>
    if blocksInRange (s.slice b).medium start.toNat count then
      admitAndServe b { serial := s.nextSerial, tag, write := false, start := start.toNat, count, next := start.toNat } s
    else tell b (.status tag .outOfRange) s) s)

/-- WRITE (R119, R120, R124). -/
def execWrite (b : Bay) (tag : Byte) (start : BitVec 32) (count : Nat) (s : State) : Host.Outcome State Fault Refusal :=
  .next (arrive b tag (fun s =>
    if !blocksInRange (s.slice b).medium start.toNat count then tell b (.status tag .outOfRange) s
    else if (s.slice b).medium.writable then
      admitAndServe b { serial := s.nextSerial, tag, write := true, start := start.toNat, count, next := start.toNat } s
    else tell b (.status tag .writeProtected) s) s)

/-- CAPACITY (R120). -/
def execCapacity (b : Bay) (tag : Byte) (s : State) : Host.Outcome State Fault Refusal :=
  .next (arrive b tag (fun s => tell b (.capacity tag ((s.slice b).medium.capacity.getD 0) (s.slice b).medium.writable) s) s)

/-- READY (R120). -/
def execReady (b : Bay) (tag : Byte) (s : State) : Host.Outcome State Fault Refusal :=
  .next (arrive b tag (tell b (.status tag .good)) s)

/-- A server request of an undefined kind: BUSY when the queue is full, INVALID otherwise (R119). -/
def execServerRequestInvalid (b : Bay) (tag : Byte) (s : State) : Host.Outcome State Fault Refusal :=
  if !(s.slice b).port.up then .next s
  else if Config.serverQueueMax ≤ (s.slice b).port.queue.length then .next (tell b (.status tag .busy) s)
  else .next (tell b (.status tag .invalid) s)

/-! ## The end of a transfer (R123, R125) -/

/-- The entry of a transfer is unpinned and no transfer is in flight (R123, R125, R130). -/
def unpin (b : Bay) (t : Transfer) (s : State) : State :=
  (s.modCache fun c => c.modEntry t.entry fun e => { e with pinned := false }).modPort b fun p => { p with transfer := none }

/-- A READ transfer ends: the block has been sent and the request advances or completes with GOOD; a missing next block is asked for;
then the reports are taken (R122, R123). -/
def endRead (b : Bay) (t : Transfer) (r : ServerRequest) (s : State) : State :=
  let s1 := tell b (.block r.tag r.next (s.cache.entry t.entry).data) (unpin b t s)
  if r.start + r.count ≤ r.next + 1 then settle b s (complete b r .good s1)
  else
    let s2 := modRequest b r.serial (fun r => { r with next := r.next + 1 }) s1
    let report := changeReport b s s2
    if (s2.cache.find (s2.key b (r.next + 1))).isNone then
      let (s3, reports) := askFetch b (r.next + 1) (r.start + r.count - 1) s2
      serve serveLimit (report :: reports) s3
    else serve serveLimit [report] s2

/-- The DIRTY entry and the writeback record that the end of a WRITE transfer makes (R125, R143). -/
def Cache.makeDirty (c : Cache) (b : Bay) (generation : Nat) (i : Fin 256) (block serial : Nat) (data : Block) : Cache :=
  let id := c.nextWritebackId
  { c.modEntry i fun e => { e with state := .dirty, data := data, owner := some (.writeback id) } with
    writebacks := c.writebacks ++ [{ id, bay := b, generation, block, entry := some i, request := some serial }]
    lastWritebackId := id }

/-- A WRITE transfer ends: the block is DIRTY with a writeback record, and the request advances (R125). -/
def endWrite (b : Bay) (t : Transfer) (r : ServerRequest) (data : Block) (s : State) : State :=
  let s1 := (unpin b t s).modCache fun c => c.makeDirty b (s.slice b).medium.generation t.entry r.next r.serial data
  settle b s (modRequest b r.serial (fun r => { r with next := r.next + 1, transferred := r.transferred + 1 }) s1)

/-- TRANSFER_END: with no transfer in flight the port's report is ignored (R123, R125, R126). The transfer of a READ that a failed fetch has
completed meanwhile stays in flight until here; it unpins its entry, and its block does not count as sent (DESIGN CHOICE, log entry
49). -/
def execTransferEnd (b : Bay) (data : Block) (s : State) : Host.Outcome State Fault Refusal :=
  match (s.slice b).port.transfer with
  | none => .next s
  | some t =>
    match (s.slice b).port.request t.serial with
    | none => .next (settle b s (unpin b t s))
    | some r => .next (if t.write then endWrite b t r data s else endRead b t r s)

/-! ## INSERT and EJECT (R112 to R114) -/

/-- The generation after an INSERT: 1 more, wrapping from 65,535 to 1 (R111). -/
def nextGeneration (g : Nat) : Nat := if 65535 ≤ g then 1 else g + 1

/-- INSERT on a bay (R112). -/
def insertAct (capacity : Nat) (writable ejectOnPowerOff : Bool) (b : Bay) (s : State) : Answer :=
  if capacity = 0 then refuse .range s
  else if (s.slice b).medium.state ≠ .empty then refuse .state s
  else
    let g := nextGeneration (s.slice b).medium.generation
    accept (s.modMedium b fun _ => ⟨.present, g, some capacity, writable, ejectOnPowerOff, true⟩) (le2 g)

/-- EJECT on a bay, before the reports it causes (R113, R114). -/
def ejectMedium (force : Bool) (b : Bay) (s : State) : State :=
  match (s.slice b).medium.state with
  | .present => ejectPresent force b s
  | .ejectPending => if force then forceEject b s else s
  | .empty => s

/-- EJECT on a bay (R113, R114). -/
def ejectAct (force : Bool) (b : Bay) (s : State) : Answer :=
  if (s.slice b).medium.state = .empty then refuse .state s
  else
    let t := ejectMedium force b s
    accept (settle b s t) (le1 (t.slice b).medium.state.code ++ le1 (dirtyCount b t))

/-- INSERT (R112). -/
def takeInsert (tag bay : Byte) (capacity : BitVec 32) (writable ejectOnPowerOff : Byte) (s : State) : State :=
  takeRequest 0x30 tag (withField (onOff writable) fun w => withField (onOff ejectOnPowerOff) fun e =>
    onBay bay (insertAct capacity.toNat w e)) s

/-- EJECT (R113). -/
def takeEject (tag bay force : Byte) (s : State) : State :=
  takeRequest 0x31 tag (withField (onOff force) fun f => onBay bay (ejectAct f)) s

/-- The meaning of INSERT (R112). -/
def execInsert (tag bay : Byte) (capacity : BitVec 32) (writable ejectOnPowerOff : Byte) (s : State) :
    Host.Outcome State Fault Refusal :=
  .next (takeInsert tag bay capacity writable ejectOnPowerOff s)

/-- The meaning of EJECT (R113). -/
def execEject (tag bay force : Byte) (s : State) : Host.Outcome State Fault Refusal := .next (takeEject tag bay force s)

/-! ## Answers to fetches (R138 to R140) -/

/-- Count an answer UNKNOWN, STALE, RANGE or DUPLICATE (R138, R149). -/
def countAnswer (code : ReplyCode) (c : Cache) : Cache :=
  match code with
  | .unknown => { c with counters := { c.counters with unknown := bump c.counters.unknown } }
  | .stale => { c with counters := { c.counters with stale := bump c.counters.stale } }
  | .range => { c with counters := { c.counters with range := bump c.counters.range } }
  | .duplicate => { c with counters := { c.counters with duplicate := bump c.counters.duplicate } }
  | _ => c

/-- An answer of such a code: its counter increases and the reply carries only the code (R138, R139, R144). -/
def answerCounted (code : ReplyCode) (s : State) : Answer := ⟨s.modCache (countAnswer code), code, []⟩

/-- The entry of an index of a fetch record receives its block: VALID, with no owner, its stamp kept (R138). -/
def fillEntry (id index : Nat) (data : Block) (e : CacheEntry) : CacheEntry :=
  if e.state = .filling ∧ e.owner = some (.fetch id index) then { e with state := .valid, data := data, owner := none } else e

/-- FILL, by the first case of R138 that applies. -/
def fillAct (id index generation : Nat) (data : Block) (s : State) : Answer :=
  match s.cache.fetchOf id with
  | none => answerCounted .unknown s
  | some r =>
    if r.orphan then
      let t := if index < r.marks.length then s.modCache fun c => c.markFetch r index else s
      answerCounted .stale (if t.cache.fetches.length < s.cache.fetches.length then settle r.bay s t else t)
    else if generation ≠ r.generation then answerCounted .stale s
    else if r.marks.length ≤ index then answerCounted .range s
    else if r.marks.getD index false then answerCounted .duplicate s
    else accept (settle r.bay s (s.modCache fun c => (c.mapEntries (fillEntry id index data)).markFetch r index)) []

/-- The blocks of a fetch record whose entries a failure frees (R139). -/
def FetchRecord.unfilled (r : FetchRecord) : List Nat :=
  (r.marks.zipIdx.filter fun p => !p.1).map fun p => r.first + p.2

/-- The READs of a bay whose next block is one of `blocks` complete with MEDIA_ERROR (R123, R139). The order of the statuses is stated
nowhere: oldest request first (DESIGN CHOICE, log entry 48). -/
def failReads (b : Bay) (blocks : List Nat) (s : State) : State :=
  ((s.slice b).port.queue.filter fun r => !r.write && blocks.contains r.next).foldl (fun s r => complete b r .mediaError s) s

/-- A live fetch record fails: its unfilled entries are freed, the record is freed, and the READs waiting on them end (R139). -/
def failFetch (r : FetchRecord) (s : State) : State :=
  settle r.bay s (failReads r.bay r.unfilled (s.modCache fun c =>
    (c.mapEntries fun e => if e.ofFetch r.id then e.release else e).dropFetch r.id))

/-- FILL_FAIL (R139). -/
def fillFailAct (id : Nat) (s : State) : Answer :=
  match s.cache.fetchOf id with
  | none => answerCounted .unknown s
  | some r =>
    if r.orphan then answerCounted .stale (settle r.bay s (s.modCache fun c => c.dropFetch id))
    else accept (failFetch r s) []

/-- The timeout counter increases (R140, R145). -/
def countTimeout (s : State) : State :=
  s.modCache fun c => { c with counters := { c.counters with timeout := bump c.counters.timeout } }

/-- FETCH_DEADLINE_EXPIRY: as FILL_FAIL for a live record; an orphan is freed (R140). A record whose deadline is stopped, or that is gone,
has no expiry. -/
def execFetchDeadlineExpiry (id : Byte) (s : State) : Host.Outcome State Fault Refusal :=
  match s.cache.fetchOf id.toNat with
  | none => .next s
  | some r =>
    if r.deadline.isNone then .next s
    else if r.orphan then .next (settle r.bay s (countTimeout (s.modCache fun c => c.dropFetch r.id)))
    else .next (failFetch r (countTimeout s))

/-- FILL (R138). -/
def takeFill (tag id index : Byte) (generation : BitVec 16) (data : Block) (s : State) : State :=
  takeRequest 0x34 tag (fillAct id.toNat index.toNat generation.toNat data) s

/-- FILL_FAIL (R139). -/
def takeFillFail (tag id : Byte) (s : State) : State := takeRequest 0x35 tag (fillFailAct id.toNat) s

/-- The meaning of FILL (R138). -/
def execFill (tag id index : Byte) (generation : BitVec 16) (data : Block) (s : State) : Host.Outcome State Fault Refusal :=
  .next (takeFill tag id index generation data s)

/-- The meaning of FILL_FAIL (R139). -/
def execFillFail (tag id : Byte) (s : State) : Host.Outcome State Fault Refusal := .next (takeFillFail tag id s)

/-! ## Answers to writebacks (R144, R145) -/

/-- The block of a WRITE is resolved: counted, with the failure mark set on a fail; when every block is transferred and resolved the
request completes (R125). -/
def resolveBlock (b : Bay) (failed : Bool) (serial : Nat) (s : State) : State :=
  let s' := modRequest b serial (fun r => { r with resolved := r.resolved + 1, failed := r.failed || failed }) s
  match (s'.slice b).port.request serial with
  | none => s'
  | some r =>
    if r.transferred = r.count ∧ r.resolved = r.count then
      if r.failed then setFlag b .mediaWriteFailed (complete b r .mediaError s') else complete b r .good s'
    else s'

/-- The entry of a resolved writeback: VALID after ok with the medium PRESENT, FREE otherwise (R115, R144). -/
def resolveEntry (keep : Bool) (i : Fin 256) (c : Cache) : Cache :=
  c.modEntry i fun e => if keep then { e with state := .valid, owner := none } else e.release

/-- The last DIRTY entry of an EJECT_PENDING medium resolved: the medium enters EMPTY (R115). -/
def finishEject (b : Bay) (s : State) : State :=
  if (s.slice b).medium.state = .ejectPending ∧ dirtyCount b s = 0 then emptyMedium b s else s

/-- A live writeback record is resolved with ok or fail (R144). -/
def resolveWriteback (r : WritebackRecord) (ok : Bool) (s : State) : State :=
  let keep := ok && (s.slice r.bay).medium.state ≠ .ejectPending
  let s1 := s.modCache fun c => (r.entry.elim c fun i => resolveEntry keep i c).dropWriteback r.id
  settle r.bay s (finishEject r.bay (r.request.elim s1 fun serial => resolveBlock r.bay (!ok) serial s1))

/-- WRITE_DONE (R144). -/
def writeDoneAct (id : Nat) (ok : Bool) (s : State) : Answer :=
  match s.cache.writebackOf id with
  | none => answerCounted .unknown s
  | some r =>
    if r.orphan then answerCounted .stale (settle r.bay s (s.modCache fun c => c.dropWriteback id))
    else accept (resolveWriteback r ok s) []

/-- WRITEBACK_DEADLINE_EXPIRY: as a fail for a live record; an orphan is freed (R145). A record whose deadline is stopped, or that is
gone, has no expiry. -/
def execWritebackDeadlineExpiry (id : Byte) (s : State) : Host.Outcome State Fault Refusal :=
  match s.cache.writebackOf id.toNat with
  | none => .next s
  | some r =>
    if r.deadline.isNone then .next s
    else if r.orphan then .next (settle r.bay s (countTimeout (s.modCache fun c => c.dropWriteback r.id)))
    else .next (resolveWriteback r false (countTimeout s))

/-- WRITE_DONE (R144). -/
def takeWriteDone (tag id outcome : Byte) (s : State) : State :=
  takeRequest 0x36 tag (withField (outcomeOf outcome) fun ok => writeDoneAct id.toNat ok) s

/-- The meaning of WRITE_DONE (R144). -/
def execWriteDone (tag id outcome : Byte) (s : State) : Host.Outcome State Fault Refusal := .next (takeWriteDone tag id outcome s)

/-! ## CACHE_SET and CACHE_QUERY (R148, R149) -/

/-- The settings in the order of Table 8-4. -/
def Cache.encodeSettings (c : Cache) : List Byte :=
  c.reserves.toList.flatMap le1 ++ le1 c.readAhead ++ le1 c.fetchTimeout ++ le1 c.writebackTimeout

/-- CACHE_SET (R148). -/
def cacheSetAct (f : CacheFields) (s : State) : Answer :=
  let s' := s.modCache fun c =>
    { c with
      reserves := f.reserves.map fun r => min r.toNat 32
      readAhead := min f.readAhead.toNat 7
      fetchTimeout := clamp 1 60 f.fetchTimeout.toNat
      writebackTimeout := clamp 1 120 f.writebackTimeout.toNat }
  accept s' s'.cache.encodeSettings

/-- Entries of a bay in a state (R149). -/
def Cache.countIn (c : Cache) (b : Bay) (st : EntryState) : Nat := c.count fun e => e.heldBy b && e.state = st

/-- CACHE_QUERY (R149). -/
def cacheQueryAct (s : State) : Answer :=
  let c := s.cache
  accept s
    (le2 (freeEntries s) ++
     (List.finRange 8).flatMap (fun b => le2 (c.countIn b .filling) ++ le2 (c.countIn b .valid) ++ le2 (c.countIn b .dirty)) ++
     c.encodeSettings ++ le1 (reservedPlaces s) ++
     le1 c.fetches.length ++ c.fetches.flatMap (fun r => le1 r.id ++ le1 r.bay.val ++ bit r.orphan) ++
     le1 c.writebacks.length ++ c.writebacks.flatMap (fun r => le1 r.id ++ le1 r.bay.val ++ bit r.orphan) ++
     le2 c.counters.unknown ++ le2 c.counters.stale ++ le2 c.counters.range ++ le2 c.counters.duplicate ++ le2 c.counters.timeout)

/-- CACHE_SET (R148). -/
def takeCacheSet (tag : Byte) (f : CacheFields) (s : State) : State := takeRequest 0x32 tag (cacheSetAct f) s

/-- CACHE_QUERY (R149). -/
def takeCacheQuery (tag : Byte) (s : State) : State := takeRequest 0x33 tag cacheQueryAct s

/-- The meaning of CACHE_SET (R148). -/
def execCacheSet (tag : Byte) (f : CacheFields) (s : State) : Host.Outcome State Fault Refusal := .next (takeCacheSet tag f s)

/-- The meaning of CACHE_QUERY (R149). -/
def execCacheQuery (tag : Byte) (s : State) : Host.Outcome State Fault Refusal := .next (takeCacheQuery tag s)

end Sys2Proof.Machine
end

