-- ==== Sys2Proof/Machine/Power.lean ====
section
/-! DEFINITION. Grant queue and power sequencers (chapters 5 and 6), with the store writer's start that a POWER request can cause
(R82, R156): outputs, transitions and their effects on other blocks, grants, the POWER actions, POWER_SET, BUDGET, STORE, and the
sequencer's timers, pins and monitor requests. -/

namespace Sys2Proof.Machine

/-! ## The store writer's start (R155, R156) -/

/-- Record 0 is global; record n + 1 belongs to bay n (R152). -/
def bayRecordNo (b : Bay) : Fin 9 := b.succ

/-- The seven content bytes of a bay record: restore policy in bits 0 and 1 of the first byte with the last commanded state in its bit 2,
then weight, power-good timeout, soft-stop wait, hold-off, reset pulse and button press (R152; the placement is log entry 46). -/
def BayRecord.content (r : BayRecord) : Vector Byte 7 :=
  #v[BitVec.ofNat 8 (r.policy.code + 4 * r.lastOn.toNat), BitVec.ofNat 8 r.settings.weight, BitVec.ofNat 8 r.settings.powerGood,
     BitVec.ofNat 8 r.settings.softStop, BitVec.ofNat 8 r.settings.holdOff, BitVec.ofNat 8 r.settings.resetPulse,
     BitVec.ofNat 8 r.settings.button]

/-- The seven content bytes of the global record: budget, restore delay, and the unused bytes 0 (R152; the placement is log entry 46). -/
def GlobalRecord.content (r : GlobalRecord) : Vector Byte 7 :=
  #v[BitVec.ofNat 8 r.budget, BitVec.ofNat 8 r.restoreDelay, 0, 0, 0, 0, 0]

/-- The content bytes of a record's RAM copy (R152). -/
def PolicyStore.ramContent (p : PolicyStore) (r : Fin 9) : Vector Byte 7 :=
  if h : r = 0 then p.ramGlobal.content else (p.ramBays.get (r.pred h)).content

/-- The dirty record with the lowest number (R156). -/
def PolicyStore.lowestDirty (p : PolicyStore) : Option (Fin 9) := (List.finRange 9).find? fun r => p.dirty.getLsbD r.val

/-- The writer, IDLE with no restart pending, starts the write of the lowest dirty record: its dirty mark clears, its content is fixed,
and the nonvolatile record is erased and fails its check until the write completes (R153, R156). -/
def PolicyStore.startWrite (p : PolicyStore) : PolicyStore :=
  if p.writer.isSome || p.restartPending then p
  else
    match p.lowestDirty with
    | none => p
    | some r =>
      { p with
        dirty := p.dirty &&& ~~~(BitVec.twoPow 9 r.val)
        writer := some (r, p.ramContent r)
        nv := p.nv.set r none }

/-- A record's dirty mark is set, and the writer looks for a dirty record (R155, R156). -/
def PolicyStore.markDirty (p : PolicyStore) (r : Fin 9) : PolicyStore :=
  { p with dirty := p.dirty ||| BitVec.twoPow 9 r.val }.startWrite

/-- Change the RAM copy of a bay record. -/
def PolicyStore.modRam (p : PolicyStore) (b : Bay) (f : BayRecord → BayRecord) : PolicyStore :=
  { p with ramBays := p.ramBays.set b (f (p.ramBays.get b)) }

/-- A POWER request replied OK sets the bay's last commanded state; a change marks the record dirty (R82). -/
def setLastCommanded (on : Bool) (b : Bay) (s : State) : State :=
  s.modPolicy fun p =>
    if (p.ramBays.get b).lastOn = on then p else (p.modRam b fun r => { r with lastOn := on }).markDirty (bayRecordNo b)

/-! ## Outputs and sense inputs (R79, R92, R93) -/

/-- The sequencer states in which PWR_EN is asserted (R79). -/
def SeqState.powered : SeqState → Bool
  | .powering | .on | .resetting | .softStopping => true
  | .off | .queued | .holdOff | .fault => false

/-- The PWR_EN output (R79). -/
def Sequencer.pwrEn (q : Sequencer) : Bool := q.state.powered

/-- The RST output (R79). -/
def Sequencer.rst (q : Sequencer) : Bool := q.state = .resetting

/-- The BTN output: in SOFT_STOPPING while the button press timer runs (R79). -/
def Sequencer.btn (q : Sequencer) : Bool := q.state = .softStopping && q.timer.any fun t => t.1 = .buttonPress

/-- The BTN_SENSE level seen: the pin, or the level a masking hold keeps (R92). -/
def Sequencer.btnSeen (q : Sequencer) : Bool :=
  match q.buttonHold with
  | some h => h.level
  | none => q.btnSense

/-- The masking hold starts with a press, at the level seen just before it (R92). -/
def Sequencer.pressStart (q : Sequencer) : Sequencer := { q with buttonHold := some ⟨q.btnSeen, true⟩ }

/-- A press ends: the hold ends at once when the pin shows the held level, and goes on for up to 100 ms otherwise (R92). -/
def Sequencer.pressEnd (q : Sequencer) : Sequencer :=
  match q.buttonHold with
  | some h => if h.pressing then { q with buttonHold := if q.btnSense = h.level then none else some ⟨h.level, false⟩ } else q
  | none => q

/-- After a change from `before`, a BTN_SENSE level seen that changed away from the snapshot flags SENSE_CHANGED (R93). -/
def btnSenseCheck (b : Bay) (before : Bool) (s : State) : State :=
  let q := (s.slice b).sequencer
  setFlagIf (q.btnSeen != before && q.btnSeen != q.snapshotBtn) b .senseChanged s

/-! ## Effects of transitions on other blocks (R95 to R98) -/

/-- A change of sequencer state: the running timer becomes the one given, and POWER_STATE is flagged (R79). -/
def changeState (b : Bay) (st : SeqState) (timer : Option (SeqTimer × Nat)) (s : State) : State :=
  setFlag b .powerState (s.modSeq b fun q => { q with state := st, timer := timer })

/-- Leaving ON for RESETTING or SOFT_STOPPING: the responder disarms and the monitor is suspended, or stays ACTING on its own request
(R97). -/
def leaveOn (own : Bool) (b : Bay) (s : State) : State := suspendMonitor own b (disarmResponder b s)

/-- A loss of power: the link goes DOWN, then eject-on-power-off; the monitor is suspended unless its own request is taken; the
responder disarms (R98). -/
def losePower (own : Bool) (b : Bay) (s : State) : State := leaveOn own b (mediaPowerLoss b s)

/-- Reaching ON arms the responder and moves the monitor to GRACE (R95, R96). -/
def reachOnEffects (b : Bay) (s : State) : State := (armResponder b s).modMonitor b Monitor.reachOn

/-! ## Grant queue (R103 to R106) -/

/-- The POWERING sum (R102). -/
def GrantQueue.sum (g : GrantQueue) : Nat := (g.granted.toList.map fun w => w.getD 0).sum

/-- The effective weight of a bay (R104). -/
def effectiveWeight (b : Bay) (s : State) : Nat := min (s.slice b).sequencer.settings.weight s.grant.budget

/-- The three conditions of a grant; the restore delay must have ended (R105, R107). -/
def grantable (b : Bay) (s : State) : Bool :=
  !s.grant.sag && s.grant.timer = .ended && s.grant.sum + effectiveWeight b s ≤ s.grant.budget

/-- A bay's grant is released (R104). -/
def release (b : Bay) (s : State) : State := s.modGrant fun g => { g with granted := g.granted.set b none }

/-- The bay reaches ON from POWERING: the timer stops, the grant is released and the effects of R95 follow (R84, R95). -/
def reachOn (b : Bay) (s : State) : State :=
  let s' := reachOnEffects b (release b (changeState b .on none s))
  if (s'.slice b).line.config.detectOnPowerOn then startDetection b s' else s'

/-- The head is granted: it leaves the queue, its effective weight is counted, it enters POWERING with its power-good timer, and with
PGOOD seen high it goes on to ON in the same step (R84, R104, R105). -/
def grantHead (b : Bay) (rest : List Bay) (s : State) : State :=
  let w := effectiveWeight b s
  let s1 := s.modGrant fun g => { g with queue := rest, granted := g.granted.set b (some w) }
  let s2 := changeState b .powering (some (.powerGood, (s.slice b).sequencer.settings.powerGood)) s1
  if (s2.slice b).sequencer.pgood then reachOn b s2 else s2

/-- A grant attempt on the waiting bays `queue`: each head that is grantable is granted, and the attempt ends at the first that is not
(R105). -/
def attemptFrom : List Bay → State → State
  | [], s => s
  | b :: rest, s => if grantable b s then attemptFrom rest (grantHead b rest s) else s

/-- A grant attempt (R105). A release that a grant causes within it is judged by the attempt going on. -/
def attempt (s : State) : State := attemptFrom s.grant.queue s

/-- The bay enters QUEUED and joins the tail of the queue; joining an empty queue starts an attempt (R83, R103, R106). -/
def joinQueue (b : Bay) (s : State) : State :=
  let s' := (changeState b .queued none s).modGrant fun g => { g with queue := g.queue ++ [b] }
  if s.grant.queue.isEmpty then attempt s' else s'

/-- A waiting bay goes to OFF and leaves the queue; a change of head starts an attempt (R83, R103, R106). It has not lost power; its
monitor, if ACTING, falls to SUSPENDED (R74). -/
def leaveQueue (b : Bay) (s : State) : State :=
  let s' := suspendMonitor false b ((changeState b .off none s).modGrant fun g => { g with queue := g.queue.filter fun x => x ≠ b })
  if s.grant.queue.head? = some b then attempt s' else s'

/-! ## Transitions (sections 5.4 to 5.9) -/

/-- The bay enters HOLDOFF with its pending-on mark: BTN is released, the hold-off timer starts, power is lost, and a POWERING bay
releases its grant, which starts an attempt (R87, R88, R98, R106). -/
def enterHoldOff (own pendingOn : Bool) (b : Bay) (s : State) : State :=
  let q := (s.slice b).sequencer
  let s1 := (changeState b .holdOff (some (.holdOff, q.settings.holdOff)) s).modSeq b fun q => { q.pressEnd with pendingOn := pendingOn }
  let s2 := losePower own b s1
  if q.state = .powering then attempt (release b s2) else s2

/-- The bay enters RESETTING: RST is asserted and the reset pulse timer starts (R85, R97). -/
def enterResetting (own : Bool) (b : Bay) (s : State) : State :=
  leaveOn own b (changeState b .resetting (some (.resetPulse, (s.slice b).sequencer.settings.resetPulse)) s)

/-- The bay enters SOFT_STOPPING: BTN is asserted and the button press timer starts (R86, R92, R97). -/
def enterSoftStopping (b : Bay) (s : State) : State :=
  leaveOn false b ((changeState b .softStopping (some (.buttonPress, (s.slice b).sequencer.settings.button)) s).modSeq b
    Sequencer.pressStart)

/-- A server that stops by itself: the bay enters OFF, SERVER_STOPPED is flagged and power is lost (R91, R98). -/
def serverStopped (b : Bay) (s : State) : State := losePower false b (setFlag b .serverStopped (changeState b .off none s))

/-! ## POWER requests (R81, Table 5-4) -/

/-- An OK reply to POWER with the state and the pending-on mark as they stand (R81). -/
def powerReply (b : Bay) (s : State) : Answer :=
  accept s (le1 (s.slice b).sequencer.state.code ++ bit (s.slice b).sequencer.pendingOn)

/-- A POWER action taken and replied OK that records the last commanded state (R82). -/
def powerDone (on : Bool) (b : Bay) (s : State) : Answer := powerReply b (setLastCommanded on b s)

/-- The pending-on mark takes a value (R89). -/
def setPendingOn (v : Bool) (b : Bay) (s : State) : State := s.modSeq b fun q => { q with pendingOn := v }

/-- POWER ON (Table 5-4). -/
def powerOnAct (b : Bay) (s : State) : Answer :=
  match (s.slice b).sequencer.state with
  | .off => powerDone true b (joinQueue b s)
  | .queued | .powering | .on => powerDone true b s
  | .resetting | .softStopping => refuse .busy s
  | .holdOff => powerDone true b (setPendingOn true b s)
  | .fault => refuse .faulted s

/-- POWER OFF_SOFT (Table 5-4). -/
def powerOffSoftAct (b : Bay) (s : State) : Answer :=
  match (s.slice b).sequencer.state with
  | .off | .softStopping => powerDone false b s
  | .queued => powerDone false b (leaveQueue b s)
  | .powering | .resetting => refuse .busy s
  | .on => powerDone false b (enterSoftStopping b s)
  | .holdOff => powerDone false b (setPendingOn false b s)
  | .fault => refuse .faulted s

/-- POWER OFF_HARD (Table 5-4). -/
def powerOffHardAct (b : Bay) (s : State) : Answer :=
  match (s.slice b).sequencer.state with
  | .off => powerDone false b s
  | .queued => powerDone false b (leaveQueue b s)
  | .powering | .on | .resetting | .softStopping => powerDone false b (enterHoldOff false false b s)
  | .holdOff => powerDone false b (setPendingOn false b s)
  | .fault => powerDone false b (suspendMonitor false b (changeState b .off none s))

/-- POWER CYCLE (Table 5-4). -/
def powerCycleAct (b : Bay) (s : State) : Answer :=
  match (s.slice b).sequencer.state with
  | .off => powerDone true b (joinQueue b s)
  | .queued => powerDone true b s
  | .powering | .resetting | .softStopping => refuse .busy s
  | .on => powerDone true b (enterHoldOff false true b s)
  | .holdOff => powerDone true b (setPendingOn true b s)
  | .fault => refuse .faulted s

/-- POWER RESET (Table 5-4); the last commanded state stays (R82). -/
def powerResetAct (b : Bay) (s : State) : Answer :=
  match (s.slice b).sequencer.state with
  | .off | .queued | .holdOff => refuse .state s
  | .powering | .resetting | .softStopping => refuse .busy s
  | .on => powerReply b (enterResetting false b s)
  | .fault => refuse .faulted s

/-- POWER CLEAR_FAULT (Table 5-4); the last commanded state stays (R82, R90). -/
def powerClearFaultAct (b : Bay) (s : State) : Answer :=
  match (s.slice b).sequencer.state with
  | .fault => powerReply b (suspendMonitor false b (changeState b .off none s))
  | _ => refuse .state s

/-- POWER ON (R81). -/
def takePowerOn (tag bay : Byte) (s : State) : State := takeRequest 0x28 tag (onBay bay powerOnAct) s

/-- POWER OFF_SOFT (R81, R86). -/
def takePowerOffSoft (tag bay : Byte) (s : State) : State := takeRequest 0x28 tag (onBay bay powerOffSoftAct) s

/-- POWER OFF_HARD (R81). -/
def takePowerOffHard (tag bay : Byte) (s : State) : State := takeRequest 0x28 tag (onBay bay powerOffHardAct) s

/-- POWER CYCLE (R81, R88). -/
def takePowerCycle (tag bay : Byte) (s : State) : State := takeRequest 0x28 tag (onBay bay powerCycleAct) s

/-- POWER RESET (R81, R85). -/
def takePowerReset (tag bay : Byte) (s : State) : State := takeRequest 0x28 tag (onBay bay powerResetAct) s

/-- POWER CLEAR_FAULT (R81, R90). -/
def takePowerClearFault (tag bay : Byte) (s : State) : State := takeRequest 0x28 tag (onBay bay powerClearFaultAct) s

/-- The meaning of POWER ON (R81). -/
def execPowerOn (tag bay : Byte) (s : State) : Host.Outcome State Fault Refusal := .next (takePowerOn tag bay s)

/-- The meaning of POWER OFF_SOFT (R86). -/
def execPowerOffSoft (tag bay : Byte) (s : State) : Host.Outcome State Fault Refusal := .next (takePowerOffSoft tag bay s)

/-- The meaning of POWER OFF_HARD (R81). -/
def execPowerOffHard (tag bay : Byte) (s : State) : Host.Outcome State Fault Refusal := .next (takePowerOffHard tag bay s)

/-- The meaning of POWER CYCLE (R88). -/
def execPowerCycle (tag bay : Byte) (s : State) : Host.Outcome State Fault Refusal := .next (takePowerCycle tag bay s)

/-- The meaning of POWER RESET (R85). -/
def execPowerReset (tag bay : Byte) (s : State) : Host.Outcome State Fault Refusal := .next (takePowerReset tag bay s)

/-- The meaning of POWER CLEAR_FAULT (R90). -/
def execPowerClearFault (tag bay : Byte) (s : State) : Host.Outcome State Fault Refusal := .next (takePowerClearFault tag bay s)

/-! ## POWER_SET, BUDGET and STORE (R80, R108, R154) -/

/-- POWER_SET: a weight change in QUEUED or POWERING refuses the whole request (R80). -/
def powerSetAct (p : PowerSettings) (b : Bay) (s : State) : Answer :=
  let q := (s.slice b).sequencer
  if (q.state = .queued ∨ q.state = .powering) ∧ p.weight ≠ q.settings.weight then refuse .state s
  else accept (s.modSeq b fun q => { q with settings := p }) p.encode

/-- BUDGET: refused with CONFLICT below the POWERING sum; otherwise written, and a grant attempt is made (R108). -/
def budgetAct (budget delay : Nat) (s : State) : Answer :=
  let budget := clamp 1 60 budget
  if budget < s.grant.sum then refuse .conflict s
  else
    let s' := attempt (s.modGrant fun g => { g with budget := budget, restoreDelay := delay })
    accept s' (le1 budget ++ le1 delay ++ le1 s'.grant.sum ++ encodeBays s'.grant.queue ++ bit (s'.grant.timer = .ended))

/-- The reply to STORE: the record's RAM copy, and whether a write of it is in flight (R154). -/
def storeReply (r : Fin 9) (fields : PolicyStore → List Byte) (s : State) : Answer :=
  accept s (fields s.policy ++ bit (s.policy.writer.any fun w => w.1 = r))

/-- STORE of record 0 (R154). -/
def storeGlobalAct (f : StoreFields) (s : State) : Answer :=
  storeReply 0 (fun p => p.ramGlobal.encode)
    (s.modPolicy fun p => { p with ramGlobal := ⟨clamp 1 60 f.f0.toNat, f.f1.toNat⟩ }.markDirty 0)

/-- STORE of a bay record, which keeps its last commanded state (R154). -/
def storeBayAct (policy : RestorePolicy) (f : StoreFields) (b : Bay) (s : State) : Answer :=
  storeReply (bayRecordNo b) (fun p => (p.ramBays.get b).encode)
    (s.modPolicy fun p => (p.modRam b fun r =>
      { r with policy := policy, settings := PowerSettings.clamped f.f2.toNat f.f3.toNat f.f4.toNat f.f5.toNat f.f6.toNat f.f1.toNat
      }).markDirty (bayRecordNo b))

/-- STORE: a record number above 8 is refused with RANGE (R154). Only a bay record has a restore policy to read (log entry 12). -/
def storeAct (record : Byte) (f : StoreFields) (s : State) : Answer :=
  if record = 0 then storeGlobalAct f s
  else if h : record.toNat - 1 < 8 then withField (restorePolicyOf f.f0) (fun p => storeBayAct p f ⟨record.toNat - 1, h⟩) s
  else refuse .range s

/-- POWER_SET (R80). -/
def takePowerSet (tag bay : Byte) (f : PowerFields) (s : State) : State :=
  takeRequest 0x29 tag (onBay bay (powerSetAct (PowerSettings.clamped f.powerGood.toNat f.softStop.toNat f.holdOff.toNat
    f.resetPulse.toNat f.button.toNat f.weight.toNat))) s

/-- BUDGET (R108). -/
def takeBudget (tag budget delay : Byte) (s : State) : State := takeRequest 0x2A tag (budgetAct budget.toNat delay.toNat) s

/-- STORE (R154). -/
def takeStore (tag record : Byte) (f : StoreFields) (s : State) : State := takeRequest 0x2B tag (storeAct record f) s

/-- The meaning of POWER_SET (R80). -/
def execPowerSet (tag bay : Byte) (f : PowerFields) (s : State) : Host.Outcome State Fault Refusal := .next (takePowerSet tag bay f s)

/-- The meaning of BUDGET (R108). -/
def execBudget (tag budget delay : Byte) (s : State) : Host.Outcome State Fault Refusal := .next (takeBudget tag budget delay s)

/-- The meaning of STORE (R154). -/
def execStore (tag record : Byte) (f : StoreFields) (s : State) : Host.Outcome State Fault Refusal := .next (takeStore tag record f s)

/-! ## Pins, timers and the monitor's requests -/

/-- PGOOD_CHANGE: the change is compared with the snapshot (R93); a rise brings a POWERING bay to ON (R84), a fall ends a soft stop (R87)
or stops a server (R91). A level already seen is no change. -/
def execPgoodChange (b : Bay) (level : Bool) (s : State) : Host.Outcome State Fault Refusal :=
  let q := (s.slice b).sequencer
  if q.pgood = level then .next s
  else
    let s1 := setFlagIf (level != q.snapshotPgood) b .senseChanged (s.modSeq b fun q => { q with pgood := level })
    match q.state, level with
    | .powering, true => .next (attempt (reachOn b s1))
    | .softStopping, false => .next (enterHoldOff false false b s1)
    | .on, false => .next (serverStopped b s1)
    | .resetting, false => .next (serverStopped b s1)
    | _, _ => .next s1

/-- BTN_SENSE_CHANGE: a masking hold after the press ends when the pin shows the held level; a change of the seen level is compared with
the snapshot (R92, R93). -/
def execBtnSenseChange (b : Bay) (level : Bool) (s : State) : Host.Outcome State Fault Refusal :=
  .next (btnSenseCheck b (s.slice b).sequencer.btnSeen (s.modSeq b fun q =>
    let q := { q with btnSense := level }
    match q.buttonHold with
    | some h => if !h.pressing && h.level == level then { q with buttonHold := none } else q
    | none => q))

/-- BTN_SENSE_MASK_END: 100 ms after the end of a press the hold ends and the seen level follows the pin (R92, R93). -/
def execBtnSenseMaskEnd (b : Bay) (s : State) : Host.Outcome State Fault Refusal :=
  match (s.slice b).sequencer.buttonHold with
  | some ⟨level, false⟩ => .next (btnSenseCheck b level (s.modSeq b fun q => { q with buttonHold := none }))
  | _ => .next s

/-- A bay is in a state with a timer running. -/
def timing (b : Bay) (st : SeqState) (t : SeqTimer) (s : State) : Bool :=
  (s.slice b).sequencer.state = st && (s.slice b).sequencer.timer.any fun x => x.1 = t

/-- POWER_GOOD_TIMER_EXPIRY in POWERING: the bay enters FAULT, its grant is released, POWER_FAULT is flagged with its reason, power is
lost, and the release starts an attempt (R84, R90, R98, R106). -/
def execPowerGoodTimerExpiry (b : Bay) (s : State) : Host.Outcome State Fault Refusal :=
  if timing b .powering .powerGood s then
    .next (attempt (release b (losePower false b (setFlag b .powerFault ((changeState b .fault none s).modSeq b fun q =>
      { q with fault := .powerGoodTimeout })))))
  else .next s

/-- RESET_PULSE_TIMER_EXPIRY: RST is released and the bay returns to ON with the effects of R96 (R85). -/
def execResetPulseTimerExpiry (b : Bay) (s : State) : Host.Outcome State Fault Refusal :=
  if timing b .resetting .resetPulse s then .next (reachOnEffects b (changeState b .on none s)) else .next s

/-- BUTTON_PRESS_TIMER_EXPIRY: BTN is released and the soft-stop wait timer starts; no change of state (R86, R92). -/
def execButtonPressTimerExpiry (b : Bay) (s : State) : Host.Outcome State Fault Refusal :=
  if timing b .softStopping .buttonPress s then
    .next (s.modSeq b fun q => { q.pressEnd with timer := some (.softStopWait, q.settings.softStop) })
  else .next s

/-- SOFT_STOP_WAIT_EXPIRY: the sequencer cuts power into HOLDOFF, and POWER_FAULT is flagged with its reason (R87). -/
def execSoftStopWaitExpiry (b : Bay) (s : State) : Host.Outcome State Fault Refusal :=
  if timing b .softStopping .softStopWait s then
    .next (enterHoldOff false false b (setFlag b .powerFault (s.modSeq b fun q => { q with fault := .softStopTimeout })))
  else .next s

/-- HOLD_OFF_TIMER_EXPIRY: with pending-on set the bay enters QUEUED, with it clear OFF; the mark becomes clear (R89). Entering OFF
suspends an ACTING monitor (R74). -/
def execHoldOffTimerExpiry (b : Bay) (s : State) : Host.Outcome State Fault Refusal :=
  if timing b .holdOff .holdOff s then
    if (s.slice b).sequencer.pendingOn then .next (joinQueue b (setPendingOn false b s))
    else .next (suspendMonitor false b (changeState b .off none s))
  else .next s

/-- MONITOR_REQUEST_TAKEN: the sequencer takes the outstanding request; it acts in ON with the monitor ACTING on it, and otherwise takes
it as NOTIFY (R73, R94). -/
def execMonitorRequestTaken (b : Bay) (s : State) : Host.Outcome State Fault Refusal :=
  let s' := s.modMonitor b fun m => { m with outstanding := none }
  let acts : Bool := (s.slice b).sequencer.state = .on && (s.slice b).monitor.state = .acting
  match (s.slice b).monitor.outstanding with
  | none => .next s
  | some .reset => .next (if acts then enterResetting true b s' else s')
  | some .cycle => .next (if acts then enterHoldOff true true b s' else s')

/-- SAG_CHANGE: each change flags SAG_CHANGED, and a release starts an attempt (R106, R109). -/
def execSagChange (level : Bool) (s : State) : Host.Outcome State Fault Refusal :=
  if s.grant.sag = level then .next s
  else
    let s' := setPartFlag .sagChanged (s.modGrant fun g => { g with sag := level })
    .next (if level then s' else attempt s')

/-- RESTORE_DELAY_END: the running restore delay timer ends and an attempt is made (R106, R107). -/
def execRestoreDelayEnd (s : State) : Host.Outcome State Fault Refusal :=
  match s.grant.timer with
  | .running _ => .next (attempt (s.modGrant fun g => { g with timer := .ended }))
  | _ => .next s

end Sys2Proof.Machine
end

