-- ==== Sys2Proof/Machine/Resets.lean ====
section
/-! DEFINITION. Controller resets and the policy store's completions (chapter 9): the warm and soft reset of every block, the cold reset
with the policy read and the cold restore, and the commands STORE_WRITE_COMPLETE, RESTART, COLD_RESET, WARM_RESET and
RESET_N_RELEASE. -/

namespace Sys2Proof.Machine

/-! ## Each block at a warm or soft reset -/

/-- The rate unit (R42): remembered values, rate index, mode and detection record stay. -/
def RateUnit.afterReset (r : RateUnit) : RateUnit :=
  { r with detection := none, drift := .none, rejected := 0, window := {}, lastWindow := {}, lastNumber := 0 }

/-- The console line (R1, R12, R21): configuration and RTS stay, the moving parts do not, and the CTS reference is taken again. -/
def Line.afterReset (l : Line) : Line :=
  { l with
    queue := [], tx := .idle, looped := some [], drainMark := false, receiver := .waitHigh, lowPeriod := none, ctsRef := l.seenCts
    rate := l.rate.afterReset }

/-- The history (R61): the ring stays, the stream is DETACHED and the idle-flush timer restarts. -/
def History.afterReset (h : History) : History := { h with stream := none, idleExpired := false }

/-- The power sequencer (R101, Table 5-5). -/
def Sequencer.afterReset (q : Sequencer) : Sequencer :=
  let rebuilt : SeqState × Option (SeqTimer × Nat) :=
    match q.state with
    | .off | .queued | .holdOff => (.off, none)
    | .powering => (.powering, some (.powerGood, q.settings.powerGood))
    | .on | .resetting => (.on, none)
    | .softStopping => if q.pgood then (.on, none) else (.holdOff, some (.holdOff, q.settings.holdOff))
    | .fault => (.fault, none)
  { q with
    state := rebuilt.1, timer := rebuilt.2, pendingOn := false, buttonHold := none
    snapshotPgood := q.pgood, snapshotBtn := q.btnSense }

/-- The medium record (R128): EMPTY, with the medium-changed mark set and the generation kept. -/
def Medium.afterReset (m : Medium) : Medium := { generation := m.generation, changed := true }

/-- The media port (R128): DOWN, with no request and no transfer. -/
def Port.afterReset (p : Port) : Port := { sent := p.sent }

/-- One bay slice at a warm or soft reset; the monitor is placed from its enable and the rebuilt sequencer state (R77, R78), and every
flag is cleared and unmasked (R178). -/
def Slice.afterReset (x : Slice) : Slice :=
  let q := x.sequencer.afterReset
  { line := x.line.afterReset
    history := x.history.afterReset
    heartbeat := { x.heartbeat with j := 0 }
    responder := { x.responder with armed := none, j := 0 }
    monitor := Monitor.place (q.state = .on) { x.monitor with count := 0, outstanding := none }
    sequencer := q
    medium := x.medium.afterReset
    port := x.port.afterReset
    flags := 0
    unmasked := BitVec.allOnes 19 }

/-- The cache and both tables (R151): cleared, with the settings and the last ids issued kept. -/
def Cache.afterReset (c : Cache) : Cache :=
  { c with
    entries := c.entries.map fun e => { e.release with pinned := false }
    useCounter := 0, fetches := [], writebacks := [], counters := {} }

/-- The grant queue (R102): emptied, the restore delay ended, the granted weights of POWERING bays kept. -/
def GrantQueue.afterReset (slices : Vector Slice 8) (g : GrantQueue) : GrantQueue :=
  { g with
    queue := [], timer := .ended
    granted := Vector.ofFn fun b => if (slices.get b).sequencer.state = .powering then g.granted.get b else none }

/-- The link (R178): frames and replies are lost, flags cleared and unmasked, RESTARTED set, which makes the summary pending; HELLO is
pending and the counters stay. -/
def Link.afterReset (hold : Bool) (l : Link) : Link :=
  { l with
    receiver := .hunt, replies := [], outgoing := none, helloPending := true, summaryPending := true
    partFlags := BitVec.twoPow 4 PartFlag.restarted.bit, partUnmasked := BitVec.allOnes 4, hold := hold }

/-- Bits of the reset cause record (R184). -/
def causePin : BitVec 4 := 2

/-- REQUEST (R184). -/
def causeRequest : BitVec 4 := 4

/-- STORE_INTERRUPTED (R184). -/
def causeInterrupted : BitVec 4 := 8

/-- The reset cause record gains causes; it is emptied first when a HELLO with its present causes has been sent (R161). A pending restart
is over (R159, R160), and the writer, IDLE, looks for a dirty record (R156). -/
def PolicyStore.afterReset (causes : BitVec 4) (p : PolicyStore) : PolicyStore :=
  { p with
    causes := (if p.causeReported then 0 else p.causes) ||| causes
    causeReported := false
    restartPending := false }.startWrite

/-- A warm or soft reset takes effect on every block. -/
def controllerReset (causes : BitVec 4) (hold : Bool) (s : State) : State :=
  { s with
    slices := s.slices.map Slice.afterReset
    cache := s.cache.afterReset
    grant := s.grant.afterReset s.slices
    link := s.link.afterReset hold
    policy := s.policy.afterReset causes }

/-! ## Soft reset (R160) -/

/-- The soft reset takes effect (R160): REQUEST is added to the causes and the link goes on at once. -/
def softReset (s : State) : State := controllerReset causeRequest s.link.hold s

/-- RESTART: taken whatever the reply queue holds; with the writer IDLE the soft reset takes effect at once, otherwise it waits for the
write in flight (R160, R166). -/
def restartNow (s : State) : State :=
  if s.policy.writer.isNone then softReset s else s.modPolicy fun p => { p with restartPending := true }

/-- A RESTART frame is judged: discarded while a restart is pending, dropped with tag 0, otherwise taken and never replied (R166). -/
def takeRestart (tag : Byte) (s : State) : State :=
  if s.link.hold || s.policy.restartPending then toHunt s
  else if tag = 0 then dropFrame .tag (toHunt s)
  else restartNow (toHunt s)

/-- The meaning of RESTART (R160). -/
def execRestart (tag : Byte) (s : State) : Host.Outcome State Fault Refusal := .next (takeRestart tag s)

/-- A record write completes: the nonvolatile record holds the content written and the check byte computed from the record number and that
content, the record leaves the torn set and the writer is IDLE (R153, R156). -/
def PolicyStore.completeWrite (r : Fin 9) (content : Vector Byte 7) (p : PolicyStore) : PolicyStore :=
  { p with nv := p.nv.set r (some ⟨content, Config.checkByte r content⟩), torn := p.torn &&& ~~~(BitVec.twoPow 9 r.val), writer := none }

/-- STORE_WRITE_COMPLETE: STORE_DONE is flagged; a pending soft reset takes effect, and the next dirty record is started (R156, R160). -/
def execStoreWriteComplete (s : State) : Host.Outcome State Fault Refusal :=
  match s.policy.writer with
  | none => .next s
  | some (r, content) =>
    let s' := setPartFlag .storeDone (s.modPolicy (PolicyStore.completeWrite r content))
    .next (if s'.policy.restartPending then softReset s' else s'.modPolicy PolicyStore.startWrite)

/-! ## Warm reset (R159) -/

/-- A write in flight is cut off: its record is torn and dirty again (R153, R159). -/
def PolicyStore.cutOff (p : PolicyStore) : PolicyStore :=
  match p.writer with
  | none => p
  | some (r, _) => { p with writer := none, torn := p.torn ||| BitVec.twoPow 9 r.val, dirty := p.dirty ||| BitVec.twoPow 9 r.val }

/-- A warm reset takes effect at the assertion of RESET_N: PIN, and STORE_INTERRUPTED where a write was cut off, join the causes, and the
link hold is set (R159, R178). -/
def warmReset (s : State) : State :=
  let causes := if s.policy.writer.isSome then causePin ||| causeInterrupted else causePin
  controllerReset causes true { s.modPolicy PolicyStore.cutOff with resetN := true }

/-- WARM_RESET: an assertion of RESET_N, which must be released before another (R159). -/
def execWarmReset (s : State) : Host.Outcome State Fault Refusal := if s.resetN then .next s else .next (warmReset s)

/-- RESET_N_RELEASE: the link hold clears (R159, R164). -/
def execResetNRelease (s : State) : Host.Outcome State Fault Refusal :=
  .next ({ s with resetN := false }.modLink fun l => { l with hold := false })

/-! ## Cold reset (R158, R162, R163) -/

/-- Record `r` passes its check: it has been written, with the check byte that its number and its content give (R153). -/
def NvRecord.passes (r : Fin 9) : Option NvRecord → Bool
  | none => false
  | some x => x.check = Config.checkByte r x.content

/-- The content of record `r` as a cold reset reads it, if the record passes its check (R162). -/
def PolicyStore.read (p : PolicyStore) (r : Fin 9) : Option (Vector Byte 7) :=
  if NvRecord.passes r (p.nv.get r) then (p.nv.get r).map NvRecord.content else none

/-- The restore policy of a code, clamped into its range (R162). -/
def policyOfCode (n : Nat) : RestorePolicy := if n = 0 then .off else if n = 1 then .on else .last

/-- The fields of the global record in its content, each clamped into its range (R162; log entry 46). -/
def GlobalRecord.ofContent (x : Vector Byte 7) : GlobalRecord := ⟨clamp 1 60 x[0].toNat, x[1].toNat⟩

/-- The fields of a bay record in its content, each clamped into its range (R162; log entry 46). -/
def BayRecord.ofContent (x : Vector Byte 7) : BayRecord :=
  ⟨policyOfCode (x[0].toNat % 4), x[0].getLsbD 2,
   PowerSettings.clamped x[2].toNat x[3].toNat x[4].toNat x[5].toNat x[6].toNat x[1].toNat⟩

/-- The RAM copy of the global record after a read; a torn record gives the defaults (R162). -/
def readGlobal (p : PolicyStore) : GlobalRecord := (p.read 0).elim {} GlobalRecord.ofContent

/-- The RAM copy of a bay record after a read; a torn record gives the defaults (R162). -/
def readBay (p : PolicyStore) (b : Bay) : BayRecord := (p.read (bayRecordNo b)).elim {} BayRecord.ofContent

/-- The records that fail their check (R162). -/
def tornSet (nv : Vector (Option NvRecord) 9) : BitVec 9 :=
  (List.finRange 9).foldl (fun t r => if NvRecord.passes r (nv.get r) then t else t ||| BitVec.twoPow 9 r.val) 0

/-- The policy store after the read of a cold reset (R158, R162). -/
def PolicyStore.cold (p : PolicyStore) : PolicyStore where
  nv := p.nv
  ramGlobal := readGlobal p
  ramBays := Vector.ofFn (readBay p)
  torn := tornSet p.nv

/-- A line at a cold reset (R1, R21, R42): its pins keep their levels, and the CTS reference is taken from the pin. -/
def Line.cold (l : Line) : Line := { conRx := l.conRx, conCts := l.conCts, ctsRef := l.conCts }

/-- A sequencer at a cold reset, with the power settings of its record (R100). -/
def Sequencer.cold (settings : PowerSettings) (q : Sequencer) : Sequencer :=
  { settings := settings, pgood := q.pgood, btnSense := q.btnSense, snapshotPgood := q.pgood, snapshotBtn := q.btnSense }

/-- The part at a cold reset, before the restore: every block takes its cold values and the values in force are loaded from the records
(R158, R162); the pins, the free values and the waiting commands stay. -/
def coldBlocks (s : State) : State :=
  let p := s.policy.cold
  { slices := Vector.ofFn fun b =>
      { line := (s.slice b).line.cold, sequencer := (s.slice b).sequencer.cold (p.ramBays.get b).settings }
    lastServed := 7
    cache := {}
    grant := { budget := p.ramGlobal.budget, restoreDelay := p.ramGlobal.restoreDelay, timer := .notStarted, sag := s.grant.sag }
    policy := p
    link := { hold := true }
    resetN := s.resetN
    nextSerial := 0
    freeIndex := s.freeIndex
    pending := s.pending }

/-- The restore policy asks for the bay (R163). -/
def BayRecord.restores (r : BayRecord) : Bool :=
  match r.policy with
  | .off => false
  | .on => true
  | .last => r.lastOn

/-- A restored bay moves from OFF to QUEUED, which flags POWER_STATE, and joins the tail of the queue; no grant is made (R107, R163). -/
def restoreBay (s : State) (b : Bay) : State :=
  if (s.policy.ramBays.get b).restores then
    (changeState b .queued none s).modGrant fun g => { g with queue := g.queue ++ [b] }
  else s

/-- The restore delay timer starts; a delay of 0 ends it at once, and its end makes a grant attempt (R107). -/
def startRestoreDelay (s : State) : State :=
  if s.grant.restoreDelay = 0 then attempt (s.modGrant fun g => { g with timer := .ended })
  else s.modGrant fun g => { g with timer := .running g.restoreDelay }

/-- A cold reset up to the point where the restore has placed its bays: the hold then stays only while RESET_N is asserted (R158, R163,
R164). -/
def coldReset (s : State) : State :=
  (startRestoreDelay ((List.finRange 8).foldl restoreBay (coldBlocks s))).modLink fun l => { l with hold := s.resetN }

/-- COLD_RESET; an assertion of RESET_N taken during it has its warm reset take effect once the restore has placed its bays (R159). With a
restore delay of 0 the grant attempt of R107 comes at that same moment; which comes first is stated nowhere, and here the attempt does, so
that a bay granted in it is POWERING over the warm reset (DESIGN CHOICE, log entry 47). -/
def execColdReset (pinAsserted : Bool) (s : State) : Host.Outcome State Fault Refusal :=
  .next (if pinAsserted then warmReset (coldReset s) else coldReset s)

end Sys2Proof.Machine
end

