-- ==== Sys2Proof/Machine/Link.lean ====
section
/-! DEFINITION. The management link (chapter 10): IDENT, STATUS, MASK and the refusal of undefined kinds, the frame receiver, the sender
arbiter with the notices, ATTN, and the commands LINK_FRAME_DROPPED, OUTGOING_FRAME_START, OUTGOING_FRAME_END and BYTE_EXCHANGE. -/

namespace Sys2Proof.Machine

/-! ## IDENT, STATUS and MASK (R173 to R176) -/

/-- IDENT changes no state (R176). -/
def identAct (s : State) : Answer := accept s Config.identity

/-- The fields of the STATUS reply for a bay, in the order of Table 11-7. -/
def statusBayFields (b : Bay) (s : State) : List Byte :=
  let x := s.slice b
  le1 b.val ++ le3 x.flags.toNat ++ le1 x.sequencer.state.code ++ bit x.sequencer.pendingOn ++ le1 x.sequencer.fault.code ++
  bit x.sequencer.pgood ++ bit x.sequencer.btnSeen ++ bit x.line.rate.detection.isSome ++ le1 x.line.rate.mode.code ++
  le1 x.medium.state.code ++ le2 x.medium.generation ++ bit x.port.up ++ le1 x.monitor.state.code ++ le1 x.monitor.count ++
  bit x.responder.armed.isSome

/-- STATUS for a bay: the reply takes every flag of the bay, which clear, and the levels seen become the sense snapshot (R93, R174). -/
def statusBayAct (b : Bay) (s : State) : Answer :=
  accept (s.modSlice b fun x =>
    { x with
      flags := 0
      sequencer := { x.sequencer with snapshotPgood := x.sequencer.pgood, snapshotBtn := x.sequencer.btnSeen } })
    (statusBayFields b s)

/-- The fields of the STATUS reply for the part, in the order of Table 11-8. -/
def statusPartFields (s : State) : List Byte :=
  [0xFF] ++ le1 s.link.partFlags.toNat ++ le2 s.link.checkErrors ++ le2 s.link.lengthErrors ++ le2 s.link.tagErrors ++
  le2 s.link.overflowErrors ++ encodeBays s.grant.queue ++ le1 s.grant.sum ++ le1 s.grant.budget ++ le1 s.grant.restoreDelay ++
  bit (s.grant.timer = .ended) ++ bit s.grant.sag ++ le2 s.policy.dirty.toNat ++
  le1 (s.policy.writer.elim 255 fun w => w.1.val) ++ le2 s.policy.torn.toNat

/-- STATUS for the part: the reply takes the part-level flags, which clear (R175). -/
def statusPartAct (s : State) : Answer := accept (s.modLink fun l => { l with partFlags := 0 }) (statusPartFields s)

/-- MASK for a bay: the marks are written, and a set flag that they unmask makes the summary pending (R173). -/
def maskBayAct (marks : BitVec 24) (b : Bay) (s : State) : Answer :=
  let m : BitVec 19 := marks.setWidth 19
  let x := s.slice b
  accept (raiseSummary (x.flags &&& m &&& ~~~x.unmasked != 0) (s.modSlice b fun x => { x with unmasked := m })) (le3 m.toNat)

/-- MASK for the part: the first mark byte holds the four part marks (R173, section 11.4). -/
def maskPartAct (marks : BitVec 24) (s : State) : Answer :=
  let m : BitVec 4 := marks.setWidth 4
  accept (raiseSummary (s.link.partFlags &&& m &&& ~~~s.link.partUnmasked != 0) (s.modLink fun l => { l with partUnmasked := m }))
    (le1 m.toNat)

/-- IDENT (R176). -/
def takeIdent (tag : Byte) (s : State) : State := takeRequest 0x01 tag identAct s

/-- STATUS for a bay (R174). -/
def takeStatusBay (tag scope : Byte) (s : State) : State := takeRequest 0x02 tag (onBay scope statusBayAct) s

/-- STATUS for the part (R175). -/
def takeStatusPart (tag : Byte) (s : State) : State := takeRequest 0x02 tag statusPartAct s

/-- MASK; a scope that is neither a bay nor the part is a bay above 7 (R173, R180). -/
def takeMask (tag scope : Byte) (marks : BitVec 24) (s : State) : State :=
  takeRequest 0x03 tag (fun s => if scope = 0xFF then maskPartAct marks s else onBay scope (maskBayAct marks) s) s

/-- A frame that is no well-formed request is refused with MALFORMED (R167). -/
def takeMalformed (kind tag : Byte) (s : State) : State := takeRequest kind tag (refuse .malformed) s

/-- The meaning of IDENT (R176). -/
def execIdent (tag : Byte) (s : State) : Host.Outcome State Fault Refusal := .next (takeIdent tag s)

/-- The meaning of STATUS for a bay (R174). -/
def execStatusBay (tag scope : Byte) (s : State) : Host.Outcome State Fault Refusal := .next (takeStatusBay tag scope s)

/-- The meaning of STATUS for the part (R175). -/
def execStatusPart (tag : Byte) (s : State) : Host.Outcome State Fault Refusal := .next (takeStatusPart tag s)

/-- The meaning of MASK (R173). -/
def execMask (tag scope : Byte) (marks : BitVec 24) (s : State) : Host.Outcome State Fault Refusal := .next (takeMask tag scope marks s)

/-- The meaning of UNDEFINED_REQUEST (R167). -/
def execUndefinedRequest (tag kind : Byte) (s : State) : Host.Outcome State Fault Refusal := .next (takeMalformed kind tag s)

/-! ## A frame that passes its check (R166, R167) -/

/-- The request a frame spells is taken by its owner. -/
def takeAny (i : Instr) (s : State) : State :=
  match i with
  | .ident tag => takeIdent tag s
  | .statusBay tag scope => takeStatusBay tag scope s
  | .statusPart tag => takeStatusPart tag s
  | .mask tag scope marks => takeMask tag scope marks s
  | .restart tag => takeRestart tag s
  | .lineSet tag line f => takeLineSet tag line f s
  | .send tag line drain bytes => takeSend tag line drain bytes s
  | .sendBreak tag line duration => takeSendBreak tag line duration s
  | .rts tag line level => takeRts tag line level s
  | .rateSet tag line form value => takeRateSet tag line form value s
  | .rateMode tag line mode => takeRateMode tag line mode s
  | .rateDetect tag line => takeRateDetect tag line s
  | .quality tag line clear => takeQuality tag line clear s
  | .historySize tag line pages => takeHistorySize tag line pages s
  | .historyClear tag line => takeHistoryClear tag line s
  | .history tag line start count => takeHistory tag line start count s
  | .attach tag line form start credit => takeAttach tag line form start credit s
  | .credit tag line count => takeCredit tag line count s
  | .detach tag line => takeDetach tag line s
  | .matchSetHeartbeat tag line pattern => takeMatchSetHeartbeat tag line pattern s
  | .matchSetPrompt tag line enable oneShot window pattern response =>
      takeMatchSetPrompt tag line enable oneShot window pattern response s
  | .watchSet tag bay f => takeWatchSet tag bay f s
  | .watchClear tag bay => takeWatchClear tag bay s
  | .powerOn tag bay => takePowerOn tag bay s
  | .powerOffSoft tag bay => takePowerOffSoft tag bay s
  | .powerOffHard tag bay => takePowerOffHard tag bay s
  | .powerCycle tag bay => takePowerCycle tag bay s
  | .powerReset tag bay => takePowerReset tag bay s
  | .powerClearFault tag bay => takePowerClearFault tag bay s
  | .powerSet tag bay f => takePowerSet tag bay f s
  | .budget tag budget delay => takeBudget tag budget delay s
  | .store tag record f => takeStore tag record f s
  | .insert tag bay capacity writable ejectOnPowerOff => takeInsert tag bay capacity writable ejectOnPowerOff s
  | .eject tag bay force => takeEject tag bay force s
  | .cacheSet tag f => takeCacheSet tag f s
  | .cacheQuery tag => takeCacheQuery tag s
  | .fill tag id index generation data => takeFill tag id index generation data s
  | .fillFail tag id => takeFillFail tag id s
  | .writeDone tag id outcome => takeWriteDone tag id outcome s
  | .undefinedRequest tag kind => takeMalformed kind tag s
  | _ => s

/-- A received frame is taken as the request it spells; one whose payload spells none of its kind is refused with MALFORMED (R166,
R167). -/
def takeFrame (kind tag : Byte) (payload : List Byte) (s : State) : State :=
  match decodeRequest kind tag payload with
  | some i => takeAny i s
  | none => takeMalformed kind tag s

/-! ## The frame receiver (R165) -/

/-- The receiver enters a state. -/
def setReceiver (r : FrameReceiver) (s : State) : State := s.modLink fun l => { l with receiver := r }

/-- The second check byte: the check is compared and the frame is received, or dropped; either way the receiver hunts (R165, R179). -/
def checkFrame (lengthBytes got : List Byte) (check : BitVec 16) (s : State) : State :=
  if crc16 (lengthBytes ++ got) = check then
    match got with
    | kind :: tag :: payload => takeFrame kind tag payload (toHunt s)
    | _ => toHunt s
  else dropFrame .check (toHunt s)

/-- The frame receiver takes a byte (R165). -/
def rxByte (x : Byte) (s : State) : State :=
  match s.link.receiver with
  | .hunt => if x = frameMark then setReceiver (.length none) s else s
  | .length none => setReceiver (.length (some x)) s
  | .length (some low) =>
    let n := (le16 low x).toNat
    if 2 ≤ n ∧ n ≤ 530 then setReceiver (.body [low, x] n []) s else dropFrame .length (toHunt s)
  | .body lengthBytes left got =>
    if left ≤ 1 then setReceiver (.check lengthBytes (got ++ [x]) none) s
    else setReceiver (.body lengthBytes (left - 1) (got ++ [x])) s
  | .check lengthBytes got none => setReceiver (.check lengthBytes got (some x)) s
  | .check lengthBytes got (some high) => checkFrame lengthBytes got (high ++ x) s

/-- LINK_FRAME_DROPPED: the incoming frame is dropped for the cause named, counted, and LINK_ERROR is flagged, under the conditions in
which such a drop can come about: no frame is received under the link hold (R164), a frame received while a restart is pending is
discarded uncounted (R166), and a request overflows only a full reply queue. -/
def execLinkFrameDropped (cause : DropCause) (s : State) : Host.Outcome State Fault Refusal :=
  if s.link.hold then .next (toHunt s)
  else
    match cause with
    | .length | .check => .next (dropFrame cause (toHunt s))
    | .tag => if s.policy.restartPending then .next (toHunt s) else .next (dropFrame .tag (toHunt s))
    | .overflow =>
      if s.policy.restartPending then .next (toHunt s)
      else if Config.replyMax ≤ s.link.replies.length then .next (dropFrame .overflow (toHunt s))
      else .next s

/-! ## The sender arbiter (R170) -/

/-- The HELLO notice (R161, R184). -/
def helloFrame (s : State) : Frame := ⟨0x70, 0, Config.identity ++ le1 s.policy.causes.toNat ++ le2 s.policy.torn.toNat⟩

/-- The bays that have an unmasked flag set, bit n for bay n (R173). -/
def summaryBays (s : State) : Nat :=
  ((List.finRange 8).map fun b => if (s.slice b).flags &&& (s.slice b).unmasked = 0 then 0 else 2 ^ b.val).sum

/-- The EVENT_SUMMARY notice (R173, R184). -/
def summaryFrame (s : State) : Frame := ⟨0x71, 0, le1 (summaryBays s) ++ le1 (s.link.partFlags &&& s.link.partUnmasked).toNat⟩

/-- The CONSOLE notice of a line (R58, R184). -/
def consoleFrame (b : Bay) (st : Stream) (es : List HistoryEntry) : Frame := ⟨0x72, 0, consolePayload b st es⟩

/-- The FETCH notice of a record (R137, R184). -/
def fetchFrame (r : FetchRecord) : Frame :=
  ⟨0x73, 0, le1 r.id ++ le1 r.bay.val ++ le2 r.generation ++ le4 r.first ++ le1 r.marks.length⟩

/-- The WRITEBACK notice of a record, with the data of its entry (R143, R184). -/
def writebackFrame (c : Cache) (r : WritebackRecord) : Frame :=
  ⟨0x74, 0, le1 r.id ++ le1 r.bay.val ++ le2 r.generation ++ le4 r.block ++
    (r.entry.elim (Vector.replicate 512 0) fun i => (c.entry i).data).toList⟩

/-- The oldest fetch record whose notice is PENDING (R137). -/
def Cache.pendingFetch (c : Cache) : Option FetchRecord := c.fetches.find? fun r => r.notice = .pending

/-- The oldest writeback record whose notice is PENDING (R143). -/
def Cache.pendingWriteback (c : Cache) : Option WritebackRecord := c.writebacks.find? fun r => r.notice = .pending

/-- The notice state of the PENDING fetch record becomes SENDING (R137). -/
def Cache.sendFetch (c : Cache) (id : Nat) : Cache :=
  c.modFetch id fun r => { r with notice := .sending }

/-- Change the writeback record with an id. -/
def Cache.modWriteback (c : Cache) (id : Nat) (f : WritebackRecord → WritebackRecord) : Cache :=
  { c with writebacks := c.writebacks.map fun r => if r.id = id then f r else r }

/-- The notice state of the PENDING writeback record becomes SENDING (R143). -/
def Cache.sendWriteback (c : Cache) (id : Nat) : Cache :=
  c.modWriteback id fun r => { r with notice := .sending }

/-- A frame starts, with no byte of it sent yet. -/
def startFrame (origin : Origin) (f : Frame) (s : State) : State :=
  s.modLink fun l => { l with outgoing := some ⟨origin, f.wire, 0⟩ }

/-- The CONSOLE notice of a line starts: its entries are taken from the stream, and the line becomes the round-robin mark (R57, R58). -/
def startConsole (b : Bay) (s : State) : State :=
  match (s.slice b).history.stream with
  | none => s
  | some st =>
    let es := (s.slice b).history.noticeEntries st
    startFrame (.console b) (consoleFrame b st es)
      { s.modHistory b fun h => { h with stream := some (st.consume es.length) } with lastServed := b }

/-- The notices after the summary, in their order (R170). -/
def startRecordNotice (s : State) : State :=
  match s.cache.pendingFetch, s.cache.pendingWriteback, chooseLine s with
  | some r, _, _ => startFrame (.fetch r.id) (fetchFrame r) (s.modCache fun c => c.sendFetch r.id)
  | none, some r, _ => startFrame (.writeback r.id) (writebackFrame s.cache r) (s.modCache fun c => c.sendWriteback r.id)
  | none, none, some b => startConsole b s
  | none, none, none => s

/-- The arbiter is consulted: it starts the first frame that is ready, if there is one (R170). -/
def arbitrate (s : State) : State :=
  if s.link.helloPending then startFrame .hello (helloFrame s) s
  else
    match s.link.replies with
    | r :: _ => startFrame .reply r s
    | [] =>
      if s.link.summaryPending then
        startFrame .summary (summaryFrame s) (s.modLink fun l => { l with summaryPending := false })
      else startRecordNotice s

/-- A frame is ready to start (R170, R171): the HELLO and the reply in flight have started already. -/
def frameReady (s : State) : Bool :=
  let origin := s.link.outgoing.map Outgoing.origin
  (s.link.helloPending && origin ≠ some .hello) ||
  (if origin = some .reply then 2 ≤ s.link.replies.length else 1 ≤ s.link.replies.length) ||
  s.link.summaryPending || s.cache.pendingFetch.isSome || s.cache.pendingWriteback.isSome || (chooseLine s).isSome

/-- The ATTN output (R171). -/
def attn (s : State) : Bool := !s.link.hold && frameReady s

/-! ## The end of a frame (R137, R161, R169, R170) -/

/-- A fetch record in SENDING enters SENT and its deadline starts with the fetch timeout in force (R137). -/
def Cache.fetchSent (c : Cache) (id : Nat) : Cache :=
  c.modFetch id fun r => if r.notice = .sending then { r with notice := .sent, deadline := some c.fetchTimeout } else r

/-- A writeback record in SENDING enters SENT and its deadline starts with the writeback timeout in force (R143). -/
def Cache.writebackSent (c : Cache) (id : Nat) : Cache :=
  c.modWriteback id fun r => if r.notice = .sending then { r with notice := .sent, deadline := some c.writebackTimeout } else r

/-- The arbiter hands the end of a frame back to its owner (R170). -/
def handBack (origin : Origin) (s : State) : State :=
  match origin with
  | .hello => (s.modLink fun l => { l with helloPending := false }).modPolicy fun p => { p with causeReported := true }
  | .reply => s.modLink fun l => { l with replies := l.replies.drop 1 }
  | .fetch id => s.modCache fun c => c.fetchSent id
  | .writeback id => s.modCache fun c => c.writebackSent id
  | .summary | .console _ => s

/-- A frame in flight whose last check byte has been sent ends; a frame cut off by a reset is gone and does not (R164, R178). -/
def endFrame (s : State) : State :=
  match s.link.outgoing with
  | none => s
  | some o => if o.bytes.length ≤ o.sent then handBack o.origin (s.modLink fun l => { l with outgoing := none }) else s

/-! ## Byte exchanges (R164) -/

/-- The byte of this exchange goes out on MISO: the next byte of the frame in flight, or the idle fill. -/
def sendByte (s : State) : State :=
  match s.link.outgoing with
  | none => s.modLink fun l => { l with miso := 0 }
  | some o => s.modLink fun l => { l with outgoing := some { o with sent := o.sent + 1 }, miso := o.bytes.getD o.sent 0 }

/-- The frame in flight has had its last byte sent. -/
def sentToEnd (s : State) : Bool := s.link.outgoing.any fun o => o.bytes.length ≤ o.sent

/-- One byte exchange: under the link hold the byte received is discarded and 0x00 sent; otherwise the arbiter is consulted when no
frame is in flight, the byte goes out and the byte received is taken. Which of the frame's end and the byte received comes first is
a free value (R164; log entry 1). -/
def exchange (mosi : Byte) (s : State) : State :=
  if s.link.hold then s.modLink fun l => { l with receiver := .hunt, miso := 0 }
  else
    let s1 := sendByte (if s.link.outgoing.isNone then arbitrate s else s)
    if sentToEnd s1 then
      let s2 := { s1 with freeIndex := s1.freeIndex + 1 }
      if Config.endTakenFirst s1.freeIndex then rxByte mosi (endFrame s2) else endFrame (rxByte mosi s2)
    else rxByte mosi s1

/-- BYTE_EXCHANGE (R164). -/
def execByteExchange (mosi : Byte) (s : State) : Host.Outcome State Fault Refusal := .next (exchange mosi s)

/-- This exchange starts a frame: none is in flight, the hold is clear and one is ready (R164, R170). -/
def startsFrame (s : State) : Bool := !s.link.hold && s.link.outgoing.isNone && frameReady s

/-- This exchange sends the last check byte of the frame in flight (R164). -/
def endsFrame (s : State) : Bool := !s.link.hold && s.link.outgoing.any fun o => o.bytes.length = o.sent + 1

/-- OUTGOING_FRAME_START: the byte exchange at which a frame starts (R170); in a state in which none can start it does not come about. -/
def execOutgoingFrameStart (mosi : Byte) (s : State) : Host.Outcome State Fault Refusal :=
  if startsFrame s then .next (exchange mosi s) else .next s

/-- OUTGOING_FRAME_END: the byte exchange that sends the last check byte of the frame in flight (R170); where the next byte is not that
one it does not come about. -/
def execOutgoingFrameEnd (mosi : Byte) (s : State) : Host.Outcome State Fault Refusal :=
  if endsFrame s then .next (exchange mosi s) else .next s

end Sys2Proof.Machine
end

