-- ==== Sys2Proof/Machine/Dispatch.lean ====
section
/-! DEFINITION. The dispatch of a command to its meaning, one arm per constructor of Instr. -/

namespace Sys2Proof.Machine

/-- The effect of one command on everything but the queue. -/
def exec (i : Instr) (s : State) : Host.Outcome State Fault Refusal :=
  match i with
  | .ident tag => Sys2Proof.Machine.execIdent tag s
  | .statusBay tag scope => Sys2Proof.Machine.execStatusBay tag scope s
  | .statusPart tag => Sys2Proof.Machine.execStatusPart tag s
  | .mask tag scope marks => Sys2Proof.Machine.execMask tag scope marks s
  | .restart tag => Sys2Proof.Machine.execRestart tag s
  | .lineSet tag line f => Sys2Proof.Machine.execLineSet tag line f s
  | .send tag line drain bytes => Sys2Proof.Machine.execSend tag line drain bytes s
  | .sendBreak tag line duration => Sys2Proof.Machine.execSendBreak tag line duration s
  | .rts tag line level => Sys2Proof.Machine.execRts tag line level s
  | .rateSet tag line form value => Sys2Proof.Machine.execRateSet tag line form value s
  | .rateMode tag line mode => Sys2Proof.Machine.execRateMode tag line mode s
  | .rateDetect tag line => Sys2Proof.Machine.execRateDetect tag line s
  | .quality tag line clear => Sys2Proof.Machine.execQuality tag line clear s
  | .historySize tag line pages => Sys2Proof.Machine.execHistorySize tag line pages s
  | .historyClear tag line => Sys2Proof.Machine.execHistoryClear tag line s
  | .history tag line start count => Sys2Proof.Machine.execHistory tag line start count s
  | .attach tag line form start credit => Sys2Proof.Machine.execAttach tag line form start credit s
  | .credit tag line count => Sys2Proof.Machine.execCredit tag line count s
  | .detach tag line => Sys2Proof.Machine.execDetach tag line s
  | .matchSetHeartbeat tag line pattern => Sys2Proof.Machine.execMatchSetHeartbeat tag line pattern s
  | .matchSetPrompt tag line enable oneShot window pattern response => Sys2Proof.Machine.execMatchSetPrompt tag line enable oneShot window pattern response s
  | .watchSet tag bay f => Sys2Proof.Machine.execWatchSet tag bay f s
  | .watchClear tag bay => Sys2Proof.Machine.execWatchClear tag bay s
  | .powerOn tag bay => Sys2Proof.Machine.execPowerOn tag bay s
  | .powerOffSoft tag bay => Sys2Proof.Machine.execPowerOffSoft tag bay s
  | .powerOffHard tag bay => Sys2Proof.Machine.execPowerOffHard tag bay s
  | .powerCycle tag bay => Sys2Proof.Machine.execPowerCycle tag bay s
  | .powerReset tag bay => Sys2Proof.Machine.execPowerReset tag bay s
  | .powerClearFault tag bay => Sys2Proof.Machine.execPowerClearFault tag bay s
  | .powerSet tag bay f => Sys2Proof.Machine.execPowerSet tag bay f s
  | .budget tag budget delay => Sys2Proof.Machine.execBudget tag budget delay s
  | .store tag record f => Sys2Proof.Machine.execStore tag record f s
  | .insert tag bay capacity writable ejectOnPowerOff => Sys2Proof.Machine.execInsert tag bay capacity writable ejectOnPowerOff s
  | .eject tag bay force => Sys2Proof.Machine.execEject tag bay force s
  | .cacheSet tag f => Sys2Proof.Machine.execCacheSet tag f s
  | .cacheQuery tag => Sys2Proof.Machine.execCacheQuery tag s
  | .fill tag id index generation data => Sys2Proof.Machine.execFill tag id index generation data s
  | .fillFail tag id => Sys2Proof.Machine.execFillFail tag id s
  | .writeDone tag id outcome => Sys2Proof.Machine.execWriteDone tag id outcome s
  | .undefinedRequest tag kind => Sys2Proof.Machine.execUndefinedRequest tag kind s
  | .linkFrameDropped cause => Sys2Proof.Machine.execLinkFrameDropped cause s
  | .outgoingFrameStart mosi => Sys2Proof.Machine.execOutgoingFrameStart mosi s
  | .outgoingFrameEnd mosi => Sys2Proof.Machine.execOutgoingFrameEnd mosi s
  | .characterReceived line data parity stop => Sys2Proof.Machine.execCharacterReceived line data parity stop s
  | .lowPulseEnd line internal length => Sys2Proof.Machine.execLowPulseEnd line internal length s
  | .detectionWindowExpiry line => Sys2Proof.Machine.execDetectionWindowExpiry line s
  | .ctsChange line level => Sys2Proof.Machine.execCtsChange line level s
  | .txBreakLowEnd line => Sys2Proof.Machine.execTxBreakLowEnd line s
  | .txElementComplete line => Sys2Proof.Machine.execTxElementComplete line s
  | .idleFlushExpiry line => Sys2Proof.Machine.execIdleFlushExpiry line s
  | .promptWindowExpiry bay => Sys2Proof.Machine.execPromptWindowExpiry bay s
  | .watchTimerExpiry bay => Sys2Proof.Machine.execWatchTimerExpiry bay s
  | .monitorRequestTaken bay => Sys2Proof.Machine.execMonitorRequestTaken bay s
  | .pgoodChange bay level => Sys2Proof.Machine.execPgoodChange bay level s
  | .btnSenseChange bay level => Sys2Proof.Machine.execBtnSenseChange bay level s
  | .btnSenseMaskEnd bay => Sys2Proof.Machine.execBtnSenseMaskEnd bay s
  | .powerGoodTimerExpiry bay => Sys2Proof.Machine.execPowerGoodTimerExpiry bay s
  | .resetPulseTimerExpiry bay => Sys2Proof.Machine.execResetPulseTimerExpiry bay s
  | .buttonPressTimerExpiry bay => Sys2Proof.Machine.execButtonPressTimerExpiry bay s
  | .softStopWaitExpiry bay => Sys2Proof.Machine.execSoftStopWaitExpiry bay s
  | .holdOffTimerExpiry bay => Sys2Proof.Machine.execHoldOffTimerExpiry bay s
  | .sagChange level => Sys2Proof.Machine.execSagChange level s
  | .restoreDelayEnd => Sys2Proof.Machine.execRestoreDelayEnd s
  | .mediaOpen bay => Sys2Proof.Machine.execMediaOpen bay s
  | .mediaClose bay => Sys2Proof.Machine.execMediaClose bay s
  | .read bay tag start count => Sys2Proof.Machine.execRead bay tag start count s
  | .write bay tag start count => Sys2Proof.Machine.execWrite bay tag start count s
  | .capacity bay tag => Sys2Proof.Machine.execCapacity bay tag s
  | .ready bay tag => Sys2Proof.Machine.execReady bay tag s
  | .serverRequestInvalid bay tag => Sys2Proof.Machine.execServerRequestInvalid bay tag s
  | .transferEnd bay data => Sys2Proof.Machine.execTransferEnd bay data s
  | .fetchDeadlineExpiry id => Sys2Proof.Machine.execFetchDeadlineExpiry id s
  | .writebackDeadlineExpiry id => Sys2Proof.Machine.execWritebackDeadlineExpiry id s
  | .storeWriteComplete => Sys2Proof.Machine.execStoreWriteComplete s
  | .coldReset pinAsserted => Sys2Proof.Machine.execColdReset pinAsserted s
  | .warmReset => Sys2Proof.Machine.execWarmReset s
  | .resetNRelease => Sys2Proof.Machine.execResetNRelease s
  | .startEdge line internal => Sys2Proof.Machine.execStartEdge line internal s
  | .falseStart line => Sys2Proof.Machine.execFalseStart line s
  | .byteExchange mosi => Sys2Proof.Machine.execByteExchange mosi s

end Sys2Proof.Machine
end

