-- ==== Sys2Proof/Safety.lean ====
section
/-! DEFINITION. The terms statements about the part are made in: when the link takes a request and what its reply adds, the parts of the
state and which of them each command may touch, and the invariants of the part. -/

namespace Sys2Proof.Machine

/-! ## Requests -/

/-- The link takes a request with this tag as R167 states: no link hold, no restart pending, a tag other than 0 and room for the reply
(R164, R166). -/
def takesRequest (tag : Byte) (s : State) : Prop :=
  s.link.hold = false ∧ s.policy.restartPending = false ∧ tag ≠ 0 ∧ s.link.replies.length < 4

/-- The state `s` after its reply has joined the tail of the reply queue, with the frame receiver hunting (R165, R167). -/
def replied (kind tag : Byte) (payload : List Byte) (s : State) : State :=
  { s with link := { s.link with receiver := .hunt, replies := s.link.replies ++ [⟨kind, tag, payload⟩] } }

/-- The state `s` with the slice of one bay replaced. -/
def State.withSlice (s : State) (b : Bay) (x : Slice) : State := { s with slices := s.slices.set b x }

/-- The state `s` with the console line of one bay replaced. -/
def State.withLine (s : State) (b : Bay) (l : Line) : State := s.withSlice b { s.slice b with line := l }

/-- The state `s` with the rate unit of one line replaced. -/
def State.withRate (s : State) (b : Bay) (r : RateUnit) : State := s.withLine b { (s.slice b).line with rate := r }

/-- The state `s` with the history of one line replaced. -/
def State.withHistory (s : State) (b : Bay) (h : History) : State := s.withSlice b { s.slice b with history := h }

/-- The state `s` with the hang monitor of one bay replaced. -/
def State.withMonitor (s : State) (b : Bay) (m : Monitor) : State := s.withSlice b { s.slice b with monitor := m }

/-- The state `s` with the power sequencer of one bay replaced. -/
def State.withSeq (s : State) (b : Bay) (q : Sequencer) : State := s.withSlice b { s.slice b with sequencer := q }

/-- The state `s` with the media port of one bay replaced. -/
def State.withPort (s : State) (b : Bay) (p : Port) : State := s.withSlice b { s.slice b with port := p }

/-- The state `s` after the port of a bay has told its server something. -/
def State.told (s : State) (b : Bay) (m : PortMessage) : State :=
  s.withPort b { (s.slice b).port with sent := (s.slice b).port.sent ++ [m] }

/-- The state `s` with the block cache replaced. -/
def State.withCache (s : State) (c : Cache) : State := { s with cache := c }

/-- The state `s` with the link replaced. -/
def State.withLink (s : State) (l : Link) : State := { s with link := l }

/-- The state `s` with the policy store replaced. -/
def State.withPolicy (s : State) (p : PolicyStore) : State := { s with policy := p }

/-- No media port has a request queued, so no report moves anything (R121). -/
def State.quiet (s : State) : Prop := ∀ b, (s.slice b).port.queue = []

/-- The byte of an on/off field (R180). -/
def onOffByte (v : Bool) : Byte := if v then 1 else 0

/-- The bay a byte names, if it names one (R180). -/
def bayOf (n : Byte) : Option Bay := if h : n.toNat < 8 then some ⟨n.toNat, h⟩ else none

/-- The byte that names a bay (R180). -/
def bayByte (b : Bay) : Byte := BitVec.ofNat 8 b.val

/-- The tag of a request. -/
def requestTag : Instr → Byte
  | .ident tag | .statusBay tag _ | .statusPart tag | .mask tag _ _ | .restart tag | .lineSet tag _ _ | .send tag _ _ _
  | .sendBreak tag _ _ | .rts tag _ _ | .rateSet tag _ _ _ | .rateMode tag _ _ | .rateDetect tag _ | .quality tag _ _
  | .historySize tag _ _ | .historyClear tag _ | .history tag _ _ _ | .attach tag _ _ _ _ | .credit tag _ _ | .detach tag _
  | .matchSetHeartbeat tag _ _ | .matchSetPrompt tag _ _ _ _ _ _ | .watchSet tag _ _ | .watchClear tag _ | .powerOn tag _
  | .powerOffSoft tag _ | .powerOffHard tag _ | .powerCycle tag _ | .powerReset tag _ | .powerClearFault tag _
  | .powerSet tag _ _ | .budget tag _ _ | .store tag _ _ | .insert tag _ _ _ _ | .eject tag _ _ | .cacheSet tag _
  | .cacheQuery tag | .fill tag _ _ _ _ | .fillFail tag _ | .writeDone tag _ _ | .undefinedRequest tag _ => tag
  | _ => 0

/-- The bay or line a request names; a scope of 0xFF names the part (R167, R180). -/
def namedBay : Instr → Option Byte
  | .statusBay _ n | .mask _ n _ => if n = 0xFF then none else some n
  | .lineSet _ n _ | .send _ n _ _ | .sendBreak _ n _ | .rts _ n _ | .rateSet _ n _ _ | .rateMode _ n _ | .rateDetect _ n
  | .quality _ n _ | .historySize _ n _ | .historyClear _ n | .history _ n _ _ | .attach _ n _ _ _ | .credit _ n _ | .detach _ n
  | .matchSetHeartbeat _ n _ | .matchSetPrompt _ n _ _ _ _ _ | .watchSet _ n _ | .watchClear _ n | .powerOn _ n
  | .powerOffSoft _ n | .powerOffHard _ n | .powerCycle _ n | .powerReset _ n | .powerClearFault _ n | .powerSet _ n _
  | .insert _ n _ _ _ | .eject _ n _ => some n
  | _ => none

/-- Every enumerated and on/off field that a request reads holds a value of Table 11-2 or R180. STORE reads a restore policy for a bay
record only (log entry 12). -/
def fieldsDefined : Instr → Bool
  | .lineSet _ _ f => f.parity.toNat ≤ 2 && f.ctsHonour.toNat ≤ 1 && f.loopback.toNat ≤ 1 && f.detectOnPowerOn.toNat ≤ 1 &&
      (f.loopPolicy = 1 || f.loopPolicy = 2) && f.customRate.toNat ≤ 1 && f.window.toNat ≤ 2
  | .send _ _ drain _ => drain.toNat ≤ 1
  | .rts _ _ level => level.toNat ≤ 1
  | .rateSet _ _ form _ => form.toNat ≤ 1
  | .rateMode _ _ mode => mode = 1 || mode = 2
  | .quality _ _ clear => clear.toNat ≤ 1
  | .attach _ _ form _ _ => form.toNat ≤ 2
  | .matchSetPrompt _ _ enable oneShot _ _ _ => enable.toNat ≤ 1 && oneShot.toNat ≤ 1
  | .watchSet _ _ f => f.source.toNat ≤ 1 && f.action.toNat ≤ 2 && f.enable.toNat ≤ 1
  | .store _ record f => !(1 ≤ record.toNat && record.toNat ≤ 8) || f.f0.toNat ≤ 2
  | .insert _ _ _ writable eject => writable.toNat ≤ 1 && eject.toNat ≤ 1
  | .eject _ _ force => force.toNat ≤ 1
  | .writeDone _ _ outcome => outcome.toNat ≤ 1
  | _ => true

/-! ## What a rule asks -/

/-- A line is eligible for a CONSOLE notice (R56). -/
def Slice.dueNotice (x : Slice) : Prop :=
  ∃ st, x.history.stream = some st ∧ 1 ≤ st.credit ∧ (st.cursor ≠ x.history.next ∨ 1 ≤ st.gap) ∧
    (x.line.config.flushThreshold ≤ (x.history.next - st.cursor).toNat ∨ x.history.idleExpired = true)

/-- A matcher with pattern `p` and `j` bytes matched goes to `k` at an entry, with a match taken where `hit` says so: `k` is the length of
the longest ending of the text that is a beginning of the pattern, or 0 after a match, an entry that is not DATA or with no pattern
(R62). -/
def MatchTaken (p : List Byte) (j : Nat) (e : HistoryEntry) (k : Nat) (hit : Bool) : Prop :=
  (p = [] ∨ e.kind ≠ .data → k = 0 ∧ hit = false) ∧
  (p ≠ [] → e.kind = .data → ∃ n text, text = p.take j ++ [e.value] ∧ n ≤ text.length ∧ text.drop (text.length - n) = p.take n ∧
    (∀ m, n < m → m ≤ text.length → text.drop (text.length - m) ≠ p.take m) ∧
    if n = p.length then k = 0 ∧ hit = true else k = n ∧ hit = false)

/-- The id a new record takes: the first after the last issued, in the order 1 to 255 and round again, that no record holds (R135, R142). -/
def IdAfter (held : List Nat) (last id : Nat) : Prop :=
  ∃ k, id = (last + k) % 255 + 1 ∧ id ∉ held ∧ ∀ j < k, (last + j) % 255 + 1 ∈ held

/-- An entry may be taken from its VALID block by a requesting bay (R133). -/
def ValidEligible (c : Cache) (b : Bay) (i : Fin 256) : Prop :=
  (c.entry i).state = .valid ∧ (c.entry i).pinned = false ∧
  ∃ k, (c.entry i).key = some k ∧
    (k.bay = b ∨ c.reserves.get k.bay < c.entries.toList.countP fun e => e.state ≠ .free && e.key.any fun q => q.bay = k.bay)

/-- The victim of a requesting bay: the lowest FREE entry that is not pinned; with none, the eligible VALID entry of the greatest age,
and of equal ages the lowest (R131, R133). -/
def VictimFor (c : Cache) (b : Bay) (i : Fin 256) : Prop :=
  ((c.entry i).state = .free ∧ (c.entry i).pinned = false ∧ ∀ j < i, (c.entry j).state ≠ .free ∨ (c.entry j).pinned = true) ∨
  ((∀ j, (c.entry j).state ≠ .free ∨ (c.entry j).pinned = true) ∧ ValidEligible c b i ∧
    ∀ j, ValidEligible c b j → (c.useCounter - (c.entry j).stamp).toNat < (c.useCounter - (c.entry i).stamp).toNat ∨
      (c.useCounter - (c.entry j).stamp = c.useCounter - (c.entry i).stamp ∧ i ≤ j))

/-- The bay holds no entry outside FREE for a block in its medium's present generation (R122). -/
def MissingBlock (s : State) (b : Bay) (block : Nat) : Prop :=
  ∀ i, (s.cache.entry i).state = .free ∨ (s.cache.entry i).key ≠ some ⟨b, (s.slice b).medium.generation, block⟩

/-! ## The parts of the state -/

/-- A part of the state, as the blocks of the specification own it. -/
inductive Part where
  | lineConfig (b : Bay)
  /-- Transmit queue, transmitter, RTS output and drain mark. -/
  | transmit (b : Bay)
  /-- Receiver and edge timer. -/
  | receive (b : Bay)
  /-- What is still to be heard of the element in flight in loopback. -/
  | looped (b : Bay)
  | pins (b : Bay)
  | ctsReference (b : Bay)
  | rate (b : Bay)
  | history (b : Bay)
  | heartbeat (b : Bay)
  | responder (b : Bay)
  | monitor (b : Bay)
  | sequencer (b : Bay)
  | medium (b : Bay)
  | port (b : Bay)
  | flags (b : Bay)
  | masks (b : Bay)
  | lastServed
  | cache
  | grant
  | policy
  | frameReceiver
  | replies
  /-- The frame in flight and the byte last sent. -/
  | outgoing
  | hello
  | summary
  | partFlags
  | partMasks
  | linkErrors
  | hold
  | resetN
  | serials
  | freeIndex
  | pending
  deriving DecidableEq, Repr

/-- A part holds the same in two states. -/
def Part.Same (p : Part) (s t : State) : Prop :=
  match p with
  | .lineConfig b => (t.slice b).line.config = (s.slice b).line.config
  | .transmit b =>
      (t.slice b).line.queue = (s.slice b).line.queue ∧ (t.slice b).line.tx = (s.slice b).line.tx ∧
      (t.slice b).line.rts = (s.slice b).line.rts ∧ (t.slice b).line.drainMark = (s.slice b).line.drainMark
  | .receive b =>
      (t.slice b).line.receiver = (s.slice b).line.receiver ∧ (t.slice b).line.lowPeriod = (s.slice b).line.lowPeriod
  | .looped b => (t.slice b).line.looped = (s.slice b).line.looped
  | .pins b => (t.slice b).line.conRx = (s.slice b).line.conRx ∧ (t.slice b).line.conCts = (s.slice b).line.conCts
  | .ctsReference b => (t.slice b).line.ctsRef = (s.slice b).line.ctsRef
  | .rate b => (t.slice b).line.rate = (s.slice b).line.rate
  | .history b => (t.slice b).history = (s.slice b).history
  | .heartbeat b => (t.slice b).heartbeat = (s.slice b).heartbeat
  | .responder b => (t.slice b).responder = (s.slice b).responder
  | .monitor b => (t.slice b).monitor = (s.slice b).monitor
  | .sequencer b => (t.slice b).sequencer = (s.slice b).sequencer
  | .medium b => (t.slice b).medium = (s.slice b).medium
  | .port b => (t.slice b).port = (s.slice b).port
  | .flags b => (t.slice b).flags = (s.slice b).flags
  | .masks b => (t.slice b).unmasked = (s.slice b).unmasked
  | .lastServed => t.lastServed = s.lastServed
  | .cache => t.cache = s.cache
  | .grant => t.grant = s.grant
  | .policy => t.policy = s.policy
  | .frameReceiver => t.link.receiver = s.link.receiver
  | .replies => t.link.replies = s.link.replies
  | .outgoing => t.link.outgoing = s.link.outgoing ∧ t.link.miso = s.link.miso
  | .hello => t.link.helloPending = s.link.helloPending
  | .summary => t.link.summaryPending = s.link.summaryPending
  | .partFlags => t.link.partFlags = s.link.partFlags
  | .partMasks => t.link.partUnmasked = s.link.partUnmasked
  | .linkErrors =>
      t.link.checkErrors = s.link.checkErrors ∧ t.link.lengthErrors = s.link.lengthErrors ∧ t.link.tagErrors = s.link.tagErrors ∧
      t.link.overflowErrors = s.link.overflowErrors
  | .hold => t.link.hold = s.link.hold
  | .resetN => t.resetN = s.resetN
  | .serials => t.nextSerial = s.nextSerial
  | .freeIndex => t.freeIndex = s.freeIndex
  | .pending => t.pending = s.pending

/-- What a bay's flag being set touches (R172, R173). -/
def Part.flagging (b : Bay) : Part → Bool
  | .flags c => c == b
  | .summary => true
  | _ => false

/-- What the transmitter of a line touches as it starts and completes elements (R9 to R12, R17 to R19). -/
def Part.sending (b : Bay) : Part → Bool
  | .transmit c | .looped c | .ctsReference c | .flags c => c == b
  | .summary => true
  | _ => false

/-- What the start of a detection touches (R7, R27, R63). -/
def Part.detecting (b : Bay) : Part → Bool
  | .rate c | .receive c | .heartbeat c | .responder c => c == b
  | _ => false

/-- What an entry handed on by the receiver reaches: the ring, its consumers, and the queue a prompt response joins (R6, R16). -/
def Part.receiving (b : Bay) : Part → Bool
  | .history c | .heartbeat c | .responder c | .monitor c | .rate c | .receive c | .transmit c | .looped c | .ctsReference c
  | .flags c => c == b
  | .summary => true
  | _ => false

/-- What a grant attempt reaches: it may bring any waiting bay to POWERING and on to ON (R84, R95, R105). -/
def Part.granting : Part → Bool
  | .sequencer _ | .responder _ | .monitor _ | .rate _ | .receive _ | .heartbeat _ | .flags _ | .grant | .summary => true
  | _ => false

/-- What the media ports and the cache move among themselves (R121). -/
def Part.moving : Part → Bool
  | .port _ | .cache => true
  | _ => false

/-- What a transition of a bay's sequencer touches (R95 to R98), grants it leads to included. -/
def Part.powering (b : Bay) (p : Part) : Bool := p.granting || p.moving || p == .medium b

/-- What a received frame touches whatever its request does (R165 to R167). -/
def Part.accounting : Part → Bool
  | .frameReceiver | .replies | .linkErrors | .partFlags | .summary => true
  | _ => false

/-- What a warm or soft reset leaves: line configurations, pins, the round-robin mark and the model's own fields. -/
def Part.kept : Part → Bool
  | .lineConfig _ | .pins _ | .lastServed | .serials | .freeIndex | .pending => true
  | _ => false

/-- A medium record. -/
def Part.isMedium : Part → Bool
  | .medium _ => true
  | _ => false

/-- The event flags of a bay. -/
def Part.isFlags : Part → Bool
  | .flags _ => true
  | _ => false

/-- The input pins of a line. -/
def Part.isPins : Part → Bool
  | .pins _ => true
  | _ => false

/-- A part of the bay a byte names. -/
def Part.ofBay (n : Byte) (f : Bay → Part → Bool) (p : Part) : Bool := (bayOf n).any fun b => f b p

/-- What each command may touch. A request touches the link's accounting beside what its owner does; a byte exchange may take any
request, and a reset reaches every block. -/
def mayTouch (i : Instr) (p : Part) : Bool :=
  match i with
  | .ident _ | .statusPart _ | .history .. | .cacheQuery _ | .undefinedRequest .. | .linkFrameDropped _ => p.accounting
  | .statusBay _ n => p.accounting || p.ofBay n fun b p => p == .flags b || p == .sequencer b
  | .mask _ n _ => p.accounting || p == .partMasks || p.ofBay n fun b p => p == .masks b
  | .restart _ => !p.kept && p != .hold && p != .resetN
  | .lineSet _ n _ => p.accounting || p.ofBay n fun b p => p == .lineConfig b || p == .receive b || p.sending b
  | .send _ n _ _ | .sendBreak _ n _ | .rts _ n _ => p.accounting || p.ofBay n fun b p => p.sending b
  | .rateSet _ n _ _ => p.accounting || p.ofBay n fun b p => p == .rate b || p == .receive b
  | .rateMode _ n _ | .quality _ n _ => p.accounting || p.ofBay n fun b p => p == .rate b
  | .rateDetect _ n => p.accounting || p.ofBay n fun b p => p.detecting b
  | .historySize _ n _ | .historyClear _ n | .attach _ n _ _ _ | .credit _ n _ | .detach _ n =>
      p.accounting || p.ofBay n fun b p => p == .history b
  | .matchSetHeartbeat _ n _ => p.accounting || p.ofBay n fun b p => p == .heartbeat b
  | .matchSetPrompt _ n _ _ _ _ _ => p.accounting || p.ofBay n fun b p => p == .responder b
  | .watchSet _ n _ | .watchClear _ n => p.accounting || p.ofBay n fun b p => p == .monitor b
  | .powerOn _ _ => p.accounting || p == .policy || p.granting
  | .powerOffSoft _ _ => p.accounting || p == .policy || p.granting
  | .powerOffHard _ n | .powerCycle _ n => p.accounting || p == .policy || p.ofBay n fun b p => p.powering b
  | .powerReset _ n => p.accounting || p.ofBay n fun b p => p == .sequencer b || p == .responder b || p == .monitor b || p.flagging b
  | .powerClearFault _ n => p.accounting || p.ofBay n fun b p => p == .sequencer b || p == .monitor b || p.flagging b
  | .powerSet _ n _ => p.accounting || p.ofBay n fun b p => p == .sequencer b
  | .budget .. => p.accounting || p.granting
  | .store .. => p.accounting || p == .policy
  | .insert _ n _ _ _ => p.accounting || p.ofBay n fun b p => p == .medium b
  | .eject _ n _ => p.accounting || p.ofBay n fun b p => p == .medium b || p.moving || p.flagging b
  | .cacheSet .. => p.accounting || p == .cache
  | .fill .. | .fillFail .. => p.accounting || p.moving
  | .writeDone .. => p.accounting || p.moving || p.isMedium || p.isFlags
  | .outgoingFrameStart _ | .outgoingFrameEnd _ | .byteExchange _ =>
      !p.isPins && p != .hold && p != .resetN && p != .pending && p != .serials
  | .characterReceived b _ _ _ => p.receiving b
  | .lowPulseEnd b _ _ => p.receiving b || p == .pins b
  | .detectionWindowExpiry b => p == .rate b || p == .receive b || p.flagging b
  | .ctsChange b _ => p.sending b || p == .pins b
  | .txBreakLowEnd b => p == .transmit b
  | .txElementComplete b => p.sending b
  | .idleFlushExpiry b => p == .history b
  | .promptWindowExpiry b => p == .responder b || p.flagging b
  | .watchTimerExpiry b => p == .monitor b || p.flagging b
  | .monitorRequestTaken b | .pgoodChange b _ | .powerGoodTimerExpiry b | .softStopWaitExpiry b => p.powering b
  | .btnSenseChange b _ | .btnSenseMaskEnd b => p == .sequencer b || p.flagging b
  | .resetPulseTimerExpiry b => p == .sequencer b || p == .responder b || p == .monitor b || p.flagging b
  | .buttonPressTimerExpiry b => p == .sequencer b
  | .holdOffTimerExpiry _ | .restoreDelayEnd => p.granting
  | .sagChange _ => p.granting || p == .partFlags
  | .mediaOpen b => p == .port b || p.flagging b
  | .mediaClose b => p.moving || p.flagging b
  | .read b _ _ _ | .write b _ _ _ => p.moving || p == .medium b || p == .serials
  | .capacity b _ | .ready b _ => p == .port b || p == .medium b
  | .serverRequestInvalid b _ => p == .port b
  | .transferEnd .. | .fetchDeadlineExpiry _ => p.moving
  | .writebackDeadlineExpiry _ => p.moving || p.isMedium || p.isFlags || p == .summary
  | .storeWriteComplete => !p.kept && p != .hold && p != .resetN
  | .coldReset _ => !p.isPins && p != .freeIndex && p != .pending
  | .warmReset => !p.kept
  | .resetNRelease => p == .hold || p == .resetN
  | .startEdge b _ => p == .pins b || p == .receive b || p == .looped b
  | .falseStart b => p == .receive b

/-! ## Warm and soft resets -/

/-- What a console line keeps and takes at a warm or soft reset (R1, R12, R21, R42). -/
structure Line.Rebuilt (l m : Line) : Prop where
  kept : m.config = l.config ∧ m.rts = l.rts ∧ m.conRx = l.conRx ∧ m.conCts = l.conCts
  moving : m.queue = [] ∧ m.tx = .idle ∧ m.looped = some [] ∧ m.drainMark = false ∧ m.receiver = .waitHigh ∧ m.lowPeriod = none
  reference : m.ctsRef = if l.config.loopback then l.rts else l.conCts
  remembered : m.rate.divisor = l.rate.divisor ∧ m.rate.lock = l.rate.lock ∧ m.rate.acc = l.rate.acc ∧ m.rate.index = l.rate.index ∧
    m.rate.mode = l.rate.mode ∧ m.rate.record = l.rate.record
  rate : m.rate.detection = none ∧ m.rate.drift = .none ∧ m.rate.rejected = 0 ∧ m.rate.window = {} ∧ m.rate.lastWindow = {} ∧
    m.rate.lastNumber = 0

/-- How a warm or soft reset rebuilds a sequencer from its outputs (R101, Table 5-5). -/
structure Sequencer.Rebuilt (q r : Sequencer) : Prop where
  off : q.state = .off ∨ q.state = .queued ∨ q.state = .holdOff → r.state = .off ∧ r.timer = none
  powering : q.state = .powering → r.state = .powering ∧ r.timer = some (.powerGood, q.settings.powerGood)
  on : q.state = .on ∨ q.state = .resetting → r.state = .on ∧ r.timer = none
  stopping : q.state = .softStopping →
    if q.pgood then r.state = .on ∧ r.timer = none else r.state = .holdOff ∧ r.timer = some (.holdOff, q.settings.holdOff)
  fault : q.state = .fault → r.state = .fault ∧ r.timer = none
  kept : r.settings = q.settings ∧ r.fault = q.fault ∧ r.pgood = q.pgood ∧ r.btnSense = q.btnSense
  sense : r.pendingOn = false ∧ r.buttonHold = none ∧ r.snapshotPgood = q.pgood ∧ r.snapshotBtn = q.btnSense

/-- What a warm or soft reset makes of the state `s`: `t`, up to the reset cause record, the writer, the hold and RESET_N. -/
structure Rebuilt (s t : State) : Prop where
  lines : ∀ b, (s.slice b).line.Rebuilt (t.slice b).line
  /-- R61: the ring stays and the stream is DETACHED. -/
  histories : ∀ b, (t.slice b).history = { (s.slice b).history with stream := none, idleExpired := false }
  /-- R77, R78: patterns and settings stay; positions, counts, requests and timers do not, and the monitor is placed anew. -/
  matchers : ∀ b, (t.slice b).heartbeat = { (s.slice b).heartbeat with j := 0 } ∧
    (t.slice b).responder = { (s.slice b).responder with armed := none, j := 0 }
  monitors : ∀ b, (t.slice b).monitor =
    { settings := (s.slice b).monitor.settings
      state := if (s.slice b).monitor.settings.enable = false then .disabled
        else if (t.slice b).sequencer.state = .on then .grace else .suspended
      timer := if (s.slice b).monitor.settings.enable = true ∧ (t.slice b).sequencer.state = .on
        then some (s.slice b).monitor.settings.grace else none
      count := 0, outstanding := none }
  sequencers : ∀ b, (s.slice b).sequencer.Rebuilt (t.slice b).sequencer
  /-- R128: every medium is EMPTY with its generation kept and the medium-changed mark set, and every link DOWN. -/
  media : ∀ b, (t.slice b).medium = { generation := (s.slice b).medium.generation, changed := true } ∧
    (t.slice b).port = { sent := (s.slice b).port.sent }
  /-- R178: every flag is clear and unmasked. -/
  flags : ∀ b, (t.slice b).flags = 0 ∧ (t.slice b).unmasked = BitVec.allOnes 19
  /-- R151: the cache and both tables are cleared, with the settings and the last ids issued kept. -/
  entries : ∀ i, (t.cache.entry i).state = .free ∧ (t.cache.entry i).key = none ∧ (t.cache.entry i).owner = none ∧
    (t.cache.entry i).pinned = false
  tables : t.cache.fetches = [] ∧ t.cache.writebacks = [] ∧ t.cache.useCounter = 0 ∧ t.cache.counters = {}
  cacheKept : t.cache.lastFetchId = s.cache.lastFetchId ∧ t.cache.lastWritebackId = s.cache.lastWritebackId ∧
    t.cache.reserves = s.cache.reserves ∧ t.cache.readAhead = s.cache.readAhead ∧ t.cache.fetchTimeout = s.cache.fetchTimeout ∧
    t.cache.writebackTimeout = s.cache.writebackTimeout
  /-- R102: the queue is emptied and the restore delay ended; a POWERING bay keeps its granted weight. -/
  grant : t.grant.queue = [] ∧ t.grant.timer = .ended ∧ t.grant.budget = s.grant.budget ∧
    t.grant.restoreDelay = s.grant.restoreDelay ∧ t.grant.sag = s.grant.sag
  weights : ∀ b, t.grant.granted.get b = if (s.slice b).sequencer.state = .powering then s.grant.granted.get b else none
  /-- R178: frames and replies are lost; RESTARTED alone is set, which makes the summary pending; the counters are kept. -/
  link : t.link.receiver = .hunt ∧ t.link.replies = [] ∧ t.link.outgoing = none ∧ t.link.helloPending = true ∧
    t.link.summaryPending = true ∧ t.link.partFlags = 1 ∧ t.link.partUnmasked = BitVec.allOnes 4
  counters : t.link.checkErrors = s.link.checkErrors ∧ t.link.lengthErrors = s.link.lengthErrors ∧
    t.link.tagErrors = s.link.tagErrors ∧ t.link.overflowErrors = s.link.overflowErrors
  /-- R159, R160: the RAM copies stay and no restart is pending. -/
  records : t.policy.ramGlobal = s.policy.ramGlobal ∧ t.policy.ramBays = s.policy.ramBays ∧ t.policy.restartPending = false ∧
    t.policy.causeReported = false

/-! ## Invariants -/

/-- The link stays within its bounds: at most 4 replies (R169), counters of 16 bits (R177), and a frame in flight that has bytes left to
send and, where it is a reply, still stands in the reply queue (R164, R169). -/
structure Link.Wf (l : Link) : Prop where
  replies : l.replies.length ≤ 4
  counters : l.checkErrors ≤ 65535 ∧ l.lengthErrors ≤ 65535 ∧ l.tagErrors ≤ 65535 ∧ l.overflowErrors ≤ 65535
  unfinished : ∀ o, l.outgoing = some o → o.sent < o.bytes.length
  replying : ∀ o, l.outgoing = some o → o.origin = .reply → l.replies ≠ []

/-- A configuration record holds values of Table 1-1 (R1). -/
structure LineConfig.Wf (c : LineConfig) : Prop where
  dataBits : 5 ≤ c.framing.dataBits ∧ c.framing.dataBits ≤ 8
  stopBits : 1 ≤ c.framing.stopBits ∧ c.framing.stopBits ≤ 2
  flushThreshold : 1 ≤ c.flushThreshold ∧ c.flushThreshold ≤ 240
  idleFlush : 1 ≤ c.idleFlush ∧ c.idleFlush ≤ 15
  errorThreshold : c.errorThreshold ≤ 255

/-- The transmit side of a line: up to 256 waiting elements (R8), each BREAK of 1 to 255 units (R14). -/
structure Line.Wf (l : Line) : Prop where
  config : l.config.Wf
  queue : l.queue.length ≤ 256
  breaks : ∀ d, TxElement.brk d ∈ l.queue → 1 ≤ d ∧ d ≤ 255

/-- The divisor stays in the tracking bounds of its lock and the accumulator within -255..+255 (R22, R33); the drift mark names a bound
at which B stands (R34); in MANUAL B is B_lock and A is 0 (R25, R38); the rate index names the table entry that B_lock is (R24). -/
structure RateUnit.Wf (r : RateUnit) : Prop where
  lock : 32 ≤ r.lock ∧ r.lock ≤ 1048575
  divisor : max 32 (r.lock - r.lock / 32) ≤ r.divisor ∧ r.divisor ≤ min 1048575 (r.lock + r.lock / 32)
  acc : -255 ≤ r.acc ∧ r.acc ≤ 255
  lower : r.drift = .lower → r.divisor = max 32 (r.lock - r.lock / 32)
  upper : r.drift = .upper → r.divisor = min 1048575 (r.lock + r.lock / 32)
  manual : r.mode = .manual → r.divisor = r.lock ∧ r.acc = 0 ∧ r.drift = .none
  index : r.index = 255 ∨ (r.index ≤ 10 ∧ Config.divisorTable[r.index]? = some r.lock)

/-- A ring holds no more than its pages do and its stream no more than the ring (R43, R44, R46, R50, R52). -/
structure History.Wf (h : History) : Prop where
  pages : 2 ≤ h.pages ∧ h.pages ≤ 64
  entries : h.entries.length ≤ h.pages * 1024
  unsent : ∀ st, h.stream = some st → (h.next - st.cursor).toNat ≤ h.entries.length
  stream : ∀ st, h.stream = some st → st.credit ≤ 65535 ∧ st.gap ≤ 4294967295

/-- The history store: every ring, and the pool of 128 pages (R43). -/
structure State.HistoryWf (s : State) : Prop where
  rings : ∀ b, (s.slice b).history.Wf
  pool : (s.slices.toList.map fun x => x.history.pages).sum ≤ 128

/-- The hang monitor: its settings in range (Table 4-3), its count within the limit (R75), its timer running in GRACE and WATCHING only
and DISABLED exactly while its enable is off (Table 4-4). -/
structure Monitor.Wf (m : Monitor) : Prop where
  settings : 5 ≤ m.settings.period ∧ 10 ≤ m.settings.grace ∧ m.settings.limit ≤ 15
  count : m.count ≤ m.settings.limit
  timer : m.timer.isSome ↔ m.state = .grace ∨ m.state = .watching
  disabled : m.state = .disabled ↔ m.settings.enable = false

/-- The timers a sequencer may run in a state (Table 5-2). -/
def SeqState.runs : SeqState → Option SeqTimer → Prop
  | .powering, t => t = some .powerGood
  | .resetting, t => t = some .resetPulse
  | .softStopping, t => t = some .buttonPress ∨ t = some .softStopWait
  | .holdOff, t => t = some .holdOff
  | _, t => t = none

/-- The power sequencer: the timer of its state (Table 5-2), a pending-on mark in HOLDOFF only (R89), and the button held while the button
press timer runs only (R92). -/
structure Sequencer.Wf (q : Sequencer) : Prop where
  timer : q.state.runs (q.timer.map Prod.fst)
  pendingOn : q.pendingOn = true → q.state = .holdOff
  press : ∀ h, q.buttonHold = some h → h.pressing = true → q.btn = true

/-- The grant queue and the sequencers agree (R102 to R104): each waiting bay stands in the queue once, each POWERING bay holds a granted
weight, and the POWERING sum stays within the budget. -/
structure State.PowerWf (s : State) : Prop where
  sequencers : ∀ b, (s.slice b).sequencer.Wf
  once : s.grant.queue.Nodup
  waiting : ∀ b, b ∈ s.grant.queue ↔ (s.slice b).sequencer.state = .queued
  powering : ∀ b, (s.grant.granted.get b).isSome ↔ (s.slice b).sequencer.state = .powering
  sum : s.grant.sum ≤ s.grant.budget
  budget : 1 ≤ s.grant.budget ∧ s.grant.budget ≤ 60

/-- A medium record: a capacity except in EMPTY (R111, R115), a generation of 16 bits. -/
structure Medium.Wf (m : Medium) : Prop where
  capacity : m.capacity = none ↔ m.state = .empty
  generation : m.generation ≤ 65535

/-- A media port (R117, R119, R121): at most 4 requests, told apart by their serials; nothing queued and no transfer on a link
that is DOWN. -/
structure Port.Wf (p : Port) : Prop where
  queue : p.queue.length ≤ 4
  serials : (p.queue.map ServerRequest.serial).Nodup
  down : p.up = false → p.queue = [] ∧ p.transfer = none

/-- The media side of a bay: its link is UP in ON, RESETTING and SOFT_STOPPING only (R116, R117), and a queue stands only on a PRESENT
medium (R113, R120). -/
structure State.MediaWf (s : State) : Prop where
  media : ∀ b, (s.slice b).medium.Wf
  ports : ∀ b, (s.slice b).port.Wf
  fresh : ∀ b, ∀ r ∈ (s.slice b).port.queue, r.serial < s.nextSerial
  powered : ∀ b, (s.slice b).port.up = true →
    (s.slice b).sequencer.state = .on ∨ (s.slice b).sequencer.state = .resetting ∨ (s.slice b).sequencer.state = .softStopping
  present : ∀ b, (s.slice b).port.queue ≠ [] → (s.slice b).medium.state = .present

/-- The block cache and its tables: no block of a bay and generation is held twice (R129), at most 32 fetch records (R135) and at most
16 writeback places taken (R142). -/
structure State.CacheWf (s : State) : Prop where
  free : ∀ i, (s.cache.entry i).state = .free → (s.cache.entry i).key = none
  unique : ∀ i j, (s.cache.entry i).key ≠ none → (s.cache.entry i).key = (s.cache.entry j).key → i = j
  fetches : s.cache.fetches.length ≤ 32
  places : usedPlaces s ≤ 16

/-- The cache, its tables, the media and the transfers agree. Every entry outside FREE belongs to the present generation of a medium that
is PRESENT or EJECT_PENDING, and is DIRTY in EJECT_PENDING (R129, R115). FILLING entries and the unfilled blocks of the live fetch
records are one to one (R137), and so are DIRTY entries and the live writeback records (R143). An entry is pinned exactly while the
transfer of one bay uses it (R130); a WRITE in transfer is queued with blocks left and holds its next block VALID (R124, R125). -/
structure State.CacheTied (s : State) : Prop where
  current : ∀ i, (s.cache.entry i).state ≠ .free → ∃ k, (s.cache.entry i).key = some k ∧ (s.slice k.bay).medium.state ≠ .empty ∧
    k.generation = (s.slice k.bay).medium.generation ∧
    ((s.slice k.bay).medium.state = .ejectPending → (s.cache.entry i).state = .dirty)
  unowned : ∀ i, (s.cache.entry i).state = .free ∨ (s.cache.entry i).state = .valid → (s.cache.entry i).owner = none
  fetchIds : (s.cache.fetches.map FetchRecord.id).Nodup ∧ ∀ r ∈ s.cache.fetches, 1 ≤ r.id ∧ r.id ≤ 255
  writebackIds : (s.cache.writebacks.map WritebackRecord.id).Nodup ∧ ∀ r ∈ s.cache.writebacks, 1 ≤ r.id ∧ r.id ≤ 255
  issued : s.cache.lastFetchId ≤ 255 ∧ s.cache.lastWritebackId ≤ 255
  filling : ∀ i, (s.cache.entry i).state = .filling → ∃ r ∈ s.cache.fetches, ∃ x, r.orphan = false ∧ r.marks[x]? = some false ∧
    (s.cache.entry i).owner = some (.fetch r.id x) ∧ (s.cache.entry i).key = some ⟨r.bay, r.generation, r.first + x⟩
  unfilled : ∀ r ∈ s.cache.fetches, r.orphan = false → ∀ x, r.marks[x]? = some false →
    ∃ i, (s.cache.entry i).state = .filling ∧ (s.cache.entry i).owner = some (.fetch r.id x)
  dirty : ∀ i, (s.cache.entry i).state = .dirty → ∃ r ∈ s.cache.writebacks, r.orphan = false ∧ r.entry = some i ∧
    (s.cache.entry i).owner = some (.writeback r.id) ∧ (s.cache.entry i).key = some ⟨r.bay, r.generation, r.block⟩
  unconfirmed : ∀ r ∈ s.cache.writebacks, r.orphan = false →
    ∃ i, r.entry = some i ∧ (s.cache.entry i).state = .dirty ∧ (s.cache.entry i).owner = some (.writeback r.id)
  pinned : ∀ i, (s.cache.entry i).pinned = true ↔ ∃ b t, (s.slice b).port.transfer = some t ∧ t.entry = i
  own : ∀ b c t u, (s.slice b).port.transfer = some t → (s.slice c).port.transfer = some u → t.entry = u.entry → b = c
  serials : ∀ b t, (s.slice b).port.transfer = some t → t.serial < s.nextSerial
  reading : ∀ b t, (s.slice b).port.transfer = some t → t.write = false →
    (∀ r ∈ (s.slice b).port.queue, r.serial = t.serial → r.write = false) ∧
    ((s.cache.entry t.entry).state = .free ∨ ∃ k, (s.cache.entry t.entry).key = some k ∧ k.bay = b)
  writing : ∀ b t, (s.slice b).port.transfer = some t → t.write = true →
    ∃ r ∈ (s.slice b).port.queue, r.serial = t.serial ∧ r.write = true ∧ r.transferred < r.count ∧
      (s.cache.entry t.entry).state = .valid ∧ (s.cache.entry t.entry).key = some ⟨b, (s.slice b).medium.generation, r.next⟩

/-! ## What a sequencer's transition hands on -/

/-- A hang monitor before and after a transition of its bay that suspends it: SUSPENDED with its timer stopped, or DISABLED as it was (R74,
Table 4-5). A request outstanding stays so until the sequencer takes it (R73). -/
def Monitor.Departed (m n : Monitor) : Prop :=
  (m.state = .disabled → n = m) ∧ (m.state ≠ .disabled → n = { m with state := .suspended, timer := none })

/-- What a bay's loss of power hands on to its port, its medium and its responder, from `s` to `t` (R98). -/
structure PowerLost (b : Bay) (s t : State) : Prop where
  /-- The link is DOWN, the queue discarded with no status and the transfer abandoned (R116, R117). -/
  port : (s.slice b).port.Wf → (t.slice b).port = { up := false, sent := (s.slice b).port.sent }
  linkFlag : t.flag b .mediaLink = (s.flag b .mediaLink || (s.slice b).port.up)
  forgotten : (s.slice b).port.up = true →
    t.cache.writebacks = s.cache.writebacks.map fun r => if r.bay = b then { r with request := none } else r
  responder : (t.slice b).responder = { (s.slice b).responder with armed := none, j := 0 }
  /-- R118: with the flag off, or no disk PRESENT, the medium stays as it is. -/
  kept : (s.slice b).medium.state ≠ .present ∨ (s.slice b).medium.ejectOnPowerOff = false →
    (t.slice b).medium = (s.slice b).medium ∧ t.flag b .mediaEjected = s.flag b .mediaEjected
  /-- R118: eject-on-power-off with no DIRTY entry leaves the medium EMPTY, its generation kept (R115). -/
  ejected : (s.slice b).medium.state = .present → (s.slice b).medium.ejectOnPowerOff = true → dirtyCount b s = 0 →
    (t.slice b).medium = { state := .empty, generation := (s.slice b).medium.generation, changed := true } ∧
    t.flag b .mediaEjected = true ∧ t.cache.holding b = 0
  /-- R118: with DIRTY entries left, which an abandoned WRITE's entry is not (R124, R126), it is EJECT_PENDING. -/
  ejecting : (s.slice b).medium.state = .present → (s.slice b).medium.ejectOnPowerOff = true → dirtyCount b s ≠ 0 →
    (∀ x, (s.slice b).port.transfer = some x → x.write = true → (s.cache.entry x.entry).state ≠ .dirty) →
    (t.slice b).medium = { (s.slice b).medium with state := .ejectPending } ∧ t.flag b .mediaEjected = s.flag b .mediaEjected ∧
    dirtyCount b t = dirtyCount b s ∧ t.cache.holding b = dirtyCount b s
  /-- R113, R141: the bay's fetch records left in the table are orphans. -/
  orphans : (s.slice b).medium.state = .present → (s.slice b).medium.ejectOnPowerOff = true →
    ∀ r ∈ t.cache.fetches, r.bay = b → r.orphan = true

/-- The policy store `p` becomes `q` where a POWER request replied OK makes a bay's last commanded state `on`: a change sets the record's
dirty mark, and the writer, if IDLE, starts its write (R82, R155, R156). The record is erased as the write starts (R153; log entry 33), and
its content is placed in the seven bytes as log entry 46 says. -/
structure PolicyStore.Commanded (on : Bool) (b : Bay) (p q : PolicyStore) : Prop where
  record : q.ramBays = p.ramBays.set b { p.ramBays.get b with lastOn := on }
  same : (p.ramBays.get b).lastOn = on → q = p
  waits : (p.ramBays.get b).lastOn ≠ on → p.writer ≠ none ∨ p.restartPending = true →
    q = { p with ramBays := q.ramBays, dirty := p.dirty ||| BitVec.twoPow 9 (b.val + 1) }
  starts : ∀ k, k = p.ramBays.get b → k.lastOn ≠ on → p.writer = none → p.restartPending = false → p.dirty = 0 →
    q = { p with
      ramBays := q.ramBays
      nv := p.nv.set b.succ none
      writer := some (b.succ,
        #v[BitVec.ofNat 8 ((match k.policy with | .off => 0 | .on => 1 | .last => 2) + if on then 4 else 0),
          BitVec.ofNat 8 k.settings.weight, BitVec.ofNat 8 k.settings.powerGood, BitVec.ofNat 8 k.settings.softStop,
          BitVec.ofNat 8 k.settings.holdOff, BitVec.ofNat 8 k.settings.resetPulse, BitVec.ofNat 8 k.settings.button]) }

end Sys2Proof.Machine
end

