-- ==== Sys2Proof/Certificates/Slice0/Obligations.lean ====
section
/-! DEFINITION. The statements about the part for the provers, each a proposition `Obligations.<Name>` that says what its docstring states.
In all of them the fields of a reply stand in the order that log entry 25 deduces, a running timer holds the duration it was started with
(log entry 4), and what a rule keeps as one thing is held as one (log entry 42). -/

open Sys2Proof Sys2Proof.Machine

/-! ## The queue, the flags and the link -/

/-- The command waiting longest is executed with the rest of the queue; with none waiting the part idles (the idling is the model's choice,
log entry 14). -/
def Obligations.StepTakesTheFront : Prop :=
  (∀ (c : Instr) (rest : List Instr) (s : State), step { s with pending := c :: rest } = exec c { s with pending := rest }) ∧
  ∀ s : State, s.pending = [] → step s = .next s

/-- A flag is set whatever its mask, no other flag and no mask changes, and an unmasked flag that goes from clear to set makes the summary
pending: a flag of a bay, and a flag of the part (R172, R173). -/
def Obligations.FlagIsSet : Prop :=
  (∀ (s : State) (b : Bay) (f : BayFlag),
    (setFlag b f s).flag b f = true ∧
    (∀ c g, c ≠ b ∨ g ≠ f → (setFlag b f s).flag c g = s.flag c g) ∧
    (∀ c, ((setFlag b f s).slice c).unmasked = (s.slice c).unmasked) ∧
    (setFlag b f s).link.summaryPending = (s.link.summaryPending || (!s.flag b f && (s.slice b).unmasked.getLsbD f.bit)) ∧
    ∀ p : Part, p.flagging b = false → p.Same s (setFlag b f s)) ∧
  ∀ (s : State) (f : PartFlag),
    (setPartFlag f s).partFlag f = true ∧
    (∀ g, g ≠ f → (setPartFlag f s).partFlag g = s.partFlag g) ∧
    (setPartFlag f s).link.summaryPending = (s.link.summaryPending || (!s.partFlag f && s.link.partUnmasked.getLsbD f.bit)) ∧
    ∀ p : Part, p ≠ .partFlags → p ≠ .summary → p.Same s (setPartFlag f s)

/-- IDENT is replied OK with 0x31, 0x08, 0x01, the values HELLO carries, and changes no state (R176). -/
def Obligations.IdentReplies : Prop :=
  (∀ (s : State) (tag : Byte), takesRequest tag s → exec (.ident tag) s = .next (replied 0x81 tag [0, 0x31, 0x08, 0x01] s)) ∧
  ∀ s : State, (helloFrame s).payload.take 3 = [0x31, 0x08, 0x01]

/-- STATUS for a bay: the reply takes every flag, which clear, the levels seen become the snapshot, and nothing else changes (R174, Table
11-7); a scope of 8 to 254 is refused with RANGE. STATUS for the part: the reply takes the four part flags, which clear, and reports the
counters, the grant queue and the policy store; no bay flag changes (R175, Table 11-8). -/
def Obligations.StatusReportsAndClears : Prop :=
  ((∀ (s : State) (tag : Byte) (b : Bay), takesRequest tag s →
    exec (.statusBay tag (bayByte b)) s = .next (replied 0x82 tag
      ([0, bayByte b] ++ le3 (s.slice b).flags.toNat ++ le1 (s.slice b).sequencer.state.code ++ bit (s.slice b).sequencer.pendingOn ++
        le1 (s.slice b).sequencer.fault.code ++ bit (s.slice b).sequencer.pgood ++ bit (s.slice b).sequencer.btnSeen ++
        bit (s.slice b).line.rate.detection.isSome ++ le1 (s.slice b).line.rate.mode.code ++ le1 (s.slice b).medium.state.code ++
        le2 (s.slice b).medium.generation ++ bit (s.slice b).port.up ++ le1 (s.slice b).monitor.state.code ++
        le1 (s.slice b).monitor.count ++ bit (s.slice b).responder.armed.isSome)
      (s.withSlice b { s.slice b with
        flags := 0
        sequencer := { (s.slice b).sequencer with
          snapshotPgood := (s.slice b).sequencer.pgood, snapshotBtn := (s.slice b).sequencer.btnSeen } }))) ∧
  ∀ (s : State) (tag scope : Byte), takesRequest tag s → 8 ≤ scope.toNat → scope ≠ 0xFF →
    exec (.statusBay tag scope) s = .next (replied 0x82 tag [2] s)) ∧
  (∀ (s : State) (tag : Byte), takesRequest tag s →
    exec (.statusPart tag) s = .next (replied 0x82 tag
      ([0, 0xFF] ++ le1 s.link.partFlags.toNat ++ le2 s.link.checkErrors ++ le2 s.link.lengthErrors ++ le2 s.link.tagErrors ++
        le2 s.link.overflowErrors ++ (le1 s.grant.queue.length ++ s.grant.queue.map bayByte) ++ le1 s.grant.sum ++ le1 s.grant.budget ++
        le1 s.grant.restoreDelay ++ bit (s.grant.timer = .ended) ++ bit s.grant.sag ++ le2 s.policy.dirty.toNat ++
        le1 (s.policy.writer.elim 255 fun w => w.1.val) ++ le2 s.policy.torn.toNat)
      { s with link := { s.link with partFlags := 0 } }))

/-- MASK writes the marks of its scope in one step, is replied OK with the marks as written, and makes the summary pending where a set flag
becomes unmasked; a bay above 7 is refused with RANGE (R173). That the reply carries three bytes of marks for a bay and one for the part is
the model's reading (log entry 23). -/
def Obligations.MaskWritesMarks : Prop :=
  (∀ (s : State) (tag : Byte) (b : Bay) (marks : BitVec 24), takesRequest tag s →
    exec (.mask tag (bayByte b) marks) s = .next (replied 0x83 tag (0 :: le3 (marks.setWidth 19).toNat)
      (raiseSummary (List.any (List.range 19) fun i =>
          (s.slice b).flags.getLsbD i && marks.getLsbD i && !(s.slice b).unmasked.getLsbD i)
        (s.withSlice b { s.slice b with unmasked := marks.setWidth 19 })))) ∧
  (∀ (s : State) (tag : Byte) (marks : BitVec 24), takesRequest tag s →
    exec (.mask tag 0xFF marks) s = .next (replied 0x83 tag (0 :: le1 (marks.setWidth 4).toNat)
      (raiseSummary (List.any (List.range 4) fun i =>
          s.link.partFlags.getLsbD i && marks.getLsbD i && !s.link.partUnmasked.getLsbD i)
        { s with link := { s.link with partUnmasked := marks.setWidth 4 } }))) ∧
  ∀ (s : State) (tag scope : Byte) (marks : BitVec 24), takesRequest tag s → 8 ≤ scope.toNat → scope ≠ 0xFF →
    exec (.mask tag scope marks) s = .next (replied 0x83 tag [2] s)

/-- A frame of a kind below 0x80 that is no request kind is refused with MALFORMED, whatever its payload (R167, check 1). A request with an
enumerated or on/off field that it reads at a value not defined is refused with MALFORMED, and otherwise one that names a bay or a line
above 7 with RANGE, whichever request it is (R167, checks 3 and 4). -/
def Obligations.UndefinedKindIsMalformed : Prop :=
  (∀ (s : State) (tag kind : Byte), takesRequest tag s → kind.toNat < 128 → requestKinds.contains kind = false →
    exec (.undefinedRequest tag kind) s = .next (replied (kind + 0x80) tag [1] s) ∧
    ∀ payload, takeFrame kind tag payload s = replied (kind + 0x80) tag [1] s) ∧
  ∀ (s : State) (i : Instr) (f : RequestFrame), encodeRequest i = some f → takesRequest f.tag s →
    (fieldsDefined i = false → exec i s = .next (replied (f.kind + 0x80) f.tag [1] s)) ∧
    ∀ n, fieldsDefined i = true → namedBay i = some n → 8 ≤ n.toNat → exec i s = .next (replied (f.kind + 0x80) f.tag [2] s)

/-- A drop increases its counter, saturating at 65,535, flags LINK_ERROR and returns the receiver to HUNT; no reply is made and no other
block changes (R165, R166, R177). A request with tag 0, or one that finds 4 replies queued, is dropped, counted under its cause and not
replied; while a restart is pending or the link hold is set it is discarded and changes nothing (R164, R166). RESTART is not stopped by a
full queue. -/
def Obligations.FramesAreDroppedAndJudged : Prop :=
  (∀ (s : State), s.link.hold = false → s.policy.restartPending = false →
    exec (.linkFrameDropped .length) s = .next (setPartFlag .linkError
      { s with link := { s.link with receiver := .hunt, lengthErrors := min (s.link.lengthErrors + 1) 65535 } }) ∧
    exec (.linkFrameDropped .check) s = .next (setPartFlag .linkError
      { s with link := { s.link with receiver := .hunt, checkErrors := min (s.link.checkErrors + 1) 65535 } }) ∧
    exec (.linkFrameDropped .tag) s = .next (setPartFlag .linkError
      { s with link := { s.link with receiver := .hunt, tagErrors := min (s.link.tagErrors + 1) 65535 } }) ∧
    (4 ≤ s.link.replies.length → exec (.linkFrameDropped .overflow) s = .next (setPartFlag .linkError
      { s with link := { s.link with receiver := .hunt, overflowErrors := min (s.link.overflowErrors + 1) 65535 } }))) ∧
  (∀ (s : State) (i : Instr), i.isRequest = true →
    (s.link.hold = true ∨ s.policy.restartPending = true → exec i s = .next { s with link := { s.link with receiver := .hunt } }) ∧
    (s.link.hold = false → s.policy.restartPending = false → requestTag i = 0 → exec i s = .next (setPartFlag .linkError
      { s with link := { s.link with receiver := .hunt, tagErrors := min (s.link.tagErrors + 1) 65535 } })) ∧
    (s.link.hold = false → s.policy.restartPending = false → requestTag i ≠ 0 → 4 ≤ s.link.replies.length → (∀ tag, i ≠ .restart tag) →
      exec i s = .next (setPartFlag .linkError
        { s with link := { s.link with receiver := .hunt, overflowErrors := min (s.link.overflowErrors + 1) 65535 } })))

/-- Every request taken is replied in the same step: exactly one reply joins the tail of the queue, with the request's tag, and nothing that
stood in the queue changes (R167). RESTART is never replied. -/
def Obligations.EveryRequestIsReplied : Prop :=
  ∀ (s t : State) (i : Instr), i.isRequest = true → (∀ tag, i ≠ .restart tag) → takesRequest (requestTag i) s → exec i s = .next t →
    ∃ kind code fields, t.link.replies = s.link.replies ++ [⟨kind, requestTag i, code :: fields⟩]

/-- A request refused - replied with a code other than OK - changes no state beyond its reply (R167, R168). FILL, FILL_FAIL and WRITE_DONE
count the answers they refuse (R138, R139, R144) and are not named here. -/
def Obligations.RefusedRequestChangesNothing : Prop :=
  ∀ (s t : State) (i : Instr), i.isRequest = true → (∀ tag, i ≠ .restart tag) →
    (∀ tag id x g d, i ≠ .fill tag id x g d) → (∀ tag id, i ≠ .fillFail tag id) → (∀ tag id o, i ≠ .writeDone tag id o) →
    takesRequest (requestTag i) s → exec i s = .next t →
    ∀ kind code fields, t.link.replies = s.link.replies ++ [⟨kind, requestTag i, code :: fields⟩] → code ≠ 0 →
      t = replied kind (requestTag i) [code] s

/-- One byte exchange: under the link hold the byte is discarded and 0x00 sent; with nothing to send the idle fill 0x00 goes out; with a
frame in flight its next byte goes out. The byte received goes to the frame receiver, which in HUNT keeps only 0xC3 (R164, R165). ATTN is
asserted exactly while the hold is clear and a frame is ready to start: HELLO or a reply that has not started, the summary, a FETCH or
WRITEBACK notice PENDING, or a line eligible for a CONSOLE notice (R56, R171). -/
def Obligations.ByteExchangeMovesOneByte : Prop :=
  (∀ (s : State) (mosi : Byte) (rx : FrameReceiver), rx = (if mosi = 0xC3 then .length none else .hunt) →
    (s.link.hold = true →
      exec (.byteExchange mosi) s = .next (s.withLink { s.link with receiver := .hunt, miso := 0 })) ∧
    (s.link.hold = false → s.link.receiver = .hunt → s.link.outgoing = none → s.link.helloPending = false → s.link.replies = [] →
      s.link.summaryPending = false → (∀ r ∈ s.cache.fetches, r.notice ≠ .pending) → (∀ r ∈ s.cache.writebacks, r.notice ≠ .pending) →
      (∀ b, (s.slice b).history.stream = none) →
      exec (.byteExchange mosi) s = .next (s.withLink { s.link with receiver := rx, miso := 0 })) ∧
    (∀ o, s.link.hold = false → s.link.receiver = .hunt → s.link.outgoing = some o → o.sent + 1 < o.bytes.length →
      exec (.byteExchange mosi) s = .next (s.withLink { s.link with
        receiver := rx, miso := o.bytes.getD o.sent 0, outgoing := some { o with sent := o.sent + 1 } }))) ∧
  ∀ s : State, attn s = true ↔ s.link.hold = false ∧
    ((s.link.helloPending = true ∧ ∀ o, s.link.outgoing = some o → o.origin ≠ .hello) ∨
      (if ∃ o, s.link.outgoing = some o ∧ o.origin = .reply then 2 ≤ s.link.replies.length else s.link.replies ≠ []) ∨
      s.link.summaryPending = true ∨ (∃ r ∈ s.cache.fetches, r.notice = .pending) ∨ (∃ r ∈ s.cache.writebacks, r.notice = .pending) ∨
      ∃ b, (s.slice b).dueNotice)

/-- The exchange that finds no frame in flight starts the first frame ready: HELLO, the oldest reply, the EVENT_SUMMARY, the oldest FETCH
notice, the oldest WRITEBACK notice, a CONSOLE notice. Its first byte, the frame mark, goes out, its contents are fixed by Table 11-9, and
its owner is told (R137, R143, R161, R164, R170, R173, R184). The CONSOLE notice is that of the first eligible line after the round-robin
mark, which becomes the mark (R57). It takes the gap, and of the unsent entries as many as the credit and 240 allow, up to just before the
129th that is not DATA; each of those has its mark of offset and kind, in offset order (R58). A gap alone is a notice of no entry. -/
def Obligations.FramesStartInOrder : Prop :=
  ∀ (s : State) (mosi : Byte) (rx : FrameReceiver) (started : Origin → Frame → Link → Link), rx = (if mosi = 0xC3 then .length none else .hunt) →
    (∀ o f l, started o f l = { l with receiver := rx, miso := 0xC3, outgoing := some ⟨o, f.wire, 1⟩ }) →
    s.link.hold = false → s.link.receiver = .hunt → s.link.outgoing = none →
    (frameReady s = true → exec (.byteExchange mosi) s = exec (.outgoingFrameStart mosi) s) ∧
    (s.link.helloPending = true →
      exec (.outgoingFrameStart mosi) s = .next (s.withLink (started .hello
        ⟨0x70, 0, [0x31, 0x08, 0x01] ++ le1 s.policy.causes.toNat ++ le2 s.policy.torn.toNat⟩ s.link))) ∧
    (∀ r rest, s.link.helloPending = false → s.link.replies = r :: rest →
      exec (.outgoingFrameStart mosi) s = .next (s.withLink (started .reply r s.link))) ∧
    (s.link.helloPending = false → s.link.replies = [] →
      (∀ bays : Byte, s.link.summaryPending = true →
        (∀ b : Bay, bays.getLsbD b.val = decide ((s.slice b).flags &&& (s.slice b).unmasked ≠ 0)) →
        exec (.outgoingFrameStart mosi) s = .next (s.withLink (started .summary
          ⟨0x71, 0, [bays] ++ le1 (s.link.partFlags &&& s.link.partUnmasked).toNat⟩ { s.link with summaryPending := false }))) ∧
      (s.link.summaryPending = false →
        (∀ r, s.cache.fetches.find? (fun r => r.notice = .pending) = some r →
          exec (.outgoingFrameStart mosi) s = .next ((s.withLink (started (.fetch r.id)
            ⟨0x73, 0, le1 r.id ++ [bayByte r.bay] ++ le2 r.generation ++ le4 r.first ++ le1 r.marks.length⟩ s.link)).withCache
              { s.cache with fetches := s.cache.fetches.map fun q => if q.id = r.id then { q with notice := .sending } else q })) ∧
        ((∀ r ∈ s.cache.fetches, r.notice ≠ .pending) →
          (∀ r i, s.cache.writebacks.find? (fun r => r.notice = .pending) = some r → r.entry = some i →
            exec (.outgoingFrameStart mosi) s = .next ((s.withLink (started (.writeback r.id)
              ⟨0x74, 0, le1 r.id ++ [bayByte r.bay] ++ le2 r.generation ++ le4 r.block ++ (s.cache.entry i).data.toList⟩ s.link)).withCache
                { s.cache with writebacks := s.cache.writebacks.map fun q => if q.id = r.id then { q with notice := .sending } else q })) ∧
          ((∀ r ∈ s.cache.writebacks, r.notice ≠ .pending) →
            ∀ (b : Bay) (h : History) (st : Stream) (es rest : List HistoryEntry) (marks : List Nat) (other : HistoryEntry → Bool),
            (s.slice b).dueNotice → (∀ c : Bay, (c - s.lastServed - 1).val < (b - s.lastServed - 1).val → ¬(s.slice c).dueNotice) →
            h = (s.slice b).history → h.stream = some st → (h.next - st.cursor).toNat ≤ h.entries.length →
            h.entries.drop (h.entries.length - (h.next - st.cursor).toNat) = es ++ rest →
            (∀ e, other e = decide (e.kind ≠ .data)) → es.length ≤ min st.credit 240 → es.countP other ≤ 128 →
            (rest = [] ∨ es.length = min st.credit 240 ∨ (es.countP other = 128 ∧ ∃ e more, rest = e :: more ∧ other e = true)) →
            marks = (List.range es.length).filter (fun i => es[i]?.any other) →
            exec (.outgoingFrameStart mosi) s = .next { (s.withHistory b { h with
                stream := some ⟨st.cursor + BitVec.ofNat 32 es.length, 0, st.credit - es.length⟩ }).withLink (started (.console b)
                  ⟨0x72, 0, [bayByte b] ++ le4 st.gap ++ le4 st.cursor.toNat ++ le1 es.length ++ le1 marks.length ++
                    es.map HistoryEntry.value ++ marks.flatMap fun i => le1 i ++ es[i]?.elim [] fun e => le1 e.kind.code⟩
                  s.link) with lastServed := b }))))

/-- The exchange that sends the last check byte of a frame ends it and hands the end back to its owner: HELLO is pending no longer and its
causes are reported, the reply leaves the queue, a record that was SENDING is SENT and its deadline starts (R137, R143, R161, R164, R169,
R170). The free value that settles whether the end or the byte received comes first (log entry 1) decides nothing here, with the receiver in
HUNT. -/
def Obligations.FramesEndAtTheirLastByte : Prop :=
  ∀ (s : State) (mosi : Byte) (rx : FrameReceiver) (o : Outgoing) (ended : Link), rx = (if mosi = 0xC3 then .length none else .hunt) →
    s.link.hold = false → s.link.receiver = .hunt → s.link.outgoing = some o → o.bytes.length = o.sent + 1 →
    ended = { s.link with receiver := rx, miso := o.bytes.getD o.sent 0, outgoing := none } →
    exec (.byteExchange mosi) s = exec (.outgoingFrameEnd mosi) s ∧
    (o.origin = .hello →
      exec (.outgoingFrameEnd mosi) s = .next { (s.withLink { ended with helloPending := false }).withPolicy
        { s.policy with causeReported := true } with freeIndex := s.freeIndex + 1 }) ∧
    (o.origin = .reply →
      exec (.outgoingFrameEnd mosi) s =
        .next { s.withLink { ended with replies := s.link.replies.drop 1 } with freeIndex := s.freeIndex + 1 }) ∧
    ((o.origin = .summary ∨ ∃ b, o.origin = .console b) →
      exec (.outgoingFrameEnd mosi) s = .next { s.withLink ended with freeIndex := s.freeIndex + 1 }) ∧
    (∀ id, o.origin = .fetch id →
      exec (.outgoingFrameEnd mosi) s = .next { (s.withLink ended).withCache { s.cache with
        fetches := s.cache.fetches.map fun r =>
          if r.id = id ∧ r.notice = .sending then { r with notice := .sent, deadline := some s.cache.fetchTimeout } else r } with
        freeIndex := s.freeIndex + 1 }) ∧
    (∀ id, o.origin = .writeback id →
      exec (.outgoingFrameEnd mosi) s = .next { (s.withLink ended).withCache { s.cache with
        writebacks := s.cache.writebacks.map fun r =>
          if r.id = id ∧ r.notice = .sending then { r with notice := .sent, deadline := some s.cache.writebackTimeout } else r } with
        freeIndex := s.freeIndex + 1 })

/-! ## Console lines -/

/-- LINE_SET with defined enumerations writes all twelve fields, each number clamped to its range, and is replied OK with them; with
loopback unchanged, an element in flight and the seen CTS level at its reference, nothing else changes (R1, R20, Table 1-4). A switch of
loopback moves the receiver to WAIT_HIGH and discards the low period; the element in flight goes on, and what it still drives is not known
to the side it is switched to (R19; log entry 19). -/
def Obligations.LineSetWritesTheRecord : Prop :=
  ∀ (s : State) (tag : Byte) (b : Bay) (dataBits stopBits flush idle threshold : Byte) (cts loopback detect custom : Bool) (l : Line),
    takesRequest tag s → l = (s.slice b).line → l.tx ≠ .idle → l.ctsRef = (if loopback then l.rts else l.conCts) →
    ∀ parity policy window : Byte, parity.toNat ≤ 2 → policy = 1 ∨ policy = 2 → window.toNat ≤ 2 →
    ∀ c : LineConfig, c =
      { framing := ⟨max 5 (min dataBits.toNat 8), if parity = 0 then .none else if parity = 1 then .even else .odd,
          max 1 (min stopBits.toNat 2)⟩
        flushThreshold := max 1 (min flush.toNat 240)
        idleFlush := max 1 (min idle.toNat 15)
        ctsHonour := cts, loopback := loopback, detectOnPowerOn := detect
        loopPolicy := if policy = 1 then .track else .hold
        customRate := custom
        window := if window = 0 then .w256 else if window = 1 then .w1024 else .w4096
        errorThreshold := threshold.toNat } →
    exec (.lineSet tag (bayByte b) ⟨dataBits, parity, stopBits, flush, idle, onOffByte cts, onOffByte loopback, onOffByte detect, policy,
        onOffByte custom, window, threshold⟩) s =
      .next (replied 0x88 tag
        ([0] ++ le1 (max 5 (min dataBits.toNat 8)) ++ [parity] ++ le1 (max 1 (min stopBits.toNat 2)) ++ le1 (max 1 (min flush.toNat 240)) ++
          le1 (max 1 (min idle.toNat 15)) ++ bit cts ++ bit loopback ++ bit detect ++ [policy] ++ bit custom ++ [window, threshold])
        (s.withLine b (if loopback = l.config.loopback then { l with config := c }
          else { l with config := c, receiver := .waitHigh, lowPeriod := none, looped := none })))

/-- While an element is in flight SEND, BREAK and RTS only append: SEND as many of its bytes as fit, with the drain mark set to its option;
BREAK (0 clamped to 1) and RTS one element, or BUSY where the queue is full. The reply carries the bytes accepted and the free space left
(R8, R13, R14, R15). On an idle line with an empty queue and CTS honour off an element starts as it joins: the first byte of a SEND is in
flight and the rest wait; a BREAK is in its low time; an RTS element sets the RTS output, in loopback with the CTS level that follows it,
and completes (R9, R11, R12, R13, R15, R18). BREAK and RTS report the free space the request leaves behind, 256 here (R167); SEND reports
the one left after its append and before the start, which is the model's reading of R13 (log entry 9). In loopback the internal signal takes
what the element drives (R19; log entry 19). -/
def Obligations.ElementsJoinTheTransmitQueue : Prop :=
  (∀ (s : State) (tag : Byte) (b : Bay), takesRequest tag s → (s.slice b).line.tx ≠ .idle →
    (∀ (drain : Bool) (bytes : List Byte), 1 ≤ bytes.length → bytes.length ≤ 240 →
      exec (.send tag (bayByte b) (onOffByte drain) bytes) s =
        .next (replied 0x89 tag
          ([0] ++ le1 (min (256 - (s.slice b).line.queue.length) bytes.length) ++
            le2 (256 - (s.slice b).line.queue.length - min (256 - (s.slice b).line.queue.length) bytes.length))
          (s.withLine b { (s.slice b).line with
            queue := (s.slice b).line.queue ++ (bytes.take (256 - (s.slice b).line.queue.length)).map TxElement.data
            drainMark := drain }))) ∧
    (∀ (drain : Byte) (bytes : List Byte), bytes.length = 0 ∨ 240 < bytes.length → drain.toNat ≤ 1 →
      exec (.send tag (bayByte b) drain bytes) s = .next (replied 0x89 tag [1] s)) ∧
    (∀ (duration : Byte), (s.slice b).line.queue.length < 256 →
      exec (.sendBreak tag (bayByte b) duration) s =
        .next (replied 0x8A tag ([0] ++ le2 (255 - (s.slice b).line.queue.length))
          (s.withLine b { (s.slice b).line with queue := (s.slice b).line.queue ++ [TxElement.brk (max 1 duration.toNat)] }))) ∧
    (∀ (level : Bool), (s.slice b).line.queue.length < 256 →
      exec (.rts tag (bayByte b) (onOffByte level)) s =
        .next (replied 0x8B tag ([0] ++ le2 (255 - (s.slice b).line.queue.length))
          (s.withLine b { (s.slice b).line with queue := (s.slice b).line.queue ++ [TxElement.rts level] }))) ∧
    (256 ≤ (s.slice b).line.queue.length →
      (∀ duration, exec (.sendBreak tag (bayByte b) duration) s = .next (replied 0x8A tag [4] s)) ∧
      ∀ level, exec (.rts tag (bayByte b) (onOffByte level)) s = .next (replied 0x8B tag [4] s))) ∧
  (∀ (s : State) (tag : Byte) (b : Bay) (l : Line), takesRequest tag s → l = (s.slice b).line → l.tx = .idle → l.queue = [] →
    l.config.ctsHonour = false →
    (∀ (drain : Bool) (v : Byte) (rest : List Byte), rest.length ≤ 239 →
      exec (.send tag (bayByte b) (onOffByte drain) (v :: rest)) s =
        .next (replied 0x89 tag ([0] ++ le1 (rest.length + 1) ++ le2 (255 - rest.length))
          (s.withLine b { l with
            queue := rest.map TxElement.data, drainMark := drain
            tx := .character (l.config.framing.frame v) l.rate.divisor
            looped := if l.config.loopback then some ((l.config.framing.frame v).map fun x => ⟨x, l.rate.divisor⟩) else none }))) ∧
    (∀ (duration : Byte),
      exec (.sendBreak tag (bayByte b) duration) s =
        .next (replied 0x8A tag ([0] ++ le2 256)
          (s.withLine b { l with
            tx := .breakLow (max 1 duration.toNat) l.rate.divisor
            looped := if l.config.loopback then some [⟨false, max 1 duration.toNat * 480000⟩, ⟨true, l.rate.divisor⟩] else none }))) ∧
    (∀ (level : Bool), l.drainMark = false →
      (l.config.loopback = false → l.ctsRef = l.conCts →
        exec (.rts tag (bayByte b) (onOffByte level)) s = .next (replied 0x8B tag ([0] ++ le2 256) (s.withLine b { l with rts := level }))) ∧
      (l.config.loopback = true → l.ctsRef = !level →
        exec (.rts tag (bayByte b) (onOffByte level)) s =
          .next (replied 0x8B tag ([0] ++ le2 256) (setFlag b .ctsChanged (s.withLine b { l with rts := level, ctsRef := level }))))))

/-- An element that completes starts the next one: the frame of a DATA element has its start bit, the data bits least significant first, the
parity bit if any and its stop bits, timed by the B in force (R2, R9, R10); a BREAK element drives its low time (R11); the low time of a
BREAK is followed by its recovery bit (R11); and with the queue empty and the drain mark set TX_DRAINED is flagged and the mark cleared
(R17). In loopback the internal signal takes what the element drives (R19; log entry 19). A change of the CON_CTS pin with loopback off
flags CTS_CHANGED and becomes the reference; with CTS honour on, its assertion lets an idle transmitter start the head of the queue (R9,
R18). -/
def Obligations.TransmitterMovesOn : Prop :=
  (∀ (s : State) (b : Bay),
    (∀ bits n v rest frame, (s.slice b).line.tx = .character bits n → (s.slice b).line.config.ctsHonour = false →
      (s.slice b).line.queue = .data v :: rest →
      frame = false :: ((List.range (s.slice b).line.config.framing.dataBits).map fun i => v.getLsbD i) ++
        (match (s.slice b).line.config.framing.parity with
          | .none => []
          | .even => [(((List.range (s.slice b).line.config.framing.dataBits).map fun i => v.getLsbD i).count true) % 2 = 1]
          | .odd => [(((List.range (s.slice b).line.config.framing.dataBits).map fun i => v.getLsbD i).count true) % 2 = 0]) ++
        List.replicate (s.slice b).line.config.framing.stopBits true →
      exec (.txElementComplete b) s = .next (s.withLine b { (s.slice b).line with
        queue := rest
        tx := .character frame (s.slice b).line.rate.divisor
        looped := if (s.slice b).line.config.loopback then some (frame.map fun x => ⟨x, (s.slice b).line.rate.divisor⟩) else none })) ∧
    (∀ d n e rest, (s.slice b).line.tx = .breakRecovery d n → (s.slice b).line.config.ctsHonour = false →
      (s.slice b).line.queue = .brk e :: rest →
      exec (.txElementComplete b) s = .next (s.withLine b { (s.slice b).line with
        queue := rest, tx := .breakLow e (s.slice b).line.rate.divisor
        looped := if (s.slice b).line.config.loopback then some [⟨false, e * 480000⟩, ⟨true, (s.slice b).line.rate.divisor⟩] else none })) ∧
    (∀ bits n, (s.slice b).line.tx = .character bits n → (s.slice b).line.queue = [] → (s.slice b).line.drainMark = true →
      exec (.txElementComplete b) s = .next (setFlag b .txDrained (s.withLine b { (s.slice b).line with
        tx := .idle, looped := some [], drainMark := false }))) ∧
    (∀ d n, (s.slice b).line.tx = .breakLow d n →
      exec (.txBreakLowEnd b) s = .next (s.withLine b { (s.slice b).line with tx := .breakRecovery d n }))) ∧
  (∀ (s : State) (b : Bay) (level : Bool), (s.slice b).line.config.loopback = false → (s.slice b).line.ctsRef = !level →
    ((s.slice b).line.tx ≠ .idle →
      exec (.ctsChange b level) s =
        .next (setFlag b .ctsChanged (s.withLine b { (s.slice b).line with conCts := level, ctsRef := level }))) ∧
    (∀ v rest, level = true → (s.slice b).line.tx = .idle → (s.slice b).line.queue = .data v :: rest →
      exec (.ctsChange b level) s =
        .next (setFlag b .ctsChanged (s.withLine b { (s.slice b).line with
          conCts := level, ctsRef := level, queue := rest
          tx := .character ((s.slice b).line.config.framing.frame v) (s.slice b).line.rate.divisor
          looped := none }))))

/-- A falling edge of the pin, with loopback off and the line RUNNING: the receiver in HUNT enters FRAME with the framing and the divisor in
force, and the edge timer starts its count with the character time (R3, R23, R26). A start-bit sample that is high returns the receiver to
HUNT (R3). A character's data bits up to the line's count become the value, bits above it 0; a first stop bit sampled high makes it DATA, or
PARITY where the parity bit is wrong, and returns the receiver to HUNT; a low one makes it FRAMING whatever its parity, with the receiver in
HOLD_LOW (R3, R4). A low stop bit within the character's own low period defers the entry to the rise (R5). An entry handed on joins the ring
of its line, over the oldest entry where the ring is full, whose number a cursor standing there and the gap follow; the idle-flush timer
restarts (R6, R46, R55). On a line whose ring is not full, with no matcher pattern, the monitor DISABLED and the quality window far from its
end, the ring, the idle-flush timer and the window's counts change, and nothing else (R36). With loopback on the pin is not observed, and
the receive side hears the transmitter: the internal signal falls only where the element in flight drives low, the low period is the low
time it drives, and the character received is the one sent, whatever levels the events carry (R19; how the events bring it is log entry 19).
-/
def Obligations.CharactersAreReceived : Prop :=
  (∀ (s : State) (b : Bay),
    ((s.slice b).line.config.loopback = false → (s.slice b).line.conRx = true → (s.slice b).line.rate.detection = none →
      (s.slice b).line.receiver = .hunt →
      exec (.startEdge b false) s = .next (s.withLine b { (s.slice b).line with
        conRx := false
        receiver := .frame (s.slice b).line.config.framing (s.slice b).line.rate.divisor []
        lowPeriod := some
          ⟨(1 + (s.slice b).line.config.framing.dataBits + (if (s.slice b).line.config.framing.parity = .none then 0 else 1) +
              (s.slice b).line.config.framing.stopBits) * (s.slice b).line.rate.divisor, true, none⟩ })) ∧
    ∀ f n, (s.slice b).line.receiver = .frame f n [] →
      exec (.falseStart b) s = .next (s.withLine b { (s.slice b).line with receiver := .hunt })) ∧
  (∀ (s : State) (b : Bay) (f : Framing) (n : Nat) (data : Byte) (parity : Bool), (s.slice b).line.receiver = .frame f n [] →
    (f.parity = .none → f.dataBits = 8 →
      (s.slice b).history.entries.length < (s.slice b).history.pages * 1024 →
      (s.slice b).heartbeat = {} → (s.slice b).responder.armed = none → (s.slice b).monitor.state = .disabled →
      (s.slice b).line.rate.window.characters + 1 < 256 →
      exec (.characterReceived b data parity true) s = .next (s.withSlice b { s.slice b with
        line := { (s.slice b).line with
          receiver := .hunt
          rate := { (s.slice b).line.rate with window :=
            { (s.slice b).line.rate.window with characters := (s.slice b).line.rate.window.characters + 1 } } }
        history := { (s.slice b).history with
          entries := (s.slice b).history.entries ++ [⟨.data, data⟩]
          next := (s.slice b).history.next + 1
          idleExpired := false } })) ∧
    (∀ low, (s.slice b).line.lowPeriod = some low → low.ownStart = true →
      exec (.characterReceived b data parity false) s = .next (s.withLine b { (s.slice b).line with receiver := .holdLow true })) ∧
    ∀ (v : Byte) (right : Bool), f.dataBits ≤ 8 →
      (∀ i, i < 8 → v.getLsbD i = (decide (i < f.dataBits) && data.getLsbD i)) →
      right = (match f.parity with
        | .none => true
        | .even => decide (((List.range f.dataBits).map fun i => data.getLsbD i).count true % 2 = if parity then 1 else 0)
        | .odd => decide (((List.range f.dataBits).map fun i => data.getLsbD i).count true % 2 = if parity then 0 else 1)) →
      exec (.characterReceived b data parity true) s =
        .next (handEntry b ⟨if right then .data else .parity, v⟩ (s.withLine b { (s.slice b).line with receiver := .hunt })) ∧
      ((∀ low, (s.slice b).line.lowPeriod = some low → low.ownStart = false) →
        exec (.characterReceived b data parity false) s =
          .next (handEntry b ⟨.framing, v⟩ (s.withLine b { (s.slice b).line with receiver := .holdLow false })))) ∧
  (∀ (s : State) (b : Bay) (e : HistoryEntry) (h : History) (full : Bool), h = (s.slice b).history →
    full = decide (h.pages * 1024 ≤ h.entries.length) →
    ((handEntry b e s).slice b).history = { h with
      entries := (if full then h.entries.drop 1 else h.entries) ++ [e]
      next := h.next + 1
      idleExpired := false
      stream := if full then h.stream.map fun st =>
          if st.cursor = h.next - BitVec.ofNat 32 h.entries.length then
            { st with cursor := st.cursor + 1, gap := min (st.gap + 1) 4294967295 } else st
        else h.stream }) ∧
  ∀ (s : State) (b : Bay) (l : Line), l = (s.slice b).line → l.config.loopback = true →
    exec (.startEdge b false) s = .next (s.withLine b { l with conRx := false }) ∧
    (∀ xs fallen : List Span, l.lowPeriod = none → l.looped = some xs → fallen = xs.dropWhile (fun x => x.high) →
      (fallen = [] → exec (.startEdge b true) s = .next s) ∧
      (fallen ≠ [] → l.rate.detection = none → l.receiver = .hunt →
        exec (.startEdge b true) s = .next (s.withLine b { l with
          receiver := .frame l.config.framing l.rate.divisor fallen
          lowPeriod := some
            ⟨(1 + l.config.framing.dataBits + (if l.config.framing.parity = .none then 0 else 1) + l.config.framing.stopBits) *
              l.rate.divisor, true, some ((fallen.takeWhile fun x => !x.high).map Span.clocks).sum⟩
          looped := some (fallen.dropWhile fun x => !x.high) }))) ∧
    ∀ (f : Framing) (n : Nat) (sent v data : Byte) (parity stop : Bool), 32 ≤ n → f.dataBits ≤ 8 → 1 ≤ f.stopBits →
      l.receiver = .frame f n ((f.frame sent).map fun x => ⟨x, n⟩) →
      (∀ i, i < 8 → v.getLsbD i = (decide (i < f.dataBits) && sent.getLsbD i)) →
      exec (.characterReceived b data parity stop) s = .next (handEntry b ⟨.data, v⟩ (s.withLine b { l with receiver := .hunt })) ∧
      exec (.falseStart b) s = .next s

/-- The end of a low period on a RUNNING line in MANUAL, loopback off, with the receiver in HOLD_LOW: the receiver returns to HUNT. A low
period longer than the character time is one BREAK entry of floor(L / C), at most 255; one no longer leaves no entry where no character was
deferred (R5, R26), here with no consumer that acts on it. On every RUNNING line, in loopback too: the low period is handed to tracking
(R26) and judged; a break is a BREAK entry, a deferred character whose low period is no break a FRAMING entry of value 0, and nothing else
an entry (R5). The edge timer counts up to 16,777,215 (R26), in loopback the low time the transmitter drove (R19; log entry 19). Tracking
comes before the judgement (log entry 21). An edge of the signal that is not observed is no end of a low period (R19). Tracking discards a
pulse in MANUAL, a break and one of no or more than 10 whole bits, counts one whose residual exceeds B / 4 as rejected, and otherwise in
HOLD changes nothing (R32, R35); in TRACK it adds the residual to A and steps B by 1 for each 256, up to the bounds of B_lock, where A
saturates and RATE_DRIFT is flagged once (R33, R34). -/
def Obligations.LowPulseIsJudged : Prop :=
  (∀ (s : State) (b : Bay) (length : Nat) (low : LowPeriod),
    (s.slice b).line.config.loopback = false → (s.slice b).line.conRx = false → (s.slice b).line.rate.detection = none →
    (s.slice b).line.rate.mode = .manual → (s.slice b).line.lowPeriod = some low → low.length = none →
    (length ≤ low.charTime → length ≤ 16777215 → (s.slice b).line.receiver = .holdLow false →
      exec (.lowPulseEnd b false length) s = .next (s.withLine b { (s.slice b).line with
        conRx := true, lowPeriod := none, receiver := .hunt })) ∧
    (low.charTime < length → length ≤ 16777215 → (s.slice b).line.receiver = .holdLow true →
      (s.slice b).history.entries.length < (s.slice b).history.pages * 1024 →
      (s.slice b).heartbeat = {} → (s.slice b).responder.armed = none →
      (s.slice b).line.rate.window.characters < 256 → (s.slice b).line.rate.window.breaks < 65535 →
      exec (.lowPulseEnd b false length) s = .next (s.withSlice b { s.slice b with
        line := { (s.slice b).line with
          conRx := true, lowPeriod := none, receiver := .hunt
          rate := { (s.slice b).line.rate with window :=
            { (s.slice b).line.rate.window with breaks := (s.slice b).line.rate.window.breaks + 1 } } }
        history := { (s.slice b).history with
          entries := (s.slice b).history.entries ++ [⟨.brk, BitVec.ofNat 8 (min (length / low.charTime) 255)⟩]
          next := (s.slice b).history.next + 1
          idleExpired := false } }))) ∧
  (∀ (s : State) (b : Bay) (internal : Bool) (length : Nat) (l : Line), l = (s.slice b).line →
    (internal ≠ l.config.loopback →
      exec (.lowPulseEnd b internal length) s = .next (if internal then s else s.withLine b { l with conRx := true })) ∧
    ∀ (low : LowPeriod) (len : Nat) (u : State), internal = l.config.loopback → (internal = false → l.conRx = false) →
      l.rate.detection = none → l.lowPeriod = some low → len = min (low.length.getD length) 16777215 →
      u = trackingPulse b len low.charTime (s.withLine b { l with
        conRx := if internal then l.conRx else true
        lowPeriod := none
        receiver := match l.receiver with
          | .frame f n heard => .frame f n heard
          | _ => .hunt }) →
      exec (.lowPulseEnd b internal length) s = .next
        (if low.charTime < len then handEntry b ⟨.brk, BitVec.ofNat 8 (min (len / low.charTime) 255)⟩ u
          else if l.receiver = .holdLow true then handEntry b ⟨.framing, 0⟩ u else u)) ∧
  ∀ (s : State) (b : Bay) (len charTime k lo hi : Nat) (e : Int) (r : RateUnit), r = (s.slice b).line.rate → r.Wf →
    lo = max 32 (r.lock - r.lock / 32) → hi = min 1048575 (r.lock + r.lock / 32) →
    k = (2 * len + r.divisor) / (2 * r.divisor) → e = (len : Int) - (k : Int) * (r.divisor : Int) →
    (r.mode = .manual ∨ charTime < len ∨ k = 0 ∨ 10 < k → trackingPulse b len charTime s = s) ∧
    (r.mode ≠ .manual → len ≤ charTime → 1 ≤ k → k ≤ 10 →
      (r.divisor / 4 < e.natAbs →
        trackingPulse b len charTime s = s.withRate b { r with rejected := min (r.rejected + 1) 65535 }) ∧
      (e.natAbs ≤ r.divisor / 4 → r.mode = .hold → trackingPulse b len charTime s = s) ∧
      (e.natAbs ≤ r.divisor / 4 → r.mode = .track → ∀ (a : Int) (m : Nat), a = r.acc + e → m = a.natAbs / 256 →
        (0 ≤ a → r.divisor + m ≤ hi → trackingPulse b len charTime s =
          s.withRate b { r with divisor := r.divisor + m, acc := a - 256 * m, drift := if m = 0 then r.drift else .none }) ∧
        (0 ≤ a → hi < r.divisor + m → ∀ u, u = s.withRate b { r with divisor := hi, acc := 255, drift := .upper } →
          trackingPulse b len charTime s = if r.drift = .upper then u else setFlag b .rateDrift u) ∧
        (a < 0 → lo + m ≤ r.divisor → trackingPulse b len charTime s =
          s.withRate b { r with divisor := r.divisor - m, acc := a + 256 * m, drift := if m = 0 then r.drift else .none }) ∧
        (a < 0 → r.divisor < lo + m → ∀ u, u = s.withRate b { r with divisor := lo, acc := -255, drift := .lower } →
          trackingPulse b len charTime s = if r.drift = .lower then u else setFlag b .rateDrift u)))

/-! ## Rate unit -/

/-- RATE_SET with a divisor clamps it to 32..1,048,575 and sets index 255; with a table index up to 10 it sets the entry's B_nom; an index
above 10 is refused with RANGE. B, B_lock, the index, A, the drift mark and the mode MANUAL are set, and the reply carries B, the index and
the reported rate (R38), here on a RUNNING line. RATE_SET on a DETECTING line cancels the detection: the line is RUNNING, the receiver in
WAIT_HIGH, the low period discarded, and the record CANCELLED with the q and c reached; no flag is set (R38), here with no W_min yet. -/
def Obligations.RateSetSetsTheRateInForce : Prop :=
  (∀ (s : State) (tag : Byte) (b : Bay) (value : BitVec 32), takesRequest tag s → (s.slice b).line.rate.detection = none →
    (exec (.rateSet tag (bayByte b) 1 value) s =
      .next (replied 0x90 tag
        ([0] ++ le4 (max 32 (min value.toNat 1048575)) ++ [255] ++
          le4 ((2 * 48000000 + max 32 (min value.toNat 1048575)) / (2 * max 32 (min value.toNat 1048575))))
        (s.withRate b { (s.slice b).line.rate with
          divisor := max 32 (min value.toNat 1048575), lock := max 32 (min value.toNat 1048575), index := 255
          acc := 0, drift := .none, mode := .manual }))) ∧
    (∀ n, [40000, 20000, 10000, 5000, 2500, 1250, 833, 417, 208, 104, 52][value.toNat]? = some n →
      exec (.rateSet tag (bayByte b) 0 value) s =
        .next (replied 0x90 tag ([0] ++ le4 n ++ le1 value.toNat ++ le4 ((2 * 48000000 + n) / (2 * n)))
          (s.withRate b { (s.slice b).line.rate with
            divisor := n, lock := n, index := value.toNat, acc := 0, drift := .none, mode := .manual }))) ∧
    (10 < value.toNat → exec (.rateSet tag (bayByte b) 0 value) s = .next (replied 0x90 tag [2] s))) ∧
  (∀ (s : State) (tag : Byte) (b : Bay) (value : BitVec 32) (q c : Nat), takesRequest tag s →
    (s.slice b).line.rate.detection = some ⟨none, q, c⟩ →
    exec (.rateSet tag (bayByte b) 1 value) s =
      .next (replied 0x90 tag
        ([0] ++ le4 (max 32 (min value.toNat 1048575)) ++ [255] ++
          le4 ((2 * 48000000 + max 32 (min value.toNat 1048575)) / (2 * max 32 (min value.toNat 1048575))))
        (s.withLine b { (s.slice b).line with
          receiver := .waitHigh, lowPeriod := none
          rate := { (s.slice b).line.rate with
            divisor := max 32 (min value.toNat 1048575), lock := max 32 (min value.toNat 1048575), index := 255
            acc := 0, drift := .none, mode := .manual, detection := none
            record := ⟨.cancelled, none, none, none, none, some q, some c⟩ } })))

/-- RATE_MODE is refused with STATE in MANUAL or while DETECTING; otherwise the mode is set and reported, and nothing else changes; the next
lock sets the mode from the loop policy again (R39). A mode that is neither TRACK nor HOLD is refused with MALFORMED and a line above 7 with
RANGE (R167). -/
def Obligations.RateModeSetsTheMode : Prop :=
  ∀ (s : State) (tag : Byte), takesRequest tag s →
    (∀ b : Bay, (s.slice b).line.rate.mode ≠ .manual → (s.slice b).line.rate.detection = none →
      exec (.rateMode tag (bayByte b) 1) s = .next (replied 0x91 tag [0, 1] (s.withRate b { (s.slice b).line.rate with mode := .track })) ∧
      exec (.rateMode tag (bayByte b) 2) s = .next (replied 0x91 tag [0, 2] (s.withRate b { (s.slice b).line.rate with mode := .hold }))) ∧
    (∀ (b : Bay) (mode : Byte), (s.slice b).line.rate.mode = .manual ∨ (s.slice b).line.rate.detection ≠ none → mode = 1 ∨ mode = 2 →
      exec (.rateMode tag (bayByte b) mode) s = .next (replied 0x91 tag [3] s)) ∧
    (∀ line mode : Byte, mode ≠ 1 → mode ≠ 2 → exec (.rateMode tag line mode) s = .next (replied 0x91 tag [1] s)) ∧
    (∀ line mode : Byte, mode = 1 ∨ mode = 2 → 8 ≤ line.toNat → exec (.rateMode tag line mode) s = .next (replied 0x91 tag [2] s)) ∧
    ∀ (b : Bay) (w q c : Nat), 2 ≤ c → (s.slice b).line.rate.detection = some ⟨some w, q, c⟩ →
      ((s.slice b).line.config.customRate = true ∨ ∃ k n : Nat,
        [40000, 20000, 10000, 5000, 2500, 1250, 833, 417, 208, 104, 52][k]? = some n ∧ (max w n - min w n) * 1000000 / n ≤ 40000) →
      ∃ t, exec (.detectionWindowExpiry b) s = .next t ∧ (t.slice b).line.rate.detection = none ∧ (t.slice b).line.rate.mode =
        match (s.slice b).line.config.loopPolicy with
        | .track => .track
        | .hold => .hold

/-- RATE_DETECT starts or restarts a detection in every state of the line and is replied OK: W_min none, q and c 0, the receiver in
WAIT_HIGH, the low period discarded, both matchers at j = 0; B, B_lock, A, the mode and the index stand (R27, R40, R63). -/
def Obligations.RateDetectStartsADetection : Prop :=
  ∀ (s : State) (tag : Byte), takesRequest tag s →
    (∀ b : Bay, exec (.rateDetect tag (bayByte b)) s =
      .next (replied 0x92 tag [0] (s.withSlice b { s.slice b with
        line := { (s.slice b).line with
          receiver := .waitHigh, lowPeriod := none, rate := { (s.slice b).line.rate with detection := some ⟨none, 0, 0⟩ } }
        heartbeat := { (s.slice b).heartbeat with j := 0 }
        responder := { (s.slice b).responder with j := 0 } }))) ∧
    ∀ line : Byte, 8 ≤ line.toNat → exec (.rateDetect tag line) s = .next (replied 0x92 tag [2] s)

/-- The detection window's expiry with c of at least 2: the table entry nearest to W_min by d, its distance in ppm truncated, the lower
index where two share it, is found. Up to 40,000 ppm the line locks to its B_nom with its index; above, with the custom-rate allowance on,
to W_min as clamped with index 255; otherwise the detection fails and the remembered values stand. A lock sets B and B_lock, the index, A to
0, the drift mark to NONE and the mode to the loop policy; either way the receiver enters WAIT_HIGH, the record holds W_min, the nearest
entry, its d, q and c, and RATE_LOCKED or RATE_FAILED is flagged (R29, R30, R31). With c below 2 the detection fails NO_SIGNAL and
RATE_FAILED is flagged. A low pulse delivered to a DETECTING line, in loopback with the low time the transmitter drove (R19; log entry 19),
changes nothing below 32 clocks or at the edge timer's bound; otherwise q counts it, and by its length against W_min it joins the run,
starts a new one or is passed over; it is activity of ANY_OUTPUT; and with q of at least 8 and c of at least 4 the detection ends at once,
as at an expiry (R28, R71). The low period in progress at the end of a detection is discarded (R7, R26; log entry 50). -/
def Obligations.DetectionWindowEnds : Prop :=
  ∀ (s : State) (b : Bay) (l : Line) (table : List Nat) (dist : Nat → Nat → Nat), l = (s.slice b).line →
    table = [40000, 20000, 10000, 5000, 2500, 1250, 833, 417, 208, 104, 52] →
    (∀ w n, dist w n = (max w n - min w n) * 1000000 / n) →
    (∀ w q c k n d : Nat, 2 ≤ c → l.rate.detection = some ⟨some w, q, c⟩ → table[k]? = some n → d = dist w n →
      (∀ j m : Nat, table[j]? = some m → d < dist w m ∨ (d = dist w m ∧ k ≤ j)) →
      ∀ mode : Mode, mode = (match l.config.loopPolicy with | .track => .track | .hold => .hold) →
      (d ≤ 40000 →
        exec (.detectionWindowExpiry b) s = .next (setFlag b .rateLocked (s.withLine b { l with
          receiver := .waitHigh, lowPeriod := none
          rate := { l.rate with
            divisor := n, lock := n, index := k, acc := 0, drift := .none, detection := none, mode := mode
            record := ⟨.table, some k, some w, some k, some d, some q, some c⟩ } }))) ∧
      (40000 < d → l.config.customRate = true →
        exec (.detectionWindowExpiry b) s = .next (setFlag b .rateLocked (s.withLine b { l with
          receiver := .waitHigh, lowPeriod := none
          rate := { l.rate with
            divisor := max 32 (min w 1048575), lock := max 32 (min w 1048575), index := 255
            acc := 0, drift := .none, detection := none, mode := mode
            record := ⟨.custom, some 255, some w, some k, some d, some q, some c⟩ } }))) ∧
      (40000 < d → l.config.customRate = false →
        exec (.detectionWindowExpiry b) s = .next (setFlag b .rateFailed (s.withLine b { l with
          receiver := .waitHigh, lowPeriod := none
          rate := { l.rate with
            detection := none, record := ⟨.failed, none, some w, some k, some d, some q, some c⟩ } })))) ∧
    (∀ (w : Option Nat) (q c : Nat), c < 2 → l.rate.detection = some ⟨w, q, c⟩ →
      exec (.detectionWindowExpiry b) s = .next (setFlag b .rateFailed (s.withLine b { l with
        receiver := .waitHigh, lowPeriod := none
        rate := { l.rate with
          detection := none, record := ⟨.noSignal, none, none, none, none, some q, some c⟩ } }))) ∧
    ∀ (internal : Bool) (length len : Nat) (low : LowPeriod) (d e : Detection) (m : Monitor) (u : Line), internal = l.config.loopback →
      (internal = false → l.conRx = false) → l.rate.detection = some d → l.lowPeriod = some low →
      len = min (low.length.getD length) 16777215 → u = { l with conRx := if internal then l.conRx else true, lowPeriod := none } →
      m = (s.slice b).monitor →
      (len < 32 ∨ len = 16777215 → exec (.lowPulseEnd b internal length) s = .next (s.withLine b u)) ∧
      (32 ≤ len → len < 16777215 →
        (d.wMin = none → e = ⟨some len, min (d.q + 1) 65535, 1⟩) →
        (∀ w, d.wMin = some w →
          (max len w - min len w ≤ w / 8 → e = ⟨some (min w len), min (d.q + 1) 65535, min (d.c + 1) 65535⟩) ∧
          (w / 8 < max len w - min len w → len < w → e = ⟨some len, min (d.q + 1) 65535, 1⟩) ∧
          (w / 8 < max len w - min len w → w < len → e = ⟨some w, min (d.q + 1) 65535, d.c⟩)) →
        ∀ t, t = s.withSlice b { s.slice b with
            line := { u with rate := { l.rate with detection := some e } }
            monitor :=
              if m.settings.source = .anyOutput ∧ (m.state = .grace ∨ m.state = .watching ∨ m.state = .expired) then
                { m with state := .watching, timer := some m.settings.period }
              else m } →
          exec (.lowPulseEnd b internal length) s = if 8 ≤ e.q ∧ 4 ≤ e.c then exec (.detectionWindowExpiry b) t else .next t)

/-- QUALITY reports the rate unit and, with the clear option, sets the rejected-pulse counter to 0; nothing else changes. The rate is f_ref
/ B to the nearest, halves up, the deviation (B_lock - B) / B in ppm to the nearest, halves away from zero, and the fields of the detection
record each follow their presence byte (R23, R36, R41, R180). An entry appended counts in the current window; a window whose character count
reaches its size closes: its counts become the last-window record with the next number modulo 256, and QUALITY_READY is flagged (R36). With
a threshold other than 0, more parity and framing errors than it in the closed window, and a mode other than MANUAL, RATE_LOST is flagged
and a detection starts (R37). -/
def Obligations.QualityReports : Prop :=
  (∀ (s : State) (tag : Byte) (b : Bay) (clear : Bool) (r : RateUnit) (opt : Nat → (Nat → List Byte) → Option Nat → List Byte)
    (size : Nat) (dev : Int), takesRequest tag s → r = (s.slice b).line.rate →
    (∀ k enc n, opt k enc (some n) = 1 :: enc n) → (∀ k enc, opt k enc none = 0 :: List.replicate k 0) →
    size = (2 * ((max r.lock r.divisor - min r.lock r.divisor) * 1000000) + r.divisor) / (2 * r.divisor) →
    dev = (if r.lock < r.divisor then -(size : Int) else size) →
    exec (.quality tag (bayByte b) (onOffByte clear)) s =
      .next (replied 0x93 tag
        ([(0 : Byte)] ++ le4 r.divisor ++ le4 r.lock ++ le2 (r.acc % 65536).toNat ++ le1 r.index ++
          le1 (match r.mode with | .manual => 0 | .track => 1 | .hold => 2) ++ bit r.detection.isSome ++
          le4 ((2 * 48000000 + r.divisor) / (2 * r.divisor)) ++ le4 (dev % 4294967296).toNat ++ le2 r.rejected ++
          le2 r.window.characters ++ le2 r.window.parityErrors ++ le2 r.window.framingErrors ++ le2 r.window.breaks ++
          le2 r.lastWindow.characters ++ le2 r.lastWindow.parityErrors ++ le2 r.lastWindow.framingErrors ++ le2 r.lastWindow.breaks ++
          le1 r.lastNumber ++
          le1 (match r.record.result with | .none => 0 | .table => 1 | .custom => 2 | .failed => 3 | .noSignal => 4 | .cancelled => 5) ++
          opt 1 le1 r.record.lockedIndex ++ opt 4 le4 r.record.wMin ++ opt 1 le1 r.record.nearest ++ opt 4 le4 r.record.distance ++
          opt 2 le2 r.record.q ++ opt 2 le2 r.record.c)
        (s.withRate b { r with rejected := if clear then 0 else r.rejected }))) ∧
  ∀ (s t : State) (b : Bay) (e : HistoryEntry) (l : Line) (w : WindowCounts) (size : Nat) (lost : Bool), l = (s.slice b).line →
    t = handEntry b e s →
    w = { characters := if e.kind = .brk then l.rate.window.characters else min (l.rate.window.characters + 1) 65535
          parityErrors := if e.kind = .parity then min (l.rate.window.parityErrors + 1) 65535 else l.rate.window.parityErrors
          framingErrors := if e.kind = .framing then min (l.rate.window.framingErrors + 1) 65535 else l.rate.window.framingErrors
          breaks := if e.kind = .brk then min (l.rate.window.breaks + 1) 65535 else l.rate.window.breaks } →
    size = (match l.config.window with | .w256 => 256 | .w1024 => 1024 | .w4096 => 4096) →
    lost = decide (l.config.errorThreshold ≠ 0 ∧ l.config.errorThreshold < w.parityErrors + w.framingErrors ∧ l.rate.mode ≠ .manual) →
    (w.characters < size → (t.slice b).line.rate = { l.rate with window := w } ∧ t.flag b .qualityReady = s.flag b .qualityReady ∧
      t.flag b .rateLost = s.flag b .rateLost) ∧
    (size ≤ w.characters →
      (t.slice b).line.rate = { l.rate with
        window := {}, lastWindow := w, lastNumber := (l.rate.lastNumber + 1) % 256
        detection := if lost then some ⟨none, 0, 0⟩ else l.rate.detection } ∧
      t.flag b .qualityReady = true ∧ t.flag b .rateLost = (lost || s.flag b .rateLost) ∧
      (lost = true → (t.slice b).line.receiver = .waitHigh ∧ (t.slice b).line.lowPeriod = none ∧ (t.slice b).heartbeat.j = 0 ∧
        (t.slice b).responder.j = 0))

/-! ## Console history -/

/-- HISTORY_SIZE empties the ring and gives it the pages asked for, with the free pages of the pool reported; a count outside 2..64 is
refused with RANGE, and a growth past the free pages with CONFLICT (R47). HISTORY_CLEAR empties the ring and reports next (R48). An attached
stream moves to next with no gap. -/
def Obligations.RingIsResizedAndCleared : Prop :=
  ∀ (s : State) (tag : Byte) (b : Bay), takesRequest tag s →
    (∀ pages : Byte, 2 ≤ pages.toNat → pages.toNat ≤ 64 →
      (s.slices.toList.map fun x => x.history.pages).sum + pages.toNat ≤ 128 + (s.slice b).history.pages →
      ∃ t, exec (.historySize tag (bayByte b) pages) s =
          .next (replied 0x98 tag ([0] ++ [pages] ++ le1 (128 - (t.slices.toList.map fun x => x.history.pages).sum)) t) ∧
        t = s.withHistory b { (s.slice b).history with
          pages := pages.toNat, entries := []
          stream := (s.slice b).history.stream.map fun st => { st with cursor := (s.slice b).history.next, gap := 0 } }) ∧
    (∀ pages : Byte, pages.toNat < 2 ∨ 64 < pages.toNat → exec (.historySize tag (bayByte b) pages) s = .next (replied 0x98 tag [2] s)) ∧
    (∀ pages : Byte, 2 ≤ pages.toNat → pages.toNat ≤ 64 → (s.slices.toList.map fun x => x.history.pages).sum ≤ 128 →
      128 + (s.slice b).history.pages < (s.slices.toList.map fun x => x.history.pages).sum + pages.toNat →
      exec (.historySize tag (bayByte b) pages) s = .next (replied 0x98 tag [5] s)) ∧
    exec (.historyClear tag (bayByte b)) s =
      .next (replied 0x99 tag ([0] ++ le4 (s.slice b).history.next.toNat)
        (s.withHistory b { (s.slice b).history with
          entries := []
          stream := (s.slice b).history.stream.map fun st => { st with cursor := (s.slice b).history.next, gap := 0 } }))

/-- HISTORY from an entry the ring holds, or from newest + 1, reads up to the count asked for, at most 240, and changes no state: the reply
carries the start, the entries with their kinds, the number after the last one, oldest and newest (R49). A start below oldest reads from
oldest with the truncated mark set, and one above newest + 1 is refused with RANGE. -/
def Obligations.HistoryReadsTheRing : Prop :=
  ∀ (s : State) (tag : Byte) (b : Bay) (start : SeqNo) (count : Byte), takesRequest tag s →
    (((s.slice b).history.next - start).toNat ≤ (s.slice b).history.entries.length →
      ∃ es, es = ((s.slice b).history.entries.drop
            ((s.slice b).history.entries.length - ((s.slice b).history.next - start).toNat)).take (min count.toNat 240) ∧
        exec (.history tag (bayByte b) start count) s =
          .next (replied 0x9A tag
            ([0, 0] ++ le4 start.toNat ++ le1 es.length ++ (es.flatMap fun e => le1 e.kind.code ++ [e.value]) ++
              le4 (start + BitVec.ofNat 32 es.length).toNat ++
              le4 ((s.slice b).history.next - BitVec.ofNat 32 (s.slice b).history.entries.length).toNat ++
              le4 ((s.slice b).history.next - 1).toNat) s)) ∧
    ((s.slice b).history.entries.length < ((s.slice b).history.next - start).toNat →
      ((s.slice b).history.next - start).toNat ≤ 2147483648 →
      ∃ es oldest, es = (s.slice b).history.entries.take (min count.toNat 240) ∧
        oldest = (s.slice b).history.next - BitVec.ofNat 32 (s.slice b).history.entries.length ∧
        exec (.history tag (bayByte b) start count) s =
          .next (replied 0x9A tag
            ([0, 1] ++ le4 oldest.toNat ++ le1 es.length ++ (es.flatMap fun e => le1 e.kind.code ++ [e.value]) ++
              le4 (oldest + BitVec.ofNat 32 es.length).toNat ++ le4 oldest.toNat ++ le4 ((s.slice b).history.next - 1).toNat) s)) ∧
    ((s.slice b).history.entries.length < ((s.slice b).history.next - start).toNat →
      2147483648 < ((s.slice b).history.next - start).toNat →
      exec (.history tag (bayByte b) start count) s = .next (replied 0x9A tag [2] s))

/-- ATTACH at NEXT, at OLDEST and at a number the ring holds gives the line a stream there with gap 0 and the credit given; a number below
oldest attaches at oldest with the entries lost as the gap; a number above newest + 1 is refused with RANGE and an undefined form with
MALFORMED (R51). -/
def Obligations.AttachOpensAStream : Prop :=
  ∀ (s : State) (tag : Byte) (b : Bay) (start : SeqNo) (credit : BitVec 16) (h : History) (oldest : SeqNo), takesRequest tag s →
    h = (s.slice b).history → oldest = h.next - BitVec.ofNat 32 h.entries.length →
    (∀ form : Byte, ∀ cursor : SeqNo, ∀ gap : Nat,
      (form = 0 ∧ cursor = h.next ∧ gap = 0) ∨ (form = 1 ∧ cursor = oldest ∧ gap = 0) ∨
      (form = 2 ∧ (h.next - start).toNat ≤ h.entries.length ∧ cursor = start ∧ gap = 0) ∨
      (form = 2 ∧ h.entries.length < (h.next - start).toNat ∧ (h.next - start).toNat ≤ 2147483648 ∧ cursor = oldest ∧
        gap = (oldest - start).toNat) →
      exec (.attach tag (bayByte b) form start credit) s =
        .next (replied 0x9B tag
          ([0] ++ le4 cursor.toNat ++ le4 gap ++ le2 credit.toNat ++ le4 oldest.toNat ++ le4 (h.next - 1).toNat)
          (s.withHistory b { h with stream := some ⟨cursor, gap, credit.toNat⟩ }))) ∧
    (h.entries.length < (h.next - start).toNat → 2147483648 < (h.next - start).toNat →
      exec (.attach tag (bayByte b) 2 start credit) s = .next (replied 0x9B tag [2] s)) ∧
    ∀ form : Byte, 2 < form.toNat → exec (.attach tag (bayByte b) form start credit) s = .next (replied 0x9B tag [1] s)

/-- CREDIT adds to the credit of an attached line, saturating at 65,535, and is refused with STATE on a detached one (R52); DETACH leaves
the line detached and is replied OK either way, and no notice is due for it (R53); the idle-flush timer's expiry is remembered until the
next append (R55). That the expiry is taken in every state, whatever count and divisor are in force, is the model's choice (log entry 44). A
line above 7 is refused with RANGE (R167). -/
def Obligations.CreditAndDetach : Prop :=
  ∀ (s : State) (tag : Byte),
    (takesRequest tag s →
      (∀ (b : Bay) (n : BitVec 16) (st : Stream), (s.slice b).history.stream = some st →
        exec (.credit tag (bayByte b) n) s =
          .next (replied 0x9C tag ([0] ++ le2 (min (st.credit + n.toNat) 65535))
            (s.withHistory b { (s.slice b).history with
              stream := some { st with credit := min (st.credit + n.toNat) 65535 } }))) ∧
      (∀ (b : Bay) (n : BitVec 16), (s.slice b).history.stream = none →
        exec (.credit tag (bayByte b) n) s = .next (replied 0x9C tag [3] s)) ∧
      (∀ b : Bay, exec (.detach tag (bayByte b)) s =
        .next (replied 0x9D tag [0] (s.withHistory b { (s.slice b).history with stream := none }))) ∧
      ∀ line : Byte, 8 ≤ line.toNat →
        (∀ n, exec (.credit tag line n) s = .next (replied 0x9C tag [2] s)) ∧
        exec (.detach tag line) s = .next (replied 0x9D tag [2] s)) ∧
    (∀ b : Bay, (s.slice b).history.stream = none → (s.slice b).eligible = false) ∧
    ∀ b : Bay, exec (.idleFlushExpiry b) s = .next (s.withHistory b { (s.slice b).history with idleExpired := true })

/-! ## Matchers, responder and monitor -/

/-- MATCH_SET for the HEARTBEAT matcher takes a pattern of up to 16 bytes, an empty one making it absent, sets j to 0 and reports the
length; a longer pattern is refused with MALFORMED. The hang monitor is not touched (R64). MATCH_SET for the PROMPT matcher writes all five
fields, the window clamped to 1..600, and j = 0; enable off disarms, enable on keeps an arming and its expiry. A pattern or response above
16 bytes, or an empty one with enable on, is refused with MALFORMED (R65). The prompt window's expiry while the responder is armed disarms
it and flags PROMPT_MISSED; its settings stay (R69). An entry handed on steps the heartbeat matcher, and the prompt matcher while the
responder is armed (R62, R63), here where it starts no detection. A match of the armed prompt matcher disarms the responder, turns its
enable off with one-shot on, and appends the response to the transmit queue whole, with PROMPT_ANSWERED flagged, or not at all, with
PROMPT_DROPPED; on an idle line its first byte is sent at once (R9, R16, R68). -/
def Obligations.MatchersAreSetAndExpire : Prop :=
  (∀ (s : State) (tag : Byte) (b : Bay) (pattern : List Byte), takesRequest tag s →
    (pattern.length ≤ 16 → exec (.matchSetHeartbeat tag (bayByte b) pattern) s =
      .next (replied 0xA0 tag ([0] ++ le1 pattern.length) (s.withSlice b { s.slice b with heartbeat := ⟨pattern, 0⟩ }))) ∧
    (16 < pattern.length → exec (.matchSetHeartbeat tag (bayByte b) pattern) s = .next (replied 0xA0 tag [1] s))) ∧
  (∀ (s : State) (tag : Byte) (b : Bay) (enable oneShot : Bool) (window : BitVec 16) (pattern response : List Byte), takesRequest tag s →
    (pattern.length ≤ 16 → response.length ≤ 16 → (enable = true → pattern ≠ [] ∧ response ≠ []) →
      exec (.matchSetPrompt tag (bayByte b) (onOffByte enable) (onOffByte oneShot) window pattern response) s =
        .next (replied 0xA0 tag
          ([0] ++ le1 pattern.length ++ le1 response.length ++ le2 (max 1 (min window.toNat 600)) ++ bit enable ++ bit oneShot)
          (s.withSlice b { s.slice b with responder :=
            ⟨pattern, response, max 1 (min window.toNat 600), enable, oneShot,
              if enable then (s.slice b).responder.armed else none, 0⟩ }))) ∧
    (16 < pattern.length ∨ 16 < response.length ∨ (enable = true ∧ (pattern = [] ∨ response = [])) →
      exec (.matchSetPrompt tag (bayByte b) (onOffByte enable) (onOffByte oneShot) window pattern response) s =
        .next (replied 0xA0 tag [1] s))) ∧
  (∀ (s : State) (b : Bay) (n : Nat), (s.slice b).responder.armed = some n →
    exec (.promptWindowExpiry b) s = .next (setFlag b .promptMissed
      (s.withSlice b { s.slice b with responder := { (s.slice b).responder with armed := none, j := 0 } }))) ∧
  ∀ (s t : State) (b : Bay) (e : HistoryEntry) (k : Nat) (hit : Bool) (l : Line) (h : Heartbeat) (r : Responder), t = handEntry b e s →
    l = (s.slice b).line → h = (s.slice b).heartbeat → r = (s.slice b).responder →
    l.config.errorThreshold = 0 ∨ l.rate.mode = .manual ∨ l.rate.window.characters + 1 < 256 →
    (MatchTaken h.pattern h.j e k hit → (t.slice b).heartbeat = { h with j := k }) ∧
    (r.armed = none → (t.slice b).responder = r ∧ (t.slice b).line.queue = l.queue ∧ (t.slice b).line.tx = l.tx) ∧
    (r.armed ≠ none → MatchTaken r.pattern r.j e k hit →
      (hit = false → (t.slice b).responder = { r with j := k } ∧ (t.slice b).line.queue = l.queue ∧ (t.slice b).line.tx = l.tx) ∧
      (hit = true → (t.slice b).responder = { r with armed := none, j := 0, enable := r.enable && !r.oneShot } ∧
        (l.tx ≠ .idle → (t.slice b).line.drainMark = l.drainMark) ∧
        (l.tx ≠ .idle → l.queue.length + r.response.length ≤ 256 →
          (t.slice b).line.queue = l.queue ++ r.response.map TxElement.data ∧ (t.slice b).line.tx = l.tx ∧
          t.flag b .promptAnswered = true ∧ t.flag b .promptDropped = s.flag b .promptDropped) ∧
        (l.tx ≠ .idle → l.queue.length ≤ 256 → 256 < l.queue.length + r.response.length →
          (t.slice b).line.queue = l.queue ∧ (t.slice b).line.tx = l.tx ∧
          t.flag b .promptDropped = true ∧ t.flag b .promptAnswered = s.flag b .promptAnswered) ∧
        (∀ v rest, l.tx = .idle → l.queue = [] → l.config.ctsHonour = false → r.response = v :: rest → r.response.length ≤ 16 →
          (t.slice b).line.queue = rest.map TxElement.data ∧ t.flag b .promptAnswered = true ∧
          (t.slice b).line.tx = .character (l.config.framing.frame v) l.rate.divisor)))

/-- WATCH_SET writes the six settings, P at least 5, G at least 10, M at most 15, sets the count to 0 and places the monitor: DISABLED with
enable off, GRACE with the new G in ON, SUSPENDED otherwise (R70, R75). A request outstanding is withdrawn where the monitor is ACTING, and
otherwise stays outstanding and is taken as NOTIFY (R73, R94; log entry 39). The watch timer's expiry in GRACE or WATCHING flags HANG and
makes the action check: with action RESET or CYCLE and the count below M the count increases, a request for that action is handed over, in
the place of one still outstanding (log entry 39), and the monitor is ACTING; with the count at M HANG_LIMIT is flagged and the monitor
EXPIRED; with NOTIFY it is EXPIRED. The timer stays stopped (R72, R73, R75). An entry handed on is activity where the source is ANY_OUTPUT
and the entry DATA, or the source HEARTBEAT and the entry completes a match: GRACE, WATCHING and EXPIRED enter WATCHING with P. A match sets
the count to 0 in every state (R66, R71). -/
def Obligations.MonitorIsSetAndExpires : Prop :=
  (∀ (s : State) (tag : Byte) (b : Bay) (period grace : BitVec 16) (limit : Byte) (enable : Bool), takesRequest tag s →
    ∀ source action : Byte, source.toNat ≤ 1 → action.toNat ≤ 2 →
    exec (.watchSet tag (bayByte b) ⟨source, period, grace, action, limit, onOffByte enable⟩) s =
      .next (replied 0xA1 tag
        ([0, source] ++ le2 (max 5 period.toNat) ++ le2 (max 10 grace.toNat) ++ [action] ++ le1 (min limit.toNat 15) ++ bit enable ++
          [if enable then if (s.slice b).sequencer.state = .on then 2 else 1 else 0] ++ [0])
        (s.withMonitor b
          { settings :=
              { source := if source = 0 then .anyOutput else .heartbeat
                period := max 5 period.toNat
                grace := max 10 grace.toNat
                action := if action = 0 then .notify else if action = 1 then .reset else .cycle
                limit := min limit.toNat 15
                enable := enable }
            state := if enable then if (s.slice b).sequencer.state = .on then .grace else .suspended else .disabled
            timer := if enable then if (s.slice b).sequencer.state = .on then some (max 10 grace.toNat) else none else none
            count := 0
            outstanding := if (s.slice b).monitor.state = .acting then none else (s.slice b).monitor.outstanding }))) ∧
  (∀ (s : State) (b : Bay) (m : Monitor) (n : Nat), m = (s.slice b).monitor → m.timer = some n → m.state = .grace ∨ m.state = .watching →
    (m.settings.action = .reset → m.count < m.settings.limit →
      exec (.watchTimerExpiry b) s = .next ((setFlag b .hang s).withMonitor b
        { m with state := .acting, timer := none, count := m.count + 1, outstanding := some .reset })) ∧
    (m.settings.action = .cycle → m.count < m.settings.limit →
      exec (.watchTimerExpiry b) s = .next ((setFlag b .hang s).withMonitor b
        { m with state := .acting, timer := none, count := m.count + 1, outstanding := some .cycle })) ∧
    (m.settings.action ≠ .notify → m.count = m.settings.limit →
      exec (.watchTimerExpiry b) s =
        .next (setFlag b .hangLimit ((setFlag b .hang s).withMonitor b { m with state := .expired, timer := none }))) ∧
    (m.settings.action = .notify →
      exec (.watchTimerExpiry b) s = .next ((setFlag b .hang s).withMonitor b { m with state := .expired, timer := none }))) ∧
  ∀ (s : State) (b : Bay) (e : HistoryEntry) (k : Nat) (hit active : Bool) (m n : Monitor), m = (s.slice b).monitor →
    MatchTaken (s.slice b).heartbeat.pattern (s.slice b).heartbeat.j e k hit → n = { m with count := if hit then 0 else m.count } →
    active = (if m.settings.source = .anyOutput then decide (e.kind = .data) else hit) →
    ((handEntry b e s).slice b).monitor =
      if active = true ∧ (m.state = .grace ∨ m.state = .watching ∨ m.state = .expired) then
        { n with state := .watching, timer := some m.settings.period }
      else n

/-- WATCH_CLEAR sets the count to 0 and is replied OK with the monitor state, which it leaves; a bay above 7 is refused with RANGE (R76). -/
def Obligations.WatchClearClearsTheCount : Prop :=
  ∀ (s : State) (tag : Byte), takesRequest tag s →
    (∀ b : Bay, exec (.watchClear tag (bayByte b)) s =
      .next (replied 0xA2 tag ([0] ++ le1 (s.slice b).monitor.state.code) (s.withMonitor b { (s.slice b).monitor with count := 0 }))) ∧
    ∀ bay : Byte, 8 ≤ bay.toNat → exec (.watchClear tag bay) s = .next (replied 0xA2 tag [2] s)

/-! ## Power sequencer and grant queue -/

/-- POWER's entries of Table 5-4 that start a transition. The reply carries the new state and the pending-on mark, and POWER_STATE is
flagged. ON and CYCLE from OFF enter QUEUED; joining an empty queue makes a grant attempt at once, which takes the bay to POWERING, or to ON
with PGOOD seen high (R84, R103, R105, R106; the restore delay not started grants nothing, log entry 31). OFF_SOFT and OFF_HARD in QUEUED
enter OFF and leave the queue, with no loss of power; OFF_SOFT in ON enters SOFT_STOPPING with the button press timer, RESET in ON RESETTING
with the reset pulse timer. OFF_HARD in POWERING, ON, RESETTING and SOFT_STOPPING, and CYCLE in ON, enter HOLDOFF with the hold-off timer,
CYCLE with pending-on set: power is cut, RST and BTN are released, and a POWERING bay's grant released; the loss of power takes the media
link DOWN, ejects a disk whose eject-on-power-off flag is on, leaving it EMPTY or EJECT_PENDING, and disarms the responder (R98, R113, R115,
R117, R118). Each departure from ON, each loss of power and each entry into OFF leaves the monitor SUSPENDED with its timer stopped, or
DISABLED as it was (R74). CLEAR_FAULT and OFF_HARD in FAULT enter OFF (R81, R83, R85, R86, R88, R89, R90, R97, R98, R104). The last
commanded state becomes ON or OFF as the action says, and a change of it marks the bay's policy record dirty, whose write the writer starts
if IDLE; RESET and CLEAR_FAULT leave it (R82, R155, R156; log entries 33 and 46). -/
def Obligations.PowerActionsTransition : Prop :=
  ∀ (s : State) (tag : Byte) (b : Bay) (q : Sequencer), takesRequest tag s → q = (s.slice b).sequencer → q.pendingOn = false →
    (q.state = .off → s.grant.queue ≠ [] →
      ∀ i, i = Instr.powerOn tag (bayByte b) ∨ i = Instr.powerCycle tag (bayByte b) →
      ∃ t, exec i s = .next t ∧ t.link.replies = s.link.replies ++ [⟨0xA8, tag, [0, 1, 0]⟩] ∧
        (t.slice b).sequencer = { q with state := .queued, timer := none } ∧ t.grant = { s.grant with queue := s.grant.queue ++ [b] } ∧
        t.flag b .powerState = true ∧ PolicyStore.Commanded true b s.policy t.policy) ∧
    (q.state = .off → s.grant.queue = [] →
      ∀ i, i = Instr.powerOn tag (bayByte b) ∨ i = Instr.powerCycle tag (bayByte b) → ∀ w, w = min q.settings.weight s.grant.budget →
      ∃ t, exec i s = .next t ∧ t.flag b .powerState = true ∧ PolicyStore.Commanded true b s.policy t.policy ∧
        (s.grant.sag = true ∨ s.grant.timer ≠ .ended ∨ s.grant.budget < s.grant.sum + w →
          t.link.replies = s.link.replies ++ [⟨0xA8, tag, [0, 1, 0]⟩] ∧ (t.slice b).sequencer = { q with state := .queued, timer := none } ∧
          t.grant = { s.grant with queue := [b] }) ∧
        (s.grant.sag = false → s.grant.timer = .ended → s.grant.sum + w ≤ s.grant.budget →
          (q.pgood = false →
            t.link.replies = s.link.replies ++ [⟨0xA8, tag, [0, 2, 0]⟩] ∧
            (t.slice b).sequencer = { q with state := .powering, timer := some (.powerGood, q.settings.powerGood) } ∧
            t.grant = { s.grant with granted := s.grant.granted.set b (some w) }) ∧
          (q.pgood = true →
            t.link.replies = s.link.replies ++ [⟨0xA8, tag, [0, 3, 0]⟩] ∧
            (t.slice b).sequencer = { q with state := .on, timer := none } ∧
            t.grant = { s.grant with granted := s.grant.granted.set b none }))) ∧
    (q.state = .queued →
      ∀ i, i = Instr.powerOffSoft tag (bayByte b) ∨ i = Instr.powerOffHard tag (bayByte b) →
      ∃ t, exec i s = .next t ∧ t.link.replies = s.link.replies ++ [⟨0xA8, tag, [0, 0, 0]⟩] ∧
        (t.slice b).sequencer = { q with state := .off, timer := none } ∧ b ∉ t.grant.queue ∧
        (s.grant.queue.head? ≠ some b → t.grant = { s.grant with queue := s.grant.queue.filter fun c => c ≠ b }) ∧
        (t.slice b).port = (s.slice b).port ∧ (t.slice b).medium = (s.slice b).medium ∧ (t.slice b).responder = (s.slice b).responder ∧
        Monitor.Departed (s.slice b).monitor (t.slice b).monitor ∧ t.flag b .powerState = true ∧
        PolicyStore.Commanded false b s.policy t.policy) ∧
    (q.state = .on →
      (∃ t, exec (.powerOffSoft tag (bayByte b)) s = .next t ∧ t.link.replies = s.link.replies ++ [⟨0xA8, tag, [0, 5, 0]⟩] ∧
        (t.slice b).sequencer.state = .softStopping ∧ (t.slice b).sequencer.timer = some (.buttonPress, q.settings.button) ∧
        (t.slice b).sequencer.btn = true ∧ (t.slice b).sequencer.pwrEn = true ∧ (t.slice b).sequencer.btnSeen = q.btnSeen ∧
        (t.slice b).responder.armed = none ∧ (t.slice b).port = (s.slice b).port ∧ (t.slice b).medium = (s.slice b).medium ∧
        Monitor.Departed (s.slice b).monitor (t.slice b).monitor ∧ t.grant = s.grant ∧ t.flag b .powerState = true ∧
        PolicyStore.Commanded false b s.policy t.policy) ∧
      ∃ t, exec (.powerReset tag (bayByte b)) s = .next t ∧ t.link.replies = s.link.replies ++ [⟨0xA8, tag, [0, 4, 0]⟩] ∧
        (t.slice b).sequencer = { q with state := .resetting, timer := some (.resetPulse, q.settings.resetPulse) } ∧
        (t.slice b).sequencer.rst = true ∧ (t.slice b).sequencer.pwrEn = true ∧ (t.slice b).responder.armed = none ∧
        (t.slice b).port = (s.slice b).port ∧ (t.slice b).medium = (s.slice b).medium ∧
        Monitor.Departed (s.slice b).monitor (t.slice b).monitor ∧ t.grant = s.grant ∧ t.flag b .powerState = true ∧
        t.policy = s.policy) ∧
    (∀ (i : Instr) (pending on : Bool),
      (i = .powerOffHard tag (bayByte b) ∧ pending = false ∧ on = false ∧
        (q.state = .powering ∨ q.state = .on ∨ q.state = .resetting ∨ q.state = .softStopping)) ∨
      (i = .powerCycle tag (bayByte b) ∧ pending = true ∧ on = true ∧ q.state = .on) → b ∉ s.grant.queue →
      ∃ t, exec i s = .next t ∧ t.link.replies = s.link.replies ++ [⟨0xA8, tag, [0, 6, if pending then 1 else 0]⟩] ∧
        (t.slice b).sequencer.state = .holdOff ∧ (t.slice b).sequencer.timer = some (.holdOff, q.settings.holdOff) ∧
        (t.slice b).sequencer.pendingOn = pending ∧ (t.slice b).sequencer.pwrEn = false ∧ (t.slice b).sequencer.rst = false ∧
        (t.slice b).sequencer.btn = false ∧ (t.slice b).sequencer.settings = q.settings ∧ (t.slice b).sequencer.fault = q.fault ∧
        (t.slice b).port.up = false ∧ PowerLost b s t ∧ Monitor.Departed (s.slice b).monitor (t.slice b).monitor ∧
        (q.state ≠ .powering → t.grant = s.grant) ∧
        (q.state = .powering → s.grant.queue = [] → t.grant = { s.grant with granted := s.grant.granted.set b none }) ∧
        t.grant.granted.get b = (if q.state = .powering then none else s.grant.granted.get b) ∧
        t.flag b .powerState = true ∧ PolicyStore.Commanded on b s.policy t.policy) ∧
    (q.state = .fault →
      (∃ t, exec (.powerClearFault tag (bayByte b)) s = .next t ∧ t.link.replies = s.link.replies ++ [⟨0xA8, tag, [0, 0, 0]⟩] ∧
        (t.slice b).sequencer = { q with state := .off, timer := none } ∧ Monitor.Departed (s.slice b).monitor (t.slice b).monitor ∧
        t.flag b .powerState = true ∧ t.policy = s.policy) ∧
      ∃ t, exec (.powerOffHard tag (bayByte b)) s = .next t ∧ t.link.replies = s.link.replies ++ [⟨0xA8, tag, [0, 0, 0]⟩] ∧
        (t.slice b).sequencer = { q with state := .off, timer := none } ∧ Monitor.Departed (s.slice b).monitor (t.slice b).monitor ∧
        t.grant = s.grant ∧ t.flag b .powerState = true ∧ PolicyStore.Commanded false b s.policy t.policy)

/-- POWER's entries of Table 5-4 that refuse, each of which changes no state beyond its reply, and its entries OK, no change and pending-on:
the reply carries the state and the pending-on mark, and the last commanded state becomes ON or OFF as the action says (R81, R82, R89).
Where that changes it, the bay's policy record is dirty, and the writer, if IDLE, starts its write (R155, R156; log entries 33 and 46). -/
def Obligations.PowerActionsWithoutTransition : Prop :=
  ∀ (s : State) (tag : Byte) (b : Bay), takesRequest tag s →
    ((s.slice b).sequencer.state = .resetting ∨ (s.slice b).sequencer.state = .softStopping →
      exec (.powerOn tag (bayByte b)) s = .next (replied 0xA8 tag [4] s) ∧
      exec (.powerCycle tag (bayByte b)) s = .next (replied 0xA8 tag [4] s) ∧
      exec (.powerReset tag (bayByte b)) s = .next (replied 0xA8 tag [4] s)) ∧
    ((s.slice b).sequencer.state = .powering →
      exec (.powerOffSoft tag (bayByte b)) s = .next (replied 0xA8 tag [4] s) ∧
      exec (.powerCycle tag (bayByte b)) s = .next (replied 0xA8 tag [4] s) ∧
      exec (.powerReset tag (bayByte b)) s = .next (replied 0xA8 tag [4] s)) ∧
    ((s.slice b).sequencer.state = .resetting → exec (.powerOffSoft tag (bayByte b)) s = .next (replied 0xA8 tag [4] s)) ∧
    ((s.slice b).sequencer.state = .off ∨ (s.slice b).sequencer.state = .queued ∨ (s.slice b).sequencer.state = .holdOff →
      exec (.powerReset tag (bayByte b)) s = .next (replied 0xA8 tag [3] s)) ∧
    ((s.slice b).sequencer.state ≠ .fault → exec (.powerClearFault tag (bayByte b)) s = .next (replied 0xA8 tag [3] s)) ∧
    ((s.slice b).sequencer.state = .fault →
      exec (.powerOn tag (bayByte b)) s = .next (replied 0xA8 tag [9] s) ∧
      exec (.powerOffSoft tag (bayByte b)) s = .next (replied 0xA8 tag [9] s) ∧
      exec (.powerCycle tag (bayByte b)) s = .next (replied 0xA8 tag [9] s) ∧
      exec (.powerReset tag (bayByte b)) s = .next (replied 0xA8 tag [9] s)) ∧
    ((s.slice b).sequencer.state = .queued ∨ (s.slice b).sequencer.state = .powering ∨ (s.slice b).sequencer.state = .on →
      ∃ p, PolicyStore.Commanded true b s.policy p ∧
        exec (.powerOn tag (bayByte b)) s = .next (replied 0xA8 tag
          ([0] ++ le1 (s.slice b).sequencer.state.code ++ bit (s.slice b).sequencer.pendingOn) (s.withPolicy p))) ∧
    ((s.slice b).sequencer.state = .queued → exec (.powerCycle tag (bayByte b)) s = exec (.powerOn tag (bayByte b)) s) ∧
    ((s.slice b).sequencer.state = .off ∨ (s.slice b).sequencer.state = .softStopping →
      ∃ p, PolicyStore.Commanded false b s.policy p ∧
        exec (.powerOffSoft tag (bayByte b)) s = .next (replied 0xA8 tag
          ([0] ++ le1 (s.slice b).sequencer.state.code ++ bit (s.slice b).sequencer.pendingOn) (s.withPolicy p))) ∧
    ((s.slice b).sequencer.state = .off → exec (.powerOffHard tag (bayByte b)) s = exec (.powerOffSoft tag (bayByte b)) s) ∧
    ((s.slice b).sequencer.state = .holdOff →
      (∃ p, PolicyStore.Commanded true b s.policy p ∧
        exec (.powerOn tag (bayByte b)) s =
          .next (replied 0xA8 tag [0, 6, 1] ((s.withSeq b { (s.slice b).sequencer with pendingOn := true }).withPolicy p)) ∧
        exec (.powerCycle tag (bayByte b)) s = exec (.powerOn tag (bayByte b)) s) ∧
      ∃ p, PolicyStore.Commanded false b s.policy p ∧
        exec (.powerOffSoft tag (bayByte b)) s =
          .next (replied 0xA8 tag [0, 6, 0] ((s.withSeq b { (s.slice b).sequencer with pendingOn := false }).withPolicy p)) ∧
        exec (.powerOffHard tag (bayByte b)) s = exec (.powerOffSoft tag (bayByte b)) s)

/-- POWER_SET writes the six settings, each clamped to its range, and reports them as written; a running timer keeps its expiry. In QUEUED
and POWERING a weight other than the one in force refuses the whole request with STATE (R80). -/
def Obligations.PowerSetWritesTheSettings : Prop :=
  ∀ (s : State) (tag : Byte) (b : Bay) (f : PowerFields), takesRequest tag s →
    ((s.slice b).sequencer.state ≠ .queued ∧ (s.slice b).sequencer.state ≠ .powering ∨
        max 1 (min f.weight.toNat 15) = (s.slice b).sequencer.settings.weight →
      exec (.powerSet tag (bayByte b) f) s =
        .next (replied 0xA9 tag
          ([0] ++ le1 (max 1 (min f.powerGood.toNat 255)) ++ le1 (max 1 (min f.softStop.toNat 255)) ++
            le1 (max 1 (min f.holdOff.toNat 60)) ++ le1 (max 1 (min f.resetPulse.toNat 255)) ++
            le1 (max 10 (min f.button.toNat 250)) ++ le1 (max 1 (min f.weight.toNat 15)))
          (s.withSeq b { (s.slice b).sequencer with settings :=
            { powerGood := max 1 (min f.powerGood.toNat 255), softStop := max 1 (min f.softStop.toNat 255)
              holdOff := max 1 (min f.holdOff.toNat 60), resetPulse := max 1 (min f.resetPulse.toNat 255)
              button := max 10 (min f.button.toNat 250), weight := max 1 (min f.weight.toNat 15) } }))) ∧
    ((s.slice b).sequencer.state = .queued ∨ (s.slice b).sequencer.state = .powering →
        max 1 (min f.weight.toNat 15) ≠ (s.slice b).sequencer.settings.weight →
      exec (.powerSet tag (bayByte b) f) s = .next (replied 0xA9 tag [3] s))

/-- BUDGET clamps the budget to 1..60, refuses one below the POWERING sum with CONFLICT, and otherwise sets both values in force and makes a
grant attempt, here on a queue whose head does not fit or on no queue: nothing is granted (R105, R106, R108). A head that fits is granted:
SAG released, the restore delay ended and the POWERING sum plus its effective weight within the budget. It leaves the queue, its effective
weight is counted and it enters POWERING with its power-good timer; a head that does not fit ends the attempt, whatever stands behind it
(R84, R104, R105). Here the restore delay's end makes the attempt (R106, R107). A change of the SAG pin flags SAG_CHANGED; its assertion
does nothing else, and its release with no bay waiting grants nothing (R106, R109). Nothing is granted with the timer not started either,
which R105 alone would allow (R107; log entry 31). -/
def Obligations.GrantQueueIsServed : Prop :=
  (∀ (s : State) (tag budget delay : Byte) (n : Nat), takesRequest tag s → n = max 1 (min budget.toNat 60) →
    (s.grant.sum ≤ n →
      (s.grant.queue = [] ∨ s.grant.sag = true ∨ s.grant.timer ≠ .ended ∨
        ∃ b rest, s.grant.queue = b :: rest ∧ n < s.grant.sum + min (s.slice b).sequencer.settings.weight n) →
      exec (.budget tag budget delay) s =
        .next (replied 0xAA tag
          ([0] ++ le1 n ++ [delay] ++ le1 s.grant.sum ++ (le1 s.grant.queue.length ++ s.grant.queue.map bayByte) ++
            bit (s.grant.timer = .ended))
          { s with grant := { s.grant with budget := n, restoreDelay := delay.toNat } })) ∧
    (n < s.grant.sum → exec (.budget tag budget delay) s = .next (replied 0xAA tag [5] s))) ∧
  (∀ (s : State) (b : Bay) (rest : List Bay) (n : Nat), s.grant.timer = .running n → s.grant.sag = false → s.grant.queue = b :: rest →
    (s.grant.sum + min (s.slice b).sequencer.settings.weight s.grant.budget ≤ s.grant.budget → rest = [] →
      (s.slice b).sequencer.pgood = false →
      exec .restoreDelayEnd s = .next (setFlag b .powerState
        { s.withSeq b { (s.slice b).sequencer with
            state := .powering, timer := some (.powerGood, (s.slice b).sequencer.settings.powerGood) } with
          grant := { s.grant with
            timer := .ended, queue := []
            granted := s.grant.granted.set b (some (min (s.slice b).sequencer.settings.weight s.grant.budget)) } })) ∧
    (s.grant.budget < s.grant.sum + min (s.slice b).sequencer.settings.weight s.grant.budget →
      exec .restoreDelayEnd s = .next { s with grant := { s.grant with timer := .ended } })) ∧
  (∀ (s : State),
    (s.grant.sag = false → exec (.sagChange true) s = .next (setPartFlag .sagChanged { s with grant := { s.grant with sag := true } })) ∧
    (s.grant.sag = true → s.grant.queue = [] →
      exec (.sagChange false) s = .next (setPartFlag .sagChanged { s with grant := { s.grant with sag := false } })))

/-- A change of PGOOD follows the pin and flags SENSE_CHANGED where it leaves the snapshot (R92, R93). A rise in POWERING brings the bay to
ON: its timer stops, its grant is released, the responder arms where enabled, a SUSPENDED or ACTING monitor enters GRACE, and with
detect-on-power-on set a detection starts (R84, R95), here with no bay waiting. The detection starts with no pulse taken; the receiver and
the edge timer abandon what they hold and both matchers set j to 0 (R7, R26, R27, R63). A change in OFF, QUEUED, HOLDOFF or FAULT changes no
sequencer state (R90, R91). A fall of PGOOD in ON or RESETTING stops the server: the bay enters OFF with SERVER_STOPPED and POWER_STATE
flagged (R91), on a port that holds nothing while its link is DOWN (R117). A fall in SOFT_STOPPING is the normal end of a soft stop: the bay
enters HOLDOFF with the hold-off timer and pending-on clear, BTN is released at once, and POWER_STATE is flagged with neither SERVER_STOPPED
nor POWER_FAULT, the last fault reason kept (R87, R92). At both falls power is lost: the link goes DOWN with its queue empty and no
transfer, eject-on-power-off is taken, the responder is disarmed and the monitor is SUSPENDED with its timer stopped, or DISABLED as it was
(R74, R98, R117, R118). A level the part has seen already is no change (log entry 16). -/
def Obligations.PgoodChangesAreTaken : Prop :=
  (∀ (s : State) (b : Bay) (q : Sequencer), q = (s.slice b).sequencer →
    (∀ level : Bool, q.pgood = level → exec (.pgoodChange b level) s = .next s) ∧
    (q.state = .off ∨ q.state = .queued ∨ q.state = .holdOff ∨ q.state = .fault → ∀ level : Bool, q.pgood = !level →
      exec (.pgoodChange b level) s =
        .next (if q.snapshotPgood = level then s.withSeq b { q with pgood := level }
          else setFlag b .senseChanged (s.withSeq b { q with pgood := level }))) ∧
    (q.state = .powering → q.pgood = false → s.grant.queue = [] → ∀ (l : Line) (h : Heartbeat) (r : Responder) (x : State),
      ((s.slice b).line.config.detectOnPowerOn = false →
        l = (s.slice b).line ∧ h = (s.slice b).heartbeat ∧ ((s.slice b).responder.enable = false → r = (s.slice b).responder)) →
      ((s.slice b).line.config.detectOnPowerOn = true →
        l = { (s.slice b).line with
          receiver := .waitHigh, lowPeriod := none, rate := { (s.slice b).line.rate with detection := some ⟨none, 0, 0⟩ } } ∧
        h = { (s.slice b).heartbeat with j := 0 } ∧
        ((s.slice b).responder.enable = false → r = { (s.slice b).responder with j := 0 })) →
      ((s.slice b).responder.enable = true → r = { (s.slice b).responder with armed := some (s.slice b).responder.window, j := 0 }) →
      x = { s.withSlice b { s.slice b with
          line := l, heartbeat := h, responder := r, sequencer := { q with pgood := true, state := .on, timer := none }
          monitor :=
            if (s.slice b).monitor.state = .suspended ∨ (s.slice b).monitor.state = .acting
            then { (s.slice b).monitor with state := .grace, timer := some (s.slice b).monitor.settings.grace }
            else (s.slice b).monitor } with
        grant := { s.grant with granted := s.grant.granted.set b none } } →
      exec (.pgoodChange b true) s =
        .next (setFlag b .powerState (if q.snapshotPgood = true then x else setFlag b .senseChanged x)))) ∧
  (∀ (s : State) (b : Bay), (s.slice b).sequencer.state = .on ∨ (s.slice b).sequencer.state = .resetting →
    (s.slice b).sequencer.pgood = true → (s.slice b).port.Wf →
    ∃ t, exec (.pgoodChange b false) s = .next t ∧ (t.slice b).sequencer.state = .off ∧ (t.slice b).sequencer.timer = none ∧
      (t.slice b).sequencer.pwrEn = false ∧ (t.slice b).sequencer.rst = false ∧ t.flag b .serverStopped = true ∧
      t.flag b .powerState = true ∧ (t.slice b).port.up = false ∧ (t.slice b).port.queue = [] ∧ (t.slice b).port.transfer = none ∧
      PowerLost b s t ∧ Monitor.Departed (s.slice b).monitor (t.slice b).monitor ∧ t.grant = s.grant ∧ t.policy = s.policy) ∧
  ∀ (s : State) (b : Bay) (q : Sequencer), q = (s.slice b).sequencer → q.state = .softStopping → q.pgood = true →
    ∃ t, exec (.pgoodChange b false) s = .next t ∧ (t.slice b).sequencer.state = .holdOff ∧
      (t.slice b).sequencer.timer = some (.holdOff, q.settings.holdOff) ∧ (t.slice b).sequencer.pendingOn = false ∧
      (t.slice b).sequencer.pwrEn = false ∧ (t.slice b).sequencer.btn = false ∧ (t.slice b).sequencer.btnSeen = q.btnSeen ∧
      (t.slice b).sequencer.fault = q.fault ∧ (t.slice b).sequencer.settings = q.settings ∧ t.flag b .powerState = true ∧
      t.flag b .serverStopped = s.flag b .serverStopped ∧ t.flag b .powerFault = s.flag b .powerFault ∧
      t.flag b .senseChanged = (s.flag b .senseChanged || q.snapshotPgood) ∧ PowerLost b s t ∧
      Monitor.Departed (s.slice b).monitor (t.slice b).monitor ∧ t.grant = s.grant ∧ t.policy = s.policy

/-- A change of BTN_SENSE outside a masking hold follows the pin and is compared with the snapshot; during the press the seen level stays
held; 100 ms after the press the hold ends and the seen level follows the pin (R92, R93). -/
def Obligations.BtnSenseIsMasked : Prop :=
  ∀ (s : State) (b : Bay) (level : Bool),
    ((s.slice b).sequencer.buttonHold = none → (s.slice b).sequencer.btnSense = !level →
      exec (.btnSenseChange b level) s =
        .next (if (s.slice b).sequencer.snapshotBtn = level then s.withSeq b { (s.slice b).sequencer with btnSense := level }
          else setFlag b .senseChanged (s.withSeq b { (s.slice b).sequencer with btnSense := level }))) ∧
    (∀ held, (s.slice b).sequencer.buttonHold = some ⟨held, true⟩ →
      exec (.btnSenseChange b level) s = .next (s.withSeq b { (s.slice b).sequencer with btnSense := level })) ∧
    (∀ held, (s.slice b).sequencer.buttonHold = some ⟨held, false⟩ → (s.slice b).sequencer.btnSense = held →
      exec (.btnSenseMaskEnd b) s = .next (s.withSeq b { (s.slice b).sequencer with buttonHold := none })) ∧
    (∀ held, (s.slice b).sequencer.buttonHold = some ⟨held, false⟩ → (s.slice b).sequencer.btnSense = !held →
      (s.slice b).sequencer.snapshotBtn = held →
      exec (.btnSenseMaskEnd b) s = .next (setFlag b .senseChanged (s.withSeq b { (s.slice b).sequencer with buttonHold := none })))

/-- The sequencer's timers: the reset pulse ends in ON, with the responder armed where enabled and a SUSPENDED or ACTING monitor in GRACE
(R85, R96); the button press ends in the soft-stop wait, with no change of state (R86); the hold-off ends in OFF with pending-on clear,
where an ACTING monitor becomes SUSPENDED (R74), and in QUEUED behind any waiting bays with it set, here where no grant follows (R89). The
sequencer takes the monitor's outstanding request: in ON with the monitor ACTING a RESET enters RESETTING and a CYCLE HOLDOFF with
pending-on set, power lost, eject-on-power-off taken (R118) and the last commanded state as it was, and the monitor stays ACTING; in any
other state the request is taken as NOTIFY and only ceases to be outstanding (R73, R88, R94, R97, R98). -/
def Obligations.SequencerTimersAndRequests : Prop :=
  (∀ (s : State) (b : Bay) (q : Sequencer) (n : Nat), q = (s.slice b).sequencer →
    (q.state = .resetting → q.timer = some (.resetPulse, n) → (s.slice b).monitor.state = .suspended ∨ (s.slice b).monitor.state = .acting →
      exec (.resetPulseTimerExpiry b) s = .next (setFlag b .powerState (s.withSlice b { s.slice b with
        sequencer := { q with state := .on, timer := none }
        responder := if (s.slice b).responder.enable
          then { (s.slice b).responder with armed := some (s.slice b).responder.window, j := 0 } else (s.slice b).responder
        monitor := { (s.slice b).monitor with state := .grace, timer := some (s.slice b).monitor.settings.grace } }))) ∧
    (q.state = .softStopping → q.timer = some (.buttonPress, n) → q.buttonHold = some ⟨q.btnSense, true⟩ →
      exec (.buttonPressTimerExpiry b) s = .next (s.withSeq b { q with
        timer := some (.softStopWait, q.settings.softStop), buttonHold := none })) ∧
    (q.state = .holdOff → q.timer = some (.holdOff, n) → q.pendingOn = false →
      ∃ m, Monitor.Departed (s.slice b).monitor m ∧
        exec (.holdOffTimerExpiry b) s = .next (setFlag b .powerState
          (s.withSlice b { s.slice b with sequencer := { q with state := .off, timer := none }, monitor := m }))) ∧
    (q.state = .holdOff → q.timer = some (.holdOff, n) → q.pendingOn = true →
        s.grant.queue ≠ [] ∨ s.grant.sag = true ∨ s.grant.timer ≠ .ended →
      exec (.holdOffTimerExpiry b) s = .next (setFlag b .powerState
        { s.withSeq b { q with state := .queued, timer := none, pendingOn := false } with
          grant := { s.grant with queue := s.grant.queue ++ [b] } }))) ∧
  (∀ (s : State) (b : Bay),
    ((s.slice b).sequencer.state = .on → (s.slice b).monitor.state = .acting → (s.slice b).monitor.outstanding = some .reset →
      exec (.monitorRequestTaken b) s = .next (setFlag b .powerState (s.withSlice b { s.slice b with
        sequencer := { (s.slice b).sequencer with
          state := .resetting, timer := some (.resetPulse, (s.slice b).sequencer.settings.resetPulse) }
        responder := { (s.slice b).responder with armed := none, j := 0 }
        monitor := { (s.slice b).monitor with outstanding := none } }))) ∧
    ((s.slice b).sequencer.state = .on → (s.slice b).monitor.state = .acting → (s.slice b).monitor.outstanding = some .cycle →
      ∃ t, exec (.monitorRequestTaken b) s = .next t ∧ (t.slice b).sequencer.state = .holdOff ∧
        (t.slice b).sequencer.timer = some (.holdOff, (s.slice b).sequencer.settings.holdOff) ∧ (t.slice b).sequencer.pendingOn = true ∧
        (t.slice b).sequencer.pwrEn = false ∧ (t.slice b).monitor = { (s.slice b).monitor with outstanding := none } ∧
        (t.slice b).port.up = false ∧ PowerLost b s t ∧
        t.flag b .powerState = true ∧ t.grant = s.grant ∧ t.policy = s.policy) ∧
    ((s.slice b).sequencer.state ≠ .on ∨ (s.slice b).monitor.state ≠ .acting → (s.slice b).monitor.outstanding ≠ none →
      exec (.monitorRequestTaken b) s = .next (s.withMonitor b { (s.slice b).monitor with outstanding := none })))

/-- A power-good timeout puts the bay in FAULT with its grant released, and a soft-stop timeout in HOLDOFF; each flags POWER_FAULT with its
reason and POWER_STATE, and the bay has lost power: link, medium and responder follow (R117, R118), and the monitor is SUSPENDED with its
timer stopped, or DISABLED as it was (R74, R84, R87, R90, R98, R104). -/
def Obligations.PowerFaultsAreFlagged : Prop :=
  ∀ (s : State) (b : Bay) (q : Sequencer) (n : Nat), q = (s.slice b).sequencer →
    (q.state = .powering → q.timer = some (.powerGood, n) → s.grant.queue = [] →
      ∃ t, exec (.powerGoodTimerExpiry b) s = .next t ∧ (t.slice b).sequencer.state = .fault ∧ (t.slice b).sequencer.timer = none ∧
        (t.slice b).sequencer.fault = .powerGoodTimeout ∧ (t.slice b).sequencer.pwrEn = false ∧
        t.grant = { s.grant with granted := s.grant.granted.set b none } ∧ t.flag b .powerFault = true ∧
        t.flag b .powerState = true ∧ (t.slice b).port.up = false ∧ PowerLost b s t ∧
        Monitor.Departed (s.slice b).monitor (t.slice b).monitor ∧ t.policy = s.policy) ∧
    (q.state = .softStopping → q.timer = some (.softStopWait, n) →
      ∃ t, exec (.softStopWaitExpiry b) s = .next t ∧ (t.slice b).sequencer.state = .holdOff ∧
        (t.slice b).sequencer.timer = some (.holdOff, q.settings.holdOff) ∧ (t.slice b).sequencer.pendingOn = false ∧
        (t.slice b).sequencer.fault = .softStopTimeout ∧ (t.slice b).sequencer.pwrEn = false ∧ t.flag b .powerFault = true ∧
        t.flag b .powerState = true ∧ (t.slice b).port.up = false ∧ PowerLost b s t ∧
        Monitor.Departed (s.slice b).monitor (t.slice b).monitor ∧ t.grant = s.grant ∧ t.policy = s.policy)

/-! ## Resets and the policy store -/

/-- A cold reset gives every block its cold values whatever the part held (R1, R21, R42, R60, R77, R100, R110, R128, R150, R158, R178): here
the blocks a restore cannot touch; the sequencers' settings and the grant queue's values come from the records (R162), and the hold stays
only while RESET_N is asserted. A record passes its check where its check byte is that of its number and content; an erased record fails it,
and so does content that belongs to another record number, and content with a byte changed and its check byte kept (R153; the check byte is
a free value held to these demands, log entry 45); its fields, placed as log entry 46 says and each clamped into its range, become the RAM
copy, and a record that fails is torn and its RAM copy takes the defaults (R162). A bay whose policy is ON, or LAST with the last commanded
state ON, goes to QUEUED with POWER_STATE flagged, in bay order; the restore delay then runs, and with a delay of 0 it is ended and the head
is granted unless SAG is asserted (R105, R107, R163). Where every record fails its check nothing is restored, and the part is the reset
state, its model's choices included (the serials of log entry 5, the ports' record of 6, the pins and MISO of 20, the FREE entries of 30),
with its pins, its nonvolatile memory, its waiting commands and the model's free-value index. The cold reset is one step (log entry 32), and
an assertion of RESET_N during it has its warm reset take effect once the restore has placed its bays, with COLD and PIN as the causes,
after the grant attempt of a delay of 0 (R159; log entry 47). -/
def Obligations.ColdResetTakesTheColdValues : Prop :=
  (∀ (s : State),
    (∃ t, exec (.coldReset false) s = .next t ∧
      (∀ b, (t.slice b).line.config = ⟨⟨8, .none, 1⟩, 64, 4, false, false, false, .track, false, .w1024, 0⟩ ∧
        (t.slice b).line.queue = [] ∧ (t.slice b).line.tx = .idle ∧ (t.slice b).line.rts = true ∧ (t.slice b).line.drainMark = false ∧
        (t.slice b).line.receiver = .waitHigh ∧ (t.slice b).line.ctsRef = (s.slice b).line.conCts ∧
        (t.slice b).line.rate.divisor = 417 ∧ (t.slice b).line.rate.lock = 417 ∧ (t.slice b).line.rate.index = 7 ∧
        (t.slice b).line.rate.acc = 0 ∧ (t.slice b).line.rate.mode = .manual ∧ (t.slice b).line.rate.detection = none ∧
        (t.slice b).history.pages = 16 ∧ (t.slice b).history.entries = [] ∧ (t.slice b).history.next = 0 ∧
        (t.slice b).history.stream = none ∧ (t.slice b).heartbeat.pattern = [] ∧ (t.slice b).responder.pattern = [] ∧
        (t.slice b).responder.response = [] ∧ (t.slice b).responder.window = 60 ∧ (t.slice b).responder.enable = false ∧
        (t.slice b).monitor.settings = ⟨.anyOutput, 120, 600, .notify, 3, false⟩ ∧ (t.slice b).monitor.state = .disabled ∧
        (t.slice b).monitor.count = 0) ∧
      (∀ b, (t.slice b).sequencer.settings = (readBay s.policy b).settings ∧ (t.slice b).sequencer.pendingOn = false ∧
        (t.slice b).sequencer.fault = .none ∧ (t.slice b).medium = ⟨.empty, 0, none, false, false, false⟩ ∧
        (t.slice b).port.up = false ∧ (t.slice b).port.queue = [] ∧ (t.slice b).port.transfer = none ∧
        (t.slice b).unmasked = BitVec.allOnes 19 ∧ ((readBay s.policy b).restores = false →
          (t.slice b).sequencer.state = .off ∧ (t.slice b).flags = 0)) ∧
      (∀ i, (t.cache.entry i).state = .free ∧ (t.cache.entry i).owner = none ∧ (t.cache.entry i).pinned = false) ∧
      t.cache.useCounter = 0 ∧ t.cache.fetches = [] ∧ t.cache.writebacks = [] ∧ t.cache.lastFetchId = 255 ∧
      t.cache.lastWritebackId = 255 ∧ t.cache.reserves = Vector.replicate 8 16 ∧ t.cache.readAhead = 7 ∧ t.cache.fetchTimeout = 10 ∧
      t.cache.writebackTimeout = 20 ∧
      t.grant.budget = (readGlobal s.policy).budget ∧ t.grant.restoreDelay = (readGlobal s.policy).restoreDelay ∧
      t.policy.ramGlobal = readGlobal s.policy ∧ (∀ b, t.policy.ramBays.get b = readBay s.policy b) ∧
      t.policy.writer = none ∧ t.policy.dirty = 0 ∧ t.policy.restartPending = false ∧ t.policy.causes = 1 ∧
      t.policy.causeReported = false ∧ t.policy.nv = s.policy.nv ∧
      (∀ r : Fin 9, t.policy.torn.getLsbD r.val = !NvRecord.passes r (s.policy.nv.get r)) ∧
      t.link.receiver = .hunt ∧ t.link.replies = [] ∧ t.link.outgoing = none ∧ t.link.helloPending = true ∧ t.link.partFlags = 0 ∧
      t.link.partUnmasked = BitVec.allOnes 4 ∧ t.link.checkErrors = 0 ∧ t.link.lengthErrors = 0 ∧ t.link.tagErrors = 0 ∧
      t.link.overflowErrors = 0 ∧ t.link.hold = s.resetN ∧
      ∃ u, exec (.coldReset true) s = .next u ∧ Rebuilt t u ∧ u.resetN = true ∧ u.link.hold = true ∧ u.policy.causes = 0x3#4) ∧
    ((∀ r, NvRecord.passes r (s.policy.nv.get r) = false) →
      exec (.coldReset false) s = .next { State.reset with
        slices := Vector.ofFn fun b =>
          { line := { conRx := (s.slice b).line.conRx, conCts := (s.slice b).line.conCts, ctsRef := (s.slice b).line.conCts }
            sequencer := { pgood := (s.slice b).sequencer.pgood, btnSense := (s.slice b).sequencer.btnSense
                           snapshotPgood := (s.slice b).sequencer.pgood, snapshotBtn := (s.slice b).sequencer.btnSense } }
        grant := { sag := s.grant.sag }
        policy := { nv := s.policy.nv, torn := BitVec.allOnes 9 }
        link := { hold := s.resetN }
        resetN := s.resetN
        freeIndex := s.freeIndex
        pending := s.pending })) ∧
  (∀ (p : PolicyStore) (r : Fin 9),
    (NvRecord.passes r none = false ∧
      (∀ content check, NvRecord.passes r (some ⟨content, check⟩) = decide (check = Config.checkByte r content)) ∧
      (∀ other content check, other ≠ r → NvRecord.passes other (some ⟨content, check⟩) = true →
        NvRecord.passes r (some ⟨content, check⟩) = false) ∧
      ∀ (content : Vector Byte 7) (check : Byte) (i : Fin 7) (v : Byte), NvRecord.passes r (some ⟨content, check⟩) = true →
        v ≠ content[i] → NvRecord.passes r (some ⟨content.set i v, check⟩) = false) ∧
    (NvRecord.passes r (p.nv.get r) = false → (r = 0 → readGlobal p = ⟨8, 0⟩) ∧
      ∀ b : Bay, r = b.succ → readBay p b = ⟨.off, false, ⟨30, 60, 5, 20, 50, 4⟩⟩) ∧
    ∀ x : Vector Byte 7, p.nv.get r = some ⟨x, Config.checkByte r x⟩ →
      (r = 0 → readGlobal p = ⟨max 1 (min x[0].toNat 60), x[1].toNat⟩) ∧
      ∀ b : Bay, r = b.succ → readBay p b =
        { policy := if x[0].toNat % 4 = 0 then .off else if x[0].toNat % 4 = 1 then .on else .last
          lastOn := x[0].getLsbD 2
          settings :=
            { weight := max 1 (min x[1].toNat 15), powerGood := max 1 (min x[2].toNat 255), softStop := max 1 (min x[3].toNat 255)
              holdOff := max 1 (min x[4].toNat 60), resetPulse := max 1 (min x[5].toNat 255)
              button := max 10 (min x[6].toNat 250) } }) ∧
  ∀ (s : State) (restored : List Bay),
    restored = (List.finRange 8).filter (fun b =>
      (readBay s.policy b).policy = .on || ((readBay s.policy b).policy = .last && (readBay s.policy b).lastOn)) →
    ∃ t, exec (.coldReset false) s = .next t ∧
      ((readGlobal s.policy).restoreDelay ≠ 0 →
        t.grant.queue = restored ∧ t.grant.timer = .running (readGlobal s.policy).restoreDelay ∧
        ∀ b ∈ restored, (t.slice b).sequencer.state = .queued ∧ t.flag b .powerState = true ∧ t.grant.granted.get b = none) ∧
      ((readGlobal s.policy).restoreDelay = 0 → t.grant.timer = .ended ∧
        (s.grant.sag = true → t.grant.queue = restored ∧
          ∀ b ∈ restored, (t.slice b).sequencer.state = .queued ∧ t.flag b .powerState = true) ∧
        ∀ b rest, s.grant.sag = false → restored = b :: rest → b ∉ t.grant.queue ∧ t.flag b .powerState = true ∧
          ((s.slice b).sequencer.pgood = false → (t.slice b).sequencer.state = .powering ∧
            (t.slice b).sequencer.timer = some (.powerGood, (readBay s.policy b).settings.powerGood) ∧
            t.grant.granted.get b = some (min (readBay s.policy b).settings.weight (readGlobal s.policy).budget)) ∧
          ((s.slice b).sequencer.pgood = true → (t.slice b).sequencer.state = .on ∧ (t.slice b).sequencer.timer = none ∧
            t.grant.granted.get b = none))

/-- An assertion of RESET_N takes effect at once: every block is rebuilt, the link hold is set and PIN joins the causes, which are emptied
first when a HELLO has reported them; a write in flight is cut off, its record torn, and STORE_INTERRUPTED joins the causes. The release
clears the hold (R101, R151, R159, R161, R164, R178). An assertion while RESET_N is held asserted is none. -/
def Obligations.WarmResetRebuildsThePart : Prop :=
  ∀ (s : State),
    (s.resetN = false →
      ∃ t, exec .warmReset s = .next t ∧ Rebuilt s t ∧ t.resetN = true ∧ t.link.hold = true ∧
        t.policy.causes = (if s.policy.causeReported then 0 else s.policy.causes) ||| (if s.policy.writer.isSome then 0xA#4 else 0x2#4) ∧
        (∀ r content, s.policy.writer = some (r, content) → t.policy.torn = s.policy.torn ||| BitVec.twoPow 9 r.val) ∧
        (s.policy.writer = none → t.policy.torn = s.policy.torn) ∧
        (s.policy.writer = none → s.policy.dirty = 0 → t.policy.writer = none ∧ t.policy.dirty = 0 ∧ t.policy.nv = s.policy.nv)) ∧
    (s.resetN = true → exec .warmReset s = .next s) ∧
    exec .resetNRelease s = .next { s with resetN := false, link := { s.link with hold := false } }

/-- RESTART with the writer IDLE: the soft reset takes effect at once, REQUEST joins the causes, and no reply is made. With a write in
flight the restart waits, and its completion flags STORE_DONE, takes the record out of the torn set and lets the soft reset take effect,
which clears the flag; the record holds the content written and its check byte, a free value (R153, R156, R160, R161, R178; log entry 45).
-/
def Obligations.SoftResetRebuildsThePart : Prop :=
  ∀ (s : State),
    (∀ tag : Byte, s.link.hold = false → s.policy.restartPending = false → tag ≠ 0 →
      (s.policy.writer = none →
        ∃ t, exec (.restart tag) s = .next t ∧ Rebuilt s t ∧ t.resetN = s.resetN ∧ t.link.hold = false ∧ t.policy.torn = s.policy.torn ∧
          t.policy.causes = (if s.policy.causeReported then 0 else s.policy.causes) ||| 0x4#4) ∧
      (s.policy.writer ≠ none →
        exec (.restart tag) s =
          .next { s with link := { s.link with receiver := .hunt }, policy := { s.policy with restartPending := true } })) ∧
    (∀ r content, s.policy.writer = some (r, content) → s.policy.restartPending = true →
      ∃ t, exec .storeWriteComplete s = .next t ∧ Rebuilt s t ∧ t.resetN = s.resetN ∧ t.link.hold = s.link.hold ∧
        t.policy.torn.getLsbD r.val = false ∧ t.policy.causes = (if s.policy.causeReported then 0 else s.policy.causes) ||| 0x4#4 ∧
        (s.policy.dirty = 0 → t.policy.nv.get r = some ⟨content, Config.checkByte r content⟩ ∧ t.policy.writer = none))

/-- STORE clamps its fields, writes the record's RAM copy and marks the record dirty, and is replied OK with the RAM copy and whether a
write of that record is in flight; a bay record keeps its last commanded state, and no value in force changes (R154, R155). Here a write is
in flight, so no write starts. A record above 8 is refused with RANGE, whatever its restore policy's byte (log entry 12). The writer, IDLE,
starts the write of the dirty record with the lowest number: its mark clears and its content is the RAM copy as it stands, placed in the
seven bytes as log entry 46 says; the record, erased, fails its check from the write's start until the write completes (log entry 33). A
completion puts the content and its check byte, a free value (log entry 45), in the NV copy, takes the record out of the torn set, flags
STORE_DONE, and starts the next dirty record (R152, R153, R155, R156). -/
def Obligations.StoreIsTakenAndWritten : Prop :=
  (∀ (s : State) (tag : Byte), takesRequest tag s →
    (∀ w content (f : StoreFields), s.policy.writer = some (w, content) →
      exec (.store tag 0 f) s =
        .next (replied 0xAB tag ([0] ++ le1 (max 1 (min f.f0.toNat 60)) ++ [f.f1] ++ bit (w = 0))
          (s.withPolicy { s.policy with
            ramGlobal := ⟨max 1 (min f.f0.toNat 60), f.f1.toNat⟩, dirty := s.policy.dirty ||| 1 }))) ∧
    (∀ w content (b : Bay) (policy : RestorePolicy) (f : StoreFields), s.policy.writer = some (w, content) →
      f.f0.toNat = policy.code →
      exec (.store tag (bayByte b + 1) f) s =
        .next (replied 0xAB tag
          ([0] ++ le1 policy.code ++ bit (s.policy.ramBays.get b).lastOn ++ le1 (max 1 (min f.f1.toNat 15)) ++
            le1 (max 1 (min f.f2.toNat 255)) ++ le1 (max 1 (min f.f3.toNat 255)) ++ le1 (max 1 (min f.f4.toNat 60)) ++
            le1 (max 1 (min f.f5.toNat 255)) ++ le1 (max 10 (min f.f6.toNat 250)) ++ bit (w = b.succ))
          (s.withPolicy { s.policy with
            ramBays := s.policy.ramBays.set b
              { policy := policy, lastOn := (s.policy.ramBays.get b).lastOn
                settings :=
                  { powerGood := max 1 (min f.f2.toNat 255), softStop := max 1 (min f.f3.toNat 255)
                    holdOff := max 1 (min f.f4.toNat 60), resetPulse := max 1 (min f.f5.toNat 255)
                    button := max 10 (min f.f6.toNat 250), weight := max 1 (min f.f1.toNat 15) } }
            dirty := s.policy.dirty ||| BitVec.twoPow 9 (b.val + 1) }))) ∧
    (∀ (record : Byte) (f : StoreFields), 8 < record.toNat → exec (.store tag record f) s = .next (replied 0xAB tag [2] s))) ∧
  (∀ (s : State),
    (∀ (tag : Byte) (f : StoreFields), takesRequest tag s → s.policy.writer = none → s.policy.dirty = 0 →
      exec (.store tag 0 f) s =
        .next (replied 0xAB tag ([0] ++ le1 (max 1 (min f.f0.toNat 60)) ++ [f.f1] ++ [1])
          (s.withPolicy { s.policy with
            ramGlobal := ⟨max 1 (min f.f0.toNat 60), f.f1.toNat⟩, dirty := 0
            writer := some (0, #v[BitVec.ofNat 8 (max 1 (min f.f0.toNat 60)), f.f1, 0, 0, 0, 0, 0])
            nv := s.policy.nv.set 0 none }))) ∧
    (∀ r content, s.policy.writer = some (r, content) → s.policy.restartPending = false →
      (s.policy.dirty = 0 →
        exec .storeWriteComplete s = .next (setPartFlag .storeDone (s.withPolicy { s.policy with
          nv := s.policy.nv.set r (some ⟨content, Config.checkByte r content⟩), torn := s.policy.torn &&& ~~~BitVec.twoPow 9 r.val, writer := none }))) ∧
      (∀ (n : Fin 9) (x : Vector Byte 7), s.policy.dirty.getLsbD n.val = true → (∀ m : Fin 9, m < n → s.policy.dirty.getLsbD m.val = false) →
        (n = 0 → x = #v[BitVec.ofNat 8 s.policy.ramGlobal.budget, BitVec.ofNat 8 s.policy.ramGlobal.restoreDelay, 0, 0, 0, 0, 0]) →
        (∀ (b : Bay) (k : BayRecord), n = b.succ → k = s.policy.ramBays.get b →
          x = #v[BitVec.ofNat 8 ((match k.policy with | .off => 0 | .on => 1 | .last => 2) + if k.lastOn then 4 else 0),
            BitVec.ofNat 8 k.settings.weight, BitVec.ofNat 8 k.settings.powerGood, BitVec.ofNat 8 k.settings.softStop,
            BitVec.ofNat 8 k.settings.holdOff, BitVec.ofNat 8 k.settings.resetPulse, BitVec.ofNat 8 k.settings.button]) →
        exec .storeWriteComplete s = .next (setPartFlag .storeDone (s.withPolicy { s.policy with
          nv := (s.policy.nv.set r (some ⟨content, Config.checkByte r content⟩)).set n none
          torn := s.policy.torn &&& ~~~BitVec.twoPow 9 r.val
          dirty := s.policy.dirty &&& ~~~BitVec.twoPow 9 n.val
          writer := some (n, x) })))))

/-! ## Media and the block cache -/

/-- INSERT in EMPTY raises the generation by 1, wrapping from 65,535 to 1, takes the capacity and both flags and sets the medium-changed
mark; the reply carries the new generation. A capacity of 0 is refused with RANGE in every state, PRESENT and EJECT_PENDING included (log
entry 22), and another in PRESENT and EJECT_PENDING with STATE (R111, R112). -/
def Obligations.InsertPlacesADisk : Prop :=
  ∀ (s : State) (tag : Byte) (b : Bay) (capacity : BitVec 32) (writable eject : Bool), takesRequest tag s →
    (capacity ≠ 0 → (s.slice b).medium.state = .empty → (s.slice b).medium.generation ≤ 65535 →
      ∀ g, g = (if (s.slice b).medium.generation = 65535 then 1 else (s.slice b).medium.generation + 1) →
      exec (.insert tag (bayByte b) capacity (onOffByte writable) (onOffByte eject)) s =
        .next (replied 0xB0 tag ([0] ++ le2 g)
          (s.withSlice b { s.slice b with medium := ⟨.present, g, some capacity.toNat, writable, eject, true⟩ }))) ∧
    (capacity = 0 → exec (.insert tag (bayByte b) capacity (onOffByte writable) (onOffByte eject)) s = .next (replied 0xB0 tag [2] s)) ∧
    (capacity ≠ 0 → (s.slice b).medium.state ≠ .empty →
      exec (.insert tag (bayByte b) capacity (onOffByte writable) (onOffByte eject)) s = .next (replied 0xB0 tag [3] s))

/-- EJECT of a PRESENT medium ends every queued request with NOT_READY, oldest first; with no DIRTY entry or with force on the medium is
EMPTY, with MEDIA_EJECTED flagged and no entry of the bay left outside FREE; with DIRTY entries and force off it is EJECT_PENDING and
nothing is flagged. The reply carries the state and the DIRTY count. In EJECT_PENDING force empties it; in EMPTY it is refused with STATE
(R113, R114, R115). The order of the statuses is the model's choice (log entry 48). What an eject frees and orphans, here with no request
queued anywhere and no transfer: the bay's FILLING and VALID entries, and with force its DIRTY ones; its fetch records become orphans, and
with force and DIRTY entries its writeback records too, each freed at once where it is live and its notice is PENDING; a writeback record
that stays live no longer names a request (R141, R144, R146). -/
def Obligations.EjectRemovesTheDisk : Prop :=
  (∀ (s : State) (tag : Byte) (b : Bay) (force : Bool), takesRequest tag s →
    ((s.slice b).medium.state = .empty → exec (.eject tag (bayByte b) (onOffByte force)) s = .next (replied 0xB1 tag [3] s)) ∧
    ((s.slice b).medium.state = .present → force = true ∨ dirtyCount b s = 0 →
      ∃ t, exec (.eject tag (bayByte b) (onOffByte force)) s = .next t ∧ t.link.replies = s.link.replies ++ [⟨0xB1, tag, [0, 0, 0]⟩] ∧
        (t.slice b).medium = { state := .empty, generation := (s.slice b).medium.generation, changed := true } ∧
        t.flag b .mediaEjected = true ∧ (t.slice b).port.queue = [] ∧ (t.slice b).port.transfer = none ∧
        (t.slice b).port.sent = (s.slice b).port.sent ++ (s.slice b).port.queue.map (fun r => .status r.tag .notReady) ∧
        t.cache.holding b = 0) ∧
    ((s.slice b).medium.state = .present → force = false → (s.slice b).port.transfer = none → dirtyCount b s ≠ 0 →
      ∃ t, exec (.eject tag (bayByte b) (onOffByte force)) s = .next t ∧
        t.link.replies = s.link.replies ++ [⟨0xB1, tag, [0, 2] ++ le1 (dirtyCount b s)⟩] ∧
        (t.slice b).medium = { (s.slice b).medium with state := .ejectPending } ∧ (t.slice b).flags = (s.slice b).flags ∧
        (t.slice b).port.queue = [] ∧ t.cache.writebacks = s.cache.writebacks.map (fun r => if r.bay = b then { r with request := none } else r) ∧
        dirtyCount b t = dirtyCount b s ∧
        (t.slice b).port.sent = (s.slice b).port.sent ++ (s.slice b).port.queue.map (fun r => .status r.tag .notReady)) ∧
    ((s.slice b).medium.state = .ejectPending →
      ∃ t, exec (.eject tag (bayByte b) (onOffByte force)) s = .next t ∧
        if force then
          t.link.replies = s.link.replies ++ [⟨0xB1, tag, [0, 0, 0]⟩] ∧ dirtyCount b t = 0 ∧ t.flag b .mediaEjected = true ∧
          (t.slice b).medium = { state := .empty, generation := (s.slice b).medium.generation, changed := true }
        else
          t.link.replies = s.link.replies ++ [⟨0xB1, tag, [0, 2] ++ le1 (dirtyCount b s)⟩] ∧ (t.slice b).medium = (s.slice b).medium ∧
          (t.slice b).flags = (s.slice b).flags)) ∧
  ∀ (s : State) (tag : Byte) (b : Bay) (force : Bool) (held : CacheEntry → Bool) (released : CacheEntry → CacheEntry)
    (fetches : List FetchRecord) (kept forced : List WritebackRecord), takesRequest tag s → s.quiet → (s.slice b).port.transfer = none →
    (∀ e, held e = (decide (e.state ≠ .free) && e.key.any fun k => k.bay = b)) →
    (∀ e, released e = { e with state := .free, key := none, owner := none }) →
    fetches = (s.cache.fetches.filter fun r => !(r.bay = b && !r.orphan && r.notice = .pending)).map
      (fun r => if r.bay = b then { r with orphan := true } else r) →
    kept = s.cache.writebacks.map (fun r => if r.bay = b then { r with request := none } else r) →
    forced = (s.cache.writebacks.filter fun r => !(r.bay = b && !r.orphan && r.notice = .pending)).map
      (fun r => if r.bay = b then { r with orphan := true, entry := none, request := none } else r) →
    ((s.slice b).medium.state = .present →
      ∃ t, exec (.eject tag (bayByte b) (onOffByte force)) s = .next t ∧ t.cache = { s.cache with
        entries := s.cache.entries.map fun e => if held e && (decide (e.state ≠ .dirty) || force) then released e else e
        fetches := fetches
        writebacks := if force = true ∧ dirtyCount b s ≠ 0 then forced else kept }) ∧
    ((s.slice b).medium.state = .ejectPending → force = true →
      ∃ t, exec (.eject tag (bayByte b) (onOffByte force)) s = .next t ∧ t.cache = { s.cache with
        entries := s.cache.entries.map fun e => if held e && decide (e.state = .dirty) then released e else e
        writebacks := forced })

/-- An open is taken in ON and RESETTING: a DOWN link becomes UP and MEDIA_LINK is flagged; elsewhere it is refused on the port, and on an
UP link, in every sequencer state, it is accepted and changes nothing (log entry 35). A close takes an UP link DOWN: the transfer is
abandoned, the queue discarded with no status, and MEDIA_LINK flagged (R116, R117). An abandoned transfer's entry is unpinned; a READ's
keeps its state, and a WRITE's becomes FREE with its writeback reservation returned, here where no other bay has a request queued that could
take what was freed; the bay's other entries and its fetch records stay (R117, R126). What the port tells its server is the model's own
record (log entry 6). -/
def Obligations.MediaLinkOpensAndCloses : Prop :=
  ∀ (s : State) (b : Bay),
    ((s.slice b).port.up = true → exec (.mediaOpen b) s = .next (s.told b .openAccepted)) ∧
    ((s.slice b).port.up = false → (s.slice b).sequencer.state = .on ∨ (s.slice b).sequencer.state = .resetting →
      exec (.mediaOpen b) s = .next (setFlag b .mediaLink
        (s.withPort b { (s.slice b).port with up := true, sent := (s.slice b).port.sent ++ [.openAccepted] }))) ∧
    ((s.slice b).port.up = false → (s.slice b).sequencer.state ≠ .on → (s.slice b).sequencer.state ≠ .resetting →
      exec (.mediaOpen b) s = .next (s.told b .openRefused)) ∧
    ((s.slice b).port.up = true →
      ∃ t, exec (.mediaClose b) s = .next t ∧ (t.slice b).port = { up := false, sent := (s.slice b).port.sent } ∧
        t.flag b .mediaLink = true ∧ t.cache.fetches.length ≥ s.cache.fetches.length ∧
        t.cache.writebacks = s.cache.writebacks.map (fun r => if r.bay = b then { r with request := none } else r) ∧
        (t.slice b).medium = (s.slice b).medium ∧
        ((∀ c, c ≠ b → (s.slice c).port.queue = []) →
          ((s.slice b).port.transfer = none → t.cache = { s.cache with writebacks := t.cache.writebacks }) ∧
          ∀ x, (s.slice b).port.transfer = some x →
            (x.write = false → usedPlaces t = usedPlaces s ∧ t.cache = { s.cache with
              entries := s.cache.entries.set x.entry { s.cache.entry x.entry with pinned := false }
              writebacks := t.cache.writebacks }) ∧
            (x.write = true → usedPlaces t + 1 = usedPlaces s ∧ t.cache = { s.cache with
              entries := s.cache.entries.set x.entry
                { s.cache.entry x.entry with state := .free, key := none, owner := none, pinned := false }
              writebacks := t.cache.writebacks }))) ∧
    ((s.slice b).port.up = false → exec (.mediaClose b) s = .next s)

/-- A request on an UP link is judged in the order of R119 and R120: BUSY with 4 queued, INVALID for an undefined kind, NOT_READY with no
disk PRESENT, MEDIUM_CHANGED once after a change of disk, OUT_OF_RANGE, WRITE_PROTECTED; CAPACITY and READY complete with GOOD. A READ or
WRITE that passes the four checks of R120 joins the tail of the queue with its next block at its start block and no failure marked; no
status is sent, and neither the medium nor a request already queued changes. Its serial is the model's own (log entry 5). A READ whose first
block the bay holds VALID, with no transfer in flight and nothing else queued, starts its transfer: the entry is pinned and records a use
(R120 to R123, R131). A READ whose first block is missing asks for a fetch: with the fetch table full it waits; the extent runs over missing
blocks below the capacity, up to the READ's last block plus the read-ahead, at most 8; victims are taken in block order, here the lowest
FREE entries, which cut the extent where they run out and no VALID entry is eligible, or one VALID victim for an extent of one block; the
record takes the next id, its marks clear and its notice PENDING, and each victim is FILLING and has recorded a use; with no victim at all
nothing changes (R122, R131, R133 to R136). A WRITE with no transfer in flight and a writeback place free starts its transfer on the block's
own VALID entry that is not pinned, or on a victim where the block is missing, which counts two uses (log entry 27); otherwise it waits
(R124, R133, R134, R142). Here nothing else is queued, and no other bay's request moves. -/
def Obligations.ServerRequestsAreAdmitted : Prop :=
  (∀ (s : State) (b : Bay) (tag : Byte) (start : BitVec 32) (count : Nat), (s.slice b).port.up = true →
    (4 ≤ (s.slice b).port.queue.length →
      ∀ i ∈ [Instr.read b tag start count, .write b tag start count, .capacity b tag, .ready b tag, .serverRequestInvalid b tag],
        exec i s = .next (s.told b (.status tag .busy))) ∧
    ((s.slice b).port.queue.length < 4 →
      exec (.serverRequestInvalid b tag) s = .next (s.told b (.status tag .invalid)) ∧
      ((s.slice b).medium.state ≠ .present →
        ∀ i ∈ [Instr.read b tag start count, .write b tag start count, .capacity b tag, .ready b tag],
          exec i s = .next (s.told b (.status tag .notReady))) ∧
      ((s.slice b).medium.state = .present → (s.slice b).medium.changed = true →
        ∀ i ∈ [Instr.read b tag start count, .write b tag start count, .capacity b tag, .ready b tag],
          exec i s = .next (s.withSlice b { s.slice b with
            medium := { (s.slice b).medium with changed := false }
            port := { (s.slice b).port with sent := (s.slice b).port.sent ++ [.status tag .mediumChanged] } })) ∧
      ((s.slice b).medium.state = .present → (s.slice b).medium.changed = false →
        exec (.ready b tag) s = .next (s.told b (.status tag .good)) ∧
        (∀ n, (s.slice b).medium.capacity = some n →
          exec (.capacity b tag) s = .next (s.told b (.capacity tag n (s.slice b).medium.writable)) ∧
          (count = 0 ∨ 128 < count ∨ n ≤ start.toNat + count - 1 →
            exec (.read b tag start count) s = .next (s.told b (.status tag .outOfRange)) ∧
            exec (.write b tag start count) s = .next (s.told b (.status tag .outOfRange))) ∧
          (1 ≤ count → count ≤ 128 → start.toNat + count ≤ n → (s.slice b).medium.writable = false →
            exec (.write b tag start count) s = .next (s.told b (.status tag .writeProtected))))))) ∧
  (∀ (s : State) (b : Bay) (tag : Byte) (start : BitVec 32) (count n : Nat), (s.slice b).port.up = true →
    (s.slice b).port.queue.length < 4 → (s.slice b).medium.state = .present → (s.slice b).medium.changed = false →
    (s.slice b).medium.capacity = some n → 1 ≤ count → count ≤ 128 → start.toNat + count ≤ n →
    (∀ write, (write = true → (s.slice b).medium.writable = true) →
      ∃ t, exec (if write then .write b tag start count else .read b tag start count) s = .next t ∧
        (t.slice b).port.queue = (s.slice b).port.queue ++ [⟨s.nextSerial, tag, write, start.toNat, count, start.toNat, false, 0, 0⟩] ∧
        (t.slice b).port.sent = (s.slice b).port.sent ∧ (t.slice b).medium = (s.slice b).medium ∧ t.nextSerial = s.nextSerial + 1 ∧
        t.cache.writebacks = s.cache.writebacks) ∧
    (∀ i, (s.slice b).port.queue = [] → (s.slice b).port.transfer = none → (s.cache.entry i).state = .valid →
      s.cache.find ⟨b, (s.slice b).medium.generation, start.toNat⟩ = some i →
      exec (.read b tag start count) s = .next { s.withPort b { (s.slice b).port with
          queue := [⟨s.nextSerial, tag, false, start.toNat, count, start.toNat, false, 0, 0⟩]
          transfer := some ⟨s.nextSerial, false, i⟩ } with
        nextSerial := s.nextSerial + 1
        cache := { s.cache with
          useCounter := s.cache.useCounter + 1
          entries := s.cache.entries.set i { s.cache.entry i with pinned := true, stamp := s.cache.useCounter + 1 } } })) ∧
  ∀ (s : State) (b : Bay) (tag : Byte) (start : BitVec 32) (count n : Nat) (waits : Bool → State), s.quiet →
    (s.slice b).port.up = true → (s.slice b).port.transfer = none → (s.slice b).medium.state = .present →
    (s.slice b).medium.changed = false → (s.slice b).medium.capacity = some n → 1 ≤ count → count ≤ 128 → start.toNat + count ≤ n →
    (∀ write, waits write = { s.withPort b { (s.slice b).port with
        queue := [⟨s.nextSerial, tag, write, start.toNat, count, start.toNat, false, 0, 0⟩] } with nextSerial := s.nextSerial + 1 }) →
    (MissingBlock s b start.toNat →
      (32 ≤ s.cache.fetches.length ∨ (∀ i, ¬VictimFor s.cache b i) → exec (.read b tag start count) s = .next (waits false)) ∧
      (∀ (k id : Nat) (victims : List (Fin 256)), s.cache.fetches.length < 32 → s.cache.lastFetchId ≤ 255 →
        IdAfter (s.cache.fetches.map FetchRecord.id) s.cache.lastFetchId id → 1 ≤ k → k ≤ 8 →
        (∀ x < k, MissingBlock s b (start.toNat + x) ∧ start.toNat + x < n ∧ x < count + s.cache.readAhead) →
        (k < 8 → ¬(MissingBlock s b (start.toNat + k) ∧ start.toNat + k < n ∧ k < count + s.cache.readAhead)) →
        ((victims = (((List.finRange 256).filter fun i => (s.cache.entry i).state = .free && !(s.cache.entry i).pinned).take k) ∧
            victims ≠ [] ∧ (victims.length = k ∨ ∀ i, ¬ValidEligible s.cache b i)) ∨
          (k = 1 ∧ ∃ v, victims = [v] ∧ VictimFor s.cache b v)) →
        ∃ t, exec (.read b tag start count) s = .next t ∧ t = { waits false with cache := t.cache } ∧
          t.cache = { s.cache with
            entries := t.cache.entries
            useCounter := s.cache.useCounter + BitVec.ofNat 32 victims.length
            fetches := s.cache.fetches ++ [⟨id, b, (s.slice b).medium.generation, start.toNat, List.replicate victims.length false,
              .pending, none, false⟩]
            lastFetchId := id } ∧
          (∀ i, i ∉ victims → t.cache.entry i = s.cache.entry i) ∧
          ∀ x i, victims[x]? = some i → t.cache.entry i = { s.cache.entry i with
            state := .filling, key := some ⟨b, (s.slice b).medium.generation, start.toNat + x⟩
            stamp := s.cache.useCounter + BitVec.ofNat 32 (x + 1), owner := some (.fetch id x) })) ∧
    ((s.slice b).medium.writable = true →
      (∀ i, s.cache.find ⟨b, (s.slice b).medium.generation, start.toNat⟩ = some i →
        (usedPlaces s < 16 → (s.cache.entry i).state = .valid → (s.cache.entry i).pinned = false →
          exec (.write b tag start count) s = .next { s.withPort b { (s.slice b).port with
              queue := [⟨s.nextSerial, tag, true, start.toNat, count, start.toNat, false, 0, 0⟩]
              transfer := some ⟨s.nextSerial, true, i⟩ } with
            nextSerial := s.nextSerial + 1
            cache := { s.cache with
              useCounter := s.cache.useCounter + 1
              entries := s.cache.entries.set i { s.cache.entry i with pinned := true, stamp := s.cache.useCounter + 1 } } }) ∧
        (16 ≤ usedPlaces s ∨ (s.cache.entry i).state ≠ .valid ∨ (s.cache.entry i).pinned = true →
          exec (.write b tag start count) s = .next (waits true))) ∧
      (MissingBlock s b start.toNat →
        (16 ≤ usedPlaces s ∨ (∀ i, ¬VictimFor s.cache b i) → exec (.write b tag start count) s = .next (waits true)) ∧
        ∀ v, usedPlaces s < 16 → VictimFor s.cache b v →
          exec (.write b tag start count) s = .next { s.withPort b { (s.slice b).port with
              queue := [⟨s.nextSerial, tag, true, start.toNat, count, start.toNat, false, 0, 0⟩]
              transfer := some ⟨s.nextSerial, true, v⟩ } with
            nextSerial := s.nextSerial + 1
            cache := { s.cache with
              useCounter := s.cache.useCounter + 2
              entries := s.cache.entries.set v { s.cache.entry v with
                state := .valid, key := some ⟨b, (s.slice b).medium.generation, start.toNat⟩
                pinned := true, stamp := s.cache.useCounter + 2, owner := none } } }))

/-- The end of a READ transfer sends the block and advances the request; past its last block the READ completes with GOOD. The end of a
WRITE transfer makes the entry DIRTY with the server's data, which reach it here (log entry 34), and a new writeback record, and advances
the request (R123, R125, R143). The record takes the id after the last issued that no record holds (R135, R142). The transfer of a READ that
a failed fetch has completed unpins its entry and sends no block, which is the model's choice (log entry 49), here with no other request
queued. With no transfer in flight the port's report is ignored (R126). -/
def Obligations.TransferEndAdvancesTheRequest : Prop :=
  ∀ (s : State) (b : Bay) (data : Block),
    ((s.slice b).port.transfer = none → exec (.transferEnd b data) s = .next s) ∧
    (∀ x, (s.slice b).port.transfer = some x → s.quiet →
      exec (.transferEnd b data) s = .next ((s.withPort b { (s.slice b).port with transfer := none }).withCache { s.cache with
        entries := s.cache.entries.set x.entry { s.cache.entry x.entry with pinned := false } })) ∧
    (∀ x r, (s.slice b).port.transfer = some x → (s.slice b).port.request x.serial = some r → ((s.slice b).port.queue.map (·.serial)).Nodup →
      (x.write = false → r.start + r.count ≤ r.next + 1 →
        ∃ t, exec (.transferEnd b data) s = .next t ∧
          (t.slice b).port.queue = (s.slice b).port.queue.filter (fun q => q.serial ≠ r.serial) ∧
          (t.slice b).port.sent = (s.slice b).port.sent ++ [.block r.tag r.next (s.cache.entry x.entry).data, .status r.tag .good]) ∧
      (x.write = false → r.next + 1 < r.start + r.count →
        ∃ t, exec (.transferEnd b data) s = .next t ∧
          (t.slice b).port.queue = (s.slice b).port.queue.map (fun q => if q.serial = r.serial then { q with next := q.next + 1 } else q) ∧
          (t.slice b).port.sent = (s.slice b).port.sent ++ [.block r.tag r.next (s.cache.entry x.entry).data]) ∧
      (x.write = true →
        ∃ t id, exec (.transferEnd b data) s = .next t ∧ id = t.cache.lastWritebackId ∧
          (s.cache.writebacks.length ≤ 16 → s.cache.lastWritebackId ≤ 255 →
            IdAfter (s.cache.writebacks.map WritebackRecord.id) s.cache.lastWritebackId id) ∧
          (t.slice b).port.queue = (s.slice b).port.queue.map (fun q =>
            if q.serial = r.serial then { q with next := q.next + 1, transferred := q.transferred + 1 } else q) ∧
          (t.slice b).port.sent = (s.slice b).port.sent ∧
          (t.cache.entry x.entry).state = .dirty ∧ (t.cache.entry x.entry).data = data ∧
          (t.cache.entry x.entry).owner = some (.writeback id) ∧ (t.cache.entry x.entry).key = (s.cache.entry x.entry).key ∧
          t.cache.writebacks = s.cache.writebacks ++
            [⟨id, b, (s.slice b).medium.generation, r.next, some x.entry, some r.serial, .pending, none, false⟩]))

/-- CACHE_SET clamps its values, writes them in one step and is replied OK with them as written; no entry is freed (R148). CACHE_QUERY is
replied OK with the counts, the settings, both tables and the counters, and changes nothing (R149). -/
def Obligations.CacheSettingsAndQuery : Prop :=
  ∀ (s : State) (tag : Byte), takesRequest tag s →
    (∀ f : CacheFields,
      exec (.cacheSet tag f) s =
        .next (replied 0xB2 tag
          ([0] ++ f.reserves.toList.flatMap (fun r => le1 (min r.toNat 32)) ++ le1 (min f.readAhead.toNat 7) ++
            le1 (max 1 (min f.fetchTimeout.toNat 60)) ++ le1 (max 1 (min f.writebackTimeout.toNat 120)))
          (s.withCache { s.cache with
            reserves := f.reserves.map fun r => min r.toNat 32
            readAhead := min f.readAhead.toNat 7
            fetchTimeout := max 1 (min f.fetchTimeout.toNat 60)
            writebackTimeout := max 1 (min f.writebackTimeout.toNat 120) }))) ∧
    exec (.cacheQuery tag) s =
      .next (replied 0xB3 tag
        ([0] ++ le2 (s.cache.count fun e => e.state = .free) ++
          (List.finRange 8).flatMap (fun b =>
            le2 (s.cache.count fun e => e.state = .filling && e.key.any fun k => k.bay = b) ++
            le2 (s.cache.count fun e => e.state = .valid && e.key.any fun k => k.bay = b) ++
            le2 (s.cache.count fun e => e.state = .dirty && e.key.any fun k => k.bay = b)) ++
          s.cache.reserves.toList.flatMap le1 ++ le1 s.cache.readAhead ++ le1 s.cache.fetchTimeout ++ le1 s.cache.writebackTimeout ++
          le1 (usedPlaces s - s.cache.writebacks.length) ++
          le1 s.cache.fetches.length ++ s.cache.fetches.flatMap (fun r => le1 r.id ++ [bayByte r.bay] ++ bit r.orphan) ++
          le1 s.cache.writebacks.length ++ s.cache.writebacks.flatMap (fun r => le1 r.id ++ [bayByte r.bay] ++ bit r.orphan) ++
          le2 s.cache.counters.unknown ++ le2 s.cache.counters.stale ++ le2 s.cache.counters.range ++ le2 s.cache.counters.duplicate ++
          le2 s.cache.counters.timeout) s)

/-- FILL is judged by the first case of R138 that applies: UNKNOWN, STALE for an orphan, STALE for another generation, RANGE, DUPLICATE,
each counted; otherwise the data makes the index's entry VALID with no owner, the mark is set, and the record is freed once every mark is.
Where a freed record or a filled entry could make a waiting request move, no request waits here. -/
def Obligations.FillIsJudged : Prop :=
  ∀ (s : State) (tag id index : Byte) (generation : BitVec 16) (data : Block), takesRequest tag s →
    (s.cache.fetchOf id.toNat = none →
      exec (.fill tag id index generation data) s = .next (replied 0xB4 tag [6] (s.withCache { s.cache with
        counters := { s.cache.counters with unknown := min (s.cache.counters.unknown + 1) 65535 } }))) ∧
    (∀ r, s.cache.fetchOf id.toNat = some r →
      (r.orphan = true →
        (r.marks.length ≤ index.toNat →
          exec (.fill tag id index generation data) s = .next (replied 0xB4 tag [7] (s.withCache { s.cache with
            counters := { s.cache.counters with stale := min (s.cache.counters.stale + 1) 65535 } }))) ∧
        (index.toNat < r.marks.length → s.quiet →
          exec (.fill tag id index generation data) s = .next (replied 0xB4 tag [7] (s.withCache { s.cache with
            fetches := if ∀ m ∈ r.marks.set index.toNat true, m = true then s.cache.fetches.filter fun q => q.id ≠ id.toNat
              else s.cache.fetches.map fun q => if q.id = id.toNat then { q with marks := q.marks.set index.toNat true } else q
            counters := { s.cache.counters with stale := min (s.cache.counters.stale + 1) 65535 } })))) ∧
      (r.orphan = false → generation.toNat ≠ r.generation →
        exec (.fill tag id index generation data) s = .next (replied 0xB4 tag [7] (s.withCache { s.cache with
          counters := { s.cache.counters with stale := min (s.cache.counters.stale + 1) 65535 } }))) ∧
      (r.orphan = false → generation.toNat = r.generation → r.marks.length ≤ index.toNat →
        exec (.fill tag id index generation data) s = .next (replied 0xB4 tag [2] (s.withCache { s.cache with
          counters := { s.cache.counters with range := min (s.cache.counters.range + 1) 65535 } }))) ∧
      (r.orphan = false → generation.toNat = r.generation → r.marks[index.toNat]? = some true →
        exec (.fill tag id index generation data) s = .next (replied 0xB4 tag [8] (s.withCache { s.cache with
          counters := { s.cache.counters with duplicate := min (s.cache.counters.duplicate + 1) 65535 } }))) ∧
      (r.orphan = false → generation.toNat = r.generation → r.marks[index.toNat]? = some false → s.quiet →
        exec (.fill tag id index generation data) s = .next (replied 0xB4 tag [0] (s.withCache { s.cache with
          entries := s.cache.entries.map fun e =>
            if e.state = .filling ∧ e.owner = some (.fetch id.toNat index.toNat)
            then { e with state := .valid, data := data, owner := none } else e
          fetches := if ∀ m ∈ r.marks.set index.toNat true, m = true then s.cache.fetches.filter fun q => q.id ≠ id.toNat
            else s.cache.fetches.map fun q => if q.id = id.toNat then { q with marks := q.marks.set index.toNat true } else q }))))

/-- FILL_FAIL, and a fetch deadline's expiry, which acts as one and adds 1 to the timeout counter: the record's unfilled entries are freed
with the record, and each READ of the bay whose next block was one of them completes with MEDIA_ERROR (R139, R140). An orphan is freed, with
STALE for FILL_FAIL; an id of no record is UNKNOWN. An expiry is taken whatever the link does; with the deadline stopped or no record there
is none, and the state stays as it is (log entry 16). The statuses go oldest request first (log entry 48). -/
def Obligations.FetchesFail : Prop :=
  ∀ (s : State) (tag id : Byte),
    (s.cache.fetchOf id.toNat = none →
      (takesRequest tag s → exec (.fillFail tag id) s = .next (replied 0xB5 tag [6] (s.withCache { s.cache with
        counters := { s.cache.counters with unknown := min (s.cache.counters.unknown + 1) 65535 } }))) ∧
      exec (.fetchDeadlineExpiry id) s = .next s) ∧
    (∀ r, s.cache.fetchOf id.toNat = some r →
      (r.deadline = none → exec (.fetchDeadlineExpiry id) s = .next s) ∧
      (r.orphan = true → s.quiet →
        (takesRequest tag s → exec (.fillFail tag id) s = .next (replied 0xB5 tag [7] (s.withCache { s.cache with
          fetches := s.cache.fetches.filter fun q => q.id ≠ id.toNat
          counters := { s.cache.counters with stale := min (s.cache.counters.stale + 1) 65535 } }))) ∧
        (r.deadline ≠ none → exec (.fetchDeadlineExpiry id) s = .next (s.withCache { s.cache with
          fetches := s.cache.fetches.filter fun q => q.id ≠ id.toNat
          counters := { s.cache.counters with timeout := min (s.cache.counters.timeout + 1) 65535 } }))) ∧
      (r.orphan = false → s.quiet → ∀ c : Cache, c = { s.cache with
          entries := s.cache.entries.map fun e => if e.ofFetch id.toNat then { e with state := .free, key := none, owner := none } else e
          fetches := s.cache.fetches.filter fun q => q.id ≠ id.toNat } →
        (takesRequest tag s → exec (.fillFail tag id) s = .next (replied 0xB5 tag [0] (s.withCache c))) ∧
        (r.deadline ≠ none → exec (.fetchDeadlineExpiry id) s = .next (s.withCache { c with
          counters := { c.counters with timeout := min (c.counters.timeout + 1) 65535 } }))) ∧
      (r.orphan = false → (s.slice r.bay).port.Wf → ∀ fails : ServerRequest → Bool,
        (∀ q, fails q = (!q.write && decide (r.first ≤ q.next) && r.marks[q.next - r.first]? == some false)) →
        (takesRequest tag s →
          ∃ t, exec (.fillFail tag id) s = .next t ∧ t.link.replies = s.link.replies ++ [⟨0xB5, tag, [0]⟩] ∧
            (t.slice r.bay).port.queue = (s.slice r.bay).port.queue.filter (fun q => !fails q) ∧
            (t.slice r.bay).port.sent = (s.slice r.bay).port.sent ++
              ((s.slice r.bay).port.queue.filter fails).map (fun q => .status q.tag .mediaError)) ∧
        (r.deadline ≠ none →
          ∃ t, exec (.fetchDeadlineExpiry id) s = .next t ∧
            (t.slice r.bay).port.queue = (s.slice r.bay).port.queue.filter (fun q => !fails q) ∧
            (t.slice r.bay).port.sent = (s.slice r.bay).port.sent ++
              ((s.slice r.bay).port.queue.filter fails).map (fun q => .status q.tag .mediaError))))

/-- WRITE_DONE, and a writeback deadline's expiry, which acts as one with fail and adds 1 to the timeout counter: the record is freed, and
the entry becomes VALID after ok and FREE after a fail (R144, R145); an EJECT_PENDING medium's entry becomes FREE, whether after ok, fail or
an expiry: with others of the bay DIRTY the medium stays EJECT_PENDING with one DIRTY entry less, and the last one takes it to EMPTY with
MEDIA_EJECTED flagged (R115). An orphan is freed, with STALE for WRITE_DONE; an id of no record is UNKNOWN. An expiry is taken whatever the
link does; with the deadline stopped or no record there is none, and the state stays as it is (log entry 16). Where a freed place could make
a waiting request move, none waits here. A writeback resolved with ok or fail, by WRITE_DONE or by an expiry, counts for the WRITE it
belongs to; once every block is transferred and resolved the WRITE completes, with GOOD if no block failed and otherwise with MEDIA_ERROR
and MEDIA_WRITE_FAILED flagged (R125, R144). -/
def Obligations.WritebacksAreResolved : Prop :=
  (∀ (s : State) (tag id : Byte),
    (s.cache.writebackOf id.toNat = none →
      (∀ outcome : Byte, takesRequest tag s → outcome.toNat ≤ 1 →
        exec (.writeDone tag id outcome) s = .next (replied 0xB6 tag [6] (s.withCache { s.cache with
          counters := { s.cache.counters with unknown := min (s.cache.counters.unknown + 1) 65535 } }))) ∧
      exec (.writebackDeadlineExpiry id) s = .next s) ∧
    (∀ r, s.cache.writebackOf id.toNat = some r →
      (r.deadline = none → exec (.writebackDeadlineExpiry id) s = .next s) ∧
      (r.orphan = true → s.quiet →
        (∀ outcome : Byte, takesRequest tag s → outcome.toNat ≤ 1 →
          exec (.writeDone tag id outcome) s = .next (replied 0xB6 tag [7] (s.withCache { s.cache with
            writebacks := s.cache.writebacks.filter fun q => q.id ≠ id.toNat
            counters := { s.cache.counters with stale := min (s.cache.counters.stale + 1) 65535 } }))) ∧
        (r.deadline ≠ none → exec (.writebackDeadlineExpiry id) s = .next (s.withCache { s.cache with
          writebacks := s.cache.writebacks.filter fun q => q.id ≠ id.toNat
          counters := { s.cache.counters with timeout := min (s.cache.counters.timeout + 1) 65535 } }))) ∧
      (∀ i, r.orphan = false → r.entry = some i → s.quiet → (s.slice r.bay).medium.state = .present →
        ∀ freed kept : Cache,
          kept = { s.cache with
            entries := s.cache.entries.set i { s.cache.entry i with state := .valid, owner := none }
            writebacks := s.cache.writebacks.filter fun q => q.id ≠ id.toNat } →
          freed = { s.cache with
            entries := s.cache.entries.set i { s.cache.entry i with state := .free, key := none, owner := none }
            writebacks := s.cache.writebacks.filter fun q => q.id ≠ id.toNat } →
        (takesRequest tag s →
          exec (.writeDone tag id 0) s = .next (replied 0xB6 tag [0] (s.withCache kept)) ∧
          exec (.writeDone tag id 1) s = .next (replied 0xB6 tag [0] (s.withCache freed))) ∧
        (r.deadline ≠ none → exec (.writebackDeadlineExpiry id) s = .next (s.withCache { freed with
          counters := { freed.counters with timeout := min (freed.counters.timeout + 1) 65535 } }))) ∧
      (∀ i (outcome : Byte) (x : Instr), (takesRequest tag s ∧ outcome.toNat ≤ 1 ∧ x = .writeDone tag id outcome) ∨
          (r.deadline ≠ none ∧ x = .writebackDeadlineExpiry id) →
        r.orphan = false → r.entry = some i → (s.slice r.bay).medium.state = .ejectPending →
        (s.cache.entry i).state = .dirty → (s.cache.entry i).key.map BlockKey.bay = some r.bay →
        ∃ t, exec x s = .next t ∧
          t.link.replies = s.link.replies ++ (if x = .writebackDeadlineExpiry id then [] else [⟨0xB6, tag, [0]⟩]) ∧
          dirtyCount r.bay t + 1 = dirtyCount r.bay s ∧
          (s.quiet → t.cache = { s.cache with
            entries := s.cache.entries.set i { s.cache.entry i with state := .free, key := none, owner := none }
            writebacks := s.cache.writebacks.filter fun q => q.id ≠ id.toNat
            counters := { s.cache.counters with
              timeout := if x = .writebackDeadlineExpiry id then min (s.cache.counters.timeout + 1) 65535
                else s.cache.counters.timeout } }) ∧
          (dirtyCount r.bay s = 1 →
            (t.slice r.bay).medium = { state := .empty, generation := (s.slice r.bay).medium.generation, changed := true } ∧
            t.flag r.bay .mediaEjected = true) ∧
          (dirtyCount r.bay s ≠ 1 →
            (t.slice r.bay).medium = (s.slice r.bay).medium ∧ t.flag r.bay .mediaEjected = s.flag r.bay .mediaEjected)))) ∧
  (∀ (s : State) (tag id : Byte) (ok : Bool) (x : Instr) (r : WritebackRecord) (serial : Nat) (q : ServerRequest),
    (takesRequest tag s ∧ x = .writeDone tag id (if ok then 0 else 1)) ∨
      (ok = false ∧ r.deadline ≠ none ∧ x = .writebackDeadlineExpiry id) →
    s.cache.writebackOf id.toNat = some r → r.orphan = false → r.request = some serial →
    (s.slice r.bay).port.Wf → (s.slice r.bay).port.request serial = some q →
    (q.transferred ≠ q.count ∨ q.resolved + 1 ≠ q.count →
      ∃ t, exec x s = .next t ∧
        (t.slice r.bay).port.queue = (s.slice r.bay).port.queue.map (fun p =>
          if p.serial = serial then { p with resolved := p.resolved + 1, failed := p.failed || !ok } else p) ∧
        (t.slice r.bay).port.sent = (s.slice r.bay).port.sent) ∧
    (q.transferred = q.count → q.resolved + 1 = q.count →
      ∃ t, exec x s = .next t ∧
        (t.slice r.bay).port.queue = (s.slice r.bay).port.queue.filter (fun p => p.serial ≠ serial) ∧
        (t.slice r.bay).port.sent = (s.slice r.bay).port.sent ++
          [.status q.tag (if q.failed || !ok then .mediaError else .good)] ∧
        (q.failed = true ∨ ok = false → t.flag r.bay .mediaWriteFailed = true)))

/-! ## Headline results -/

/-- The frame of every command: what it may not touch is the same after it, every bay, block and counter of the part included. -/
def Obligations.CommandsTouchOnlyTheirParts : Prop :=
  ∀ (i : Instr) (s t : State) (p : Part), exec i s = .next t → mayTouch i p = false → p.Same s t

/-- Every well-formed request is spelled by a frame that decodes to it, with every operand at every value (Table 11-3, R180, R181). A
MATCH_SET frame has the length of its fields' widths, which is the model's reading of the table (log entry 13). -/
def Obligations.DecodeOfEncode : Prop :=
  ∀ (i : Instr) (f : RequestFrame), i.WellFormed = true → encodeRequest i = some f → decodeRequest f.kind f.tag f.payload = some i

/-- The bytes of a request's frame, received one by one from HUNT, do what the request does: mark, length, body and check lead the frame
receiver to it (R165, R166, R179). A MATCH_SET frame has the length of its fields' widths (log entry 13). -/
def Obligations.FrameBytesReachTheRequest : Prop :=
  ∀ (s : State) (i : Instr) (f : RequestFrame), i.WellFormed = true → encodeRequest i = some f → s.link.hold = false →
    s.link.receiver = .hunt →
    exec i s = .next ((Frame.wire ⟨f.kind, f.tag, f.payload⟩).foldl (fun s x => rxByte x s) s)

/-- Every step keeps the link within its bounds (R169, R177). -/
def Obligations.StepKeepsTheLink : Prop :=
  ∀ s t : State, s.link.Wf → step s = .next t → t.link.Wf

/-- Every step keeps each line's configuration record in its ranges and its transmit queue within 256 elements (R1, R8, R14). Every step
keeps each divisor within the tracking bounds of its lock and each accumulator within -255..+255 (R22, R33, R34). Every step keeps each
monitor's settings in range, its count within the limit and its timer running in GRACE and WATCHING only (R70, R75, Table 4-4). -/
def Obligations.StepKeepsTheLinesAndMonitors : Prop :=
  (∀ s t : State, (∀ b, (s.slice b).line.Wf) → step s = .next t → ∀ b, (t.slice b).line.Wf) ∧
  (∀ s t : State, (∀ b, (s.slice b).line.rate.Wf) → step s = .next t → ∀ b, (t.slice b).line.rate.Wf) ∧
  (∀ s t : State, (∀ b, (s.slice b).monitor.Wf) → step s = .next t → ∀ b, (t.slice b).monitor.Wf)

/-- Every step keeps each ring within its pages, each stream within its ring and the pool within 128 pages (R43, R46, R50, R52). -/
def Obligations.StepKeepsTheHistory : Prop :=
  ∀ s t : State, s.HistoryWf → step s = .next t → t.HistoryWf

/-- Every step keeps the sequencers and the grant queue in agreement: a bay waits in the queue once exactly while QUEUED, holds a granted
weight exactly while POWERING, and the POWERING sum stays within the budget (R79, R89, R102 to R105). -/
def Obligations.StepKeepsThePower : Prop :=
  ∀ s t : State, s.PowerWf → step s = .next t → t.PowerWf

/-- Every step keeps each medium's capacity absent exactly in EMPTY, each queue within 4 and empty on a DOWN link, and each link UP under
power only (R111, R115 to R120). The serials that tell the requests of a queue apart are the model's own (log entry 5). -/
def Obligations.StepKeepsTheMedia : Prop :=
  ∀ s t : State, s.MediaWf → step s = .next t → t.MediaWf

/-- Every step keeps the cache free of a block held twice, the fetch table within 32 records and the writeback table within 16 places (R129,
R135, R142). With that and the media's invariant, every step also keeps the cache tied to the rest of the part: each entry outside FREE
belongs to the present generation of a medium PRESENT or EJECT_PENDING, DIRTY in the latter; FILLING entries and the unfilled blocks of live
fetch records are one to one, and DIRTY entries and live writeback records; an entry is pinned exactly while one bay's transfer uses it
(R115, R129, R130, R137, R143). The serials in it are the model's own (log entry 5). -/
def Obligations.StepKeepsTheCache : Prop :=
  (∀ s t : State, s.CacheWf → step s = .next t → t.CacheWf) ∧
  ∀ s t : State, s.MediaWf → s.CacheWf → s.CacheTied → step s = .next t → t.CacheTied

/-- The reset state meets every invariant. -/
def Obligations.InvariantsHoldAtReset : Prop :=
  State.reset.link.Wf ∧ (∀ b, (State.reset.slice b).line.Wf ∧ (State.reset.slice b).line.rate.Wf ∧ (State.reset.slice b).monitor.Wf) ∧
  State.reset.HistoryWf ∧ State.reset.PowerWf ∧ State.reset.MediaWf ∧ State.reset.CacheWf ∧ State.reset.CacheTied
end

