-- ==== Sys2Proof/Laws/State.lean ====
section
/-! SUPPORT. What each named update of the state leaves: one lemma per field per update. -/

namespace Sys2Proof.Machine

/-- Reading a slice after an update of one slice. -/
theorem State.slice_modSlice (s : State) (b c : Bay) (f : Slice → Slice) :
    (s.modSlice b f).slice c = if c = b then f (s.slice c) else s.slice c := by
  change (s.slices.set b.val (f (s.slice b)))[c.val] = _
  rw [Vector.getElem_set]
  by_cases h : c = b
  · subst h
    simp
  · have h' : ¬ (b.val = c.val) := fun e => h (Fin.ext e.symm)
    rw [if_neg h', if_neg h]
    rfl

@[simp] theorem State.slice_modSlice_self (s : State) (b : Bay) (f : Slice → Slice) : (s.modSlice b f).slice b = f (s.slice b) := by
  simp [State.slice_modSlice]

theorem State.slice_modSlice_ne (s : State) (b c : Bay) (f : Slice → Slice) (h : c ≠ b) : (s.modSlice b f).slice c = s.slice c := by
  simp [State.slice_modSlice, h]

/-- A component that an update of one slice does not touch is unchanged in every slice. -/
theorem State.slice_modSlice_of {α : Type} (p : Slice → α) (s : State) (b c : Bay) (f : Slice → Slice) (h : ∀ x, p (f x) = p x) :
    p ((s.modSlice b f).slice c) = p (s.slice c) := by
  rw [State.slice_modSlice]
  split <;> simp [h]

/-- Two states that agree slice by slice and in every other field are equal. -/
theorem State.ext_slice {s t : State} (h : ∀ b, s.slice b = t.slice b) (hs : { s with slices := t.slices } = t) : s = t := by
  have e : s.slices = t.slices := by
    apply Vector.ext
    intro i hi
    have := h ⟨i, hi⟩
    simpa [State.slice, Vector.get] using this
  rw [← hs, ← e]

@[simp] theorem State.modSlice_lastServed (s : State) (b : Bay) (f : Slice → Slice) : (s.modSlice b f).lastServed = s.lastServed := rfl
@[simp] theorem State.modSlice_cache (s : State) (b : Bay) (f : Slice → Slice) : (s.modSlice b f).cache = s.cache := rfl
@[simp] theorem State.modSlice_grant (s : State) (b : Bay) (f : Slice → Slice) : (s.modSlice b f).grant = s.grant := rfl
@[simp] theorem State.modSlice_policy (s : State) (b : Bay) (f : Slice → Slice) : (s.modSlice b f).policy = s.policy := rfl
@[simp] theorem State.modSlice_link (s : State) (b : Bay) (f : Slice → Slice) : (s.modSlice b f).link = s.link := rfl
@[simp] theorem State.modSlice_resetN (s : State) (b : Bay) (f : Slice → Slice) : (s.modSlice b f).resetN = s.resetN := rfl
@[simp] theorem State.modSlice_nextSerial (s : State) (b : Bay) (f : Slice → Slice) : (s.modSlice b f).nextSerial = s.nextSerial := rfl
@[simp] theorem State.modSlice_freeIndex (s : State) (b : Bay) (f : Slice → Slice) : (s.modSlice b f).freeIndex = s.freeIndex := rfl
@[simp] theorem State.modSlice_pending (s : State) (b : Bay) (f : Slice → Slice) : (s.modSlice b f).pending = s.pending := rfl

@[simp] theorem State.modCache_slice (s : State) (f : Cache → Cache) (b : Bay) : (s.modCache f).slice b = s.slice b := rfl
@[simp] theorem State.modCache_slices (s : State) (f : Cache → Cache) : (s.modCache f).slices = s.slices := rfl
@[simp] theorem State.modCache_lastServed (s : State) (f : Cache → Cache) : (s.modCache f).lastServed = s.lastServed := rfl
@[simp] theorem State.modCache_cache (s : State) (f : Cache → Cache) : (s.modCache f).cache = f s.cache := rfl
@[simp] theorem State.modCache_grant (s : State) (f : Cache → Cache) : (s.modCache f).grant = s.grant := rfl
@[simp] theorem State.modCache_policy (s : State) (f : Cache → Cache) : (s.modCache f).policy = s.policy := rfl
@[simp] theorem State.modCache_link (s : State) (f : Cache → Cache) : (s.modCache f).link = s.link := rfl
@[simp] theorem State.modCache_resetN (s : State) (f : Cache → Cache) : (s.modCache f).resetN = s.resetN := rfl
@[simp] theorem State.modCache_nextSerial (s : State) (f : Cache → Cache) : (s.modCache f).nextSerial = s.nextSerial := rfl
@[simp] theorem State.modCache_freeIndex (s : State) (f : Cache → Cache) : (s.modCache f).freeIndex = s.freeIndex := rfl
@[simp] theorem State.modCache_pending (s : State) (f : Cache → Cache) : (s.modCache f).pending = s.pending := rfl

@[simp] theorem State.modGrant_slice (s : State) (f : GrantQueue → GrantQueue) (b : Bay) : (s.modGrant f).slice b = s.slice b := rfl
@[simp] theorem State.modGrant_slices (s : State) (f : GrantQueue → GrantQueue) : (s.modGrant f).slices = s.slices := rfl
@[simp] theorem State.modGrant_lastServed (s : State) (f : GrantQueue → GrantQueue) : (s.modGrant f).lastServed = s.lastServed := rfl
@[simp] theorem State.modGrant_cache (s : State) (f : GrantQueue → GrantQueue) : (s.modGrant f).cache = s.cache := rfl
@[simp] theorem State.modGrant_grant (s : State) (f : GrantQueue → GrantQueue) : (s.modGrant f).grant = f s.grant := rfl
@[simp] theorem State.modGrant_policy (s : State) (f : GrantQueue → GrantQueue) : (s.modGrant f).policy = s.policy := rfl
@[simp] theorem State.modGrant_link (s : State) (f : GrantQueue → GrantQueue) : (s.modGrant f).link = s.link := rfl
@[simp] theorem State.modGrant_resetN (s : State) (f : GrantQueue → GrantQueue) : (s.modGrant f).resetN = s.resetN := rfl
@[simp] theorem State.modGrant_nextSerial (s : State) (f : GrantQueue → GrantQueue) : (s.modGrant f).nextSerial = s.nextSerial := rfl
@[simp] theorem State.modGrant_freeIndex (s : State) (f : GrantQueue → GrantQueue) : (s.modGrant f).freeIndex = s.freeIndex := rfl
@[simp] theorem State.modGrant_pending (s : State) (f : GrantQueue → GrantQueue) : (s.modGrant f).pending = s.pending := rfl

@[simp] theorem State.modPolicy_slice (s : State) (f : PolicyStore → PolicyStore) (b : Bay) : (s.modPolicy f).slice b = s.slice b := rfl
@[simp] theorem State.modPolicy_slices (s : State) (f : PolicyStore → PolicyStore) : (s.modPolicy f).slices = s.slices := rfl
@[simp] theorem State.modPolicy_lastServed (s : State) (f : PolicyStore → PolicyStore) : (s.modPolicy f).lastServed = s.lastServed := rfl
@[simp] theorem State.modPolicy_cache (s : State) (f : PolicyStore → PolicyStore) : (s.modPolicy f).cache = s.cache := rfl
@[simp] theorem State.modPolicy_grant (s : State) (f : PolicyStore → PolicyStore) : (s.modPolicy f).grant = s.grant := rfl
@[simp] theorem State.modPolicy_policy (s : State) (f : PolicyStore → PolicyStore) : (s.modPolicy f).policy = f s.policy := rfl
@[simp] theorem State.modPolicy_link (s : State) (f : PolicyStore → PolicyStore) : (s.modPolicy f).link = s.link := rfl
@[simp] theorem State.modPolicy_resetN (s : State) (f : PolicyStore → PolicyStore) : (s.modPolicy f).resetN = s.resetN := rfl
@[simp] theorem State.modPolicy_nextSerial (s : State) (f : PolicyStore → PolicyStore) : (s.modPolicy f).nextSerial = s.nextSerial := rfl
@[simp] theorem State.modPolicy_freeIndex (s : State) (f : PolicyStore → PolicyStore) : (s.modPolicy f).freeIndex = s.freeIndex := rfl
@[simp] theorem State.modPolicy_pending (s : State) (f : PolicyStore → PolicyStore) : (s.modPolicy f).pending = s.pending := rfl

@[simp] theorem State.modLink_slice (s : State) (f : Link → Link) (b : Bay) : (s.modLink f).slice b = s.slice b := rfl
@[simp] theorem State.modLink_slices (s : State) (f : Link → Link) : (s.modLink f).slices = s.slices := rfl
@[simp] theorem State.modLink_lastServed (s : State) (f : Link → Link) : (s.modLink f).lastServed = s.lastServed := rfl
@[simp] theorem State.modLink_cache (s : State) (f : Link → Link) : (s.modLink f).cache = s.cache := rfl
@[simp] theorem State.modLink_grant (s : State) (f : Link → Link) : (s.modLink f).grant = s.grant := rfl
@[simp] theorem State.modLink_policy (s : State) (f : Link → Link) : (s.modLink f).policy = s.policy := rfl
@[simp] theorem State.modLink_link (s : State) (f : Link → Link) : (s.modLink f).link = f s.link := rfl
@[simp] theorem State.modLink_resetN (s : State) (f : Link → Link) : (s.modLink f).resetN = s.resetN := rfl
@[simp] theorem State.modLink_nextSerial (s : State) (f : Link → Link) : (s.modLink f).nextSerial = s.nextSerial := rfl
@[simp] theorem State.modLink_freeIndex (s : State) (f : Link → Link) : (s.modLink f).freeIndex = s.freeIndex := rfl
@[simp] theorem State.modLink_pending (s : State) (f : Link → Link) : (s.modLink f).pending = s.pending := rfl

@[simp] theorem State.modSlice_slice_line (s : State) (b c : Bay) (f : Slice → Slice) (h : ∀ x, (f x).line = x.line) :
    ((s.modSlice b f).slice c).line = (s.slice c).line := State.slice_modSlice_of (fun x => x.line) s b c f h
@[simp] theorem State.modSlice_slice_history (s : State) (b c : Bay) (f : Slice → Slice) (h : ∀ x, (f x).history = x.history) :
    ((s.modSlice b f).slice c).history = (s.slice c).history := State.slice_modSlice_of (fun x => x.history) s b c f h
@[simp] theorem State.modSlice_slice_heartbeat (s : State) (b c : Bay) (f : Slice → Slice) (h : ∀ x, (f x).heartbeat = x.heartbeat) :
    ((s.modSlice b f).slice c).heartbeat = (s.slice c).heartbeat := State.slice_modSlice_of (fun x => x.heartbeat) s b c f h
@[simp] theorem State.modSlice_slice_responder (s : State) (b c : Bay) (f : Slice → Slice) (h : ∀ x, (f x).responder = x.responder) :
    ((s.modSlice b f).slice c).responder = (s.slice c).responder := State.slice_modSlice_of (fun x => x.responder) s b c f h
@[simp] theorem State.modSlice_slice_monitor (s : State) (b c : Bay) (f : Slice → Slice) (h : ∀ x, (f x).monitor = x.monitor) :
    ((s.modSlice b f).slice c).monitor = (s.slice c).monitor := State.slice_modSlice_of (fun x => x.monitor) s b c f h
@[simp] theorem State.modSlice_slice_sequencer (s : State) (b c : Bay) (f : Slice → Slice) (h : ∀ x, (f x).sequencer = x.sequencer) :
    ((s.modSlice b f).slice c).sequencer = (s.slice c).sequencer := State.slice_modSlice_of (fun x => x.sequencer) s b c f h
@[simp] theorem State.modSlice_slice_medium (s : State) (b c : Bay) (f : Slice → Slice) (h : ∀ x, (f x).medium = x.medium) :
    ((s.modSlice b f).slice c).medium = (s.slice c).medium := State.slice_modSlice_of (fun x => x.medium) s b c f h
@[simp] theorem State.modSlice_slice_port (s : State) (b c : Bay) (f : Slice → Slice) (h : ∀ x, (f x).port = x.port) :
    ((s.modSlice b f).slice c).port = (s.slice c).port := State.slice_modSlice_of (fun x => x.port) s b c f h
@[simp] theorem State.modSlice_slice_flags (s : State) (b c : Bay) (f : Slice → Slice) (h : ∀ x, (f x).flags = x.flags) :
    ((s.modSlice b f).slice c).flags = (s.slice c).flags := State.slice_modSlice_of (fun x => x.flags) s b c f h
@[simp] theorem State.modSlice_slice_unmasked (s : State) (b c : Bay) (f : Slice → Slice) (h : ∀ x, (f x).unmasked = x.unmasked) :
    ((s.modSlice b f).slice c).unmasked = (s.slice c).unmasked := State.slice_modSlice_of (fun x => x.unmasked) s b c f h
@[simp] theorem State.modSlice_slice_line_config (s : State) (b c : Bay) (f : Slice → Slice) (h : ∀ x, (f x).line.config = x.line.config) :
    ((s.modSlice b f).slice c).line.config = (s.slice c).line.config := State.slice_modSlice_of (fun x => x.line.config) s b c f h
@[simp] theorem State.modSlice_slice_line_queue (s : State) (b c : Bay) (f : Slice → Slice) (h : ∀ x, (f x).line.queue = x.line.queue) :
    ((s.modSlice b f).slice c).line.queue = (s.slice c).line.queue := State.slice_modSlice_of (fun x => x.line.queue) s b c f h
@[simp] theorem State.modSlice_slice_line_tx (s : State) (b c : Bay) (f : Slice → Slice) (h : ∀ x, (f x).line.tx = x.line.tx) :
    ((s.modSlice b f).slice c).line.tx = (s.slice c).line.tx := State.slice_modSlice_of (fun x => x.line.tx) s b c f h
@[simp] theorem State.modSlice_slice_line_rts (s : State) (b c : Bay) (f : Slice → Slice) (h : ∀ x, (f x).line.rts = x.line.rts) :
    ((s.modSlice b f).slice c).line.rts = (s.slice c).line.rts := State.slice_modSlice_of (fun x => x.line.rts) s b c f h
@[simp] theorem State.modSlice_slice_line_drainMark (s : State) (b c : Bay) (f : Slice → Slice) (h : ∀ x, (f x).line.drainMark = x.line.drainMark) :
    ((s.modSlice b f).slice c).line.drainMark = (s.slice c).line.drainMark := State.slice_modSlice_of (fun x => x.line.drainMark) s b c f h
@[simp] theorem State.modSlice_slice_line_receiver (s : State) (b c : Bay) (f : Slice → Slice) (h : ∀ x, (f x).line.receiver = x.line.receiver) :
    ((s.modSlice b f).slice c).line.receiver = (s.slice c).line.receiver := State.slice_modSlice_of (fun x => x.line.receiver) s b c f h
@[simp] theorem State.modSlice_slice_line_lowPeriod (s : State) (b c : Bay) (f : Slice → Slice) (h : ∀ x, (f x).line.lowPeriod = x.line.lowPeriod) :
    ((s.modSlice b f).slice c).line.lowPeriod = (s.slice c).line.lowPeriod := State.slice_modSlice_of (fun x => x.line.lowPeriod) s b c f h
@[simp] theorem State.modSlice_slice_line_looped (s : State) (b c : Bay) (f : Slice → Slice) (h : ∀ x, (f x).line.looped = x.line.looped) :
    ((s.modSlice b f).slice c).line.looped = (s.slice c).line.looped := State.slice_modSlice_of (fun x => x.line.looped) s b c f h
@[simp] theorem State.modSlice_slice_line_conRx (s : State) (b c : Bay) (f : Slice → Slice) (h : ∀ x, (f x).line.conRx = x.line.conRx) :
    ((s.modSlice b f).slice c).line.conRx = (s.slice c).line.conRx := State.slice_modSlice_of (fun x => x.line.conRx) s b c f h
@[simp] theorem State.modSlice_slice_line_conCts (s : State) (b c : Bay) (f : Slice → Slice) (h : ∀ x, (f x).line.conCts = x.line.conCts) :
    ((s.modSlice b f).slice c).line.conCts = (s.slice c).line.conCts := State.slice_modSlice_of (fun x => x.line.conCts) s b c f h
@[simp] theorem State.modSlice_slice_line_ctsRef (s : State) (b c : Bay) (f : Slice → Slice) (h : ∀ x, (f x).line.ctsRef = x.line.ctsRef) :
    ((s.modSlice b f).slice c).line.ctsRef = (s.slice c).line.ctsRef := State.slice_modSlice_of (fun x => x.line.ctsRef) s b c f h
@[simp] theorem State.modSlice_slice_line_rate (s : State) (b c : Bay) (f : Slice → Slice) (h : ∀ x, (f x).line.rate = x.line.rate) :
    ((s.modSlice b f).slice c).line.rate = (s.slice c).line.rate := State.slice_modSlice_of (fun x => x.line.rate) s b c f h

end Sys2Proof.Machine
end

