-- ==== Sys2Proof/Laws/Frames.lean ====
section
/-! SUPPORT. What each shared operation leaves the same: one frame lemma per operation, in the parts of Safety.lean. -/

namespace Sys2Proof.Machine

theorem Part.Same.refl (p : Part) (s : State) : p.Same s s := by cases p <;> simp [Part.Same]

theorem Part.Same.trans {p : Part} {s t u : State} (h₁ : p.Same s t) (h₂ : p.Same t u) : p.Same s u := by
  cases p <;> simp_all [Part.Same]

theorem Part.Same.ite {p : Part} {s t u : State} {c : Prop} [Decidable c] (h₁ : c → p.Same s t) (h₂ : ¬c → p.Same s u) :
    p.Same s (if c then t else u) := by
  split
  · exact h₁ ‹_›
  · exact h₂ ‹_›

/-- A part of one bay's slice holds the same in two slices of that bay. -/
def Part.SameIn (p : Part) (b : Bay) (x y : Slice) : Prop :=
  match p with
  | .lineConfig c => c = b → y.line.config = x.line.config
  | .transmit c =>
      c = b → y.line.queue = x.line.queue ∧ y.line.tx = x.line.tx ∧ y.line.rts = x.line.rts ∧ y.line.drainMark = x.line.drainMark
  | .receive c => c = b → y.line.receiver = x.line.receiver ∧ y.line.lowPeriod = x.line.lowPeriod
  | .looped c => c = b → y.line.looped = x.line.looped
  | .pins c => c = b → y.line.conRx = x.line.conRx ∧ y.line.conCts = x.line.conCts
  | .ctsReference c => c = b → y.line.ctsRef = x.line.ctsRef
  | .rate c => c = b → y.line.rate = x.line.rate
  | .history c => c = b → y.history = x.history
  | .heartbeat c => c = b → y.heartbeat = x.heartbeat
  | .responder c => c = b → y.responder = x.responder
  | .monitor c => c = b → y.monitor = x.monitor
  | .sequencer c => c = b → y.sequencer = x.sequencer
  | .medium c => c = b → y.medium = x.medium
  | .port c => c = b → y.port = x.port
  | .flags c => c = b → y.flags = x.flags
  | .masks c => c = b → y.unmasked = x.unmasked
  | _ => True

variable {p : Part} {s : State} {b : Bay}

theorem modSlice_same {f : Slice → Slice} (h : p.SameIn b (s.slice b) (f (s.slice b))) : p.Same s (s.modSlice b f) := by
  cases p <;> simp only [Part.Same, State.slice_modSlice, State.modSlice_lastServed, State.modSlice_cache, State.modSlice_grant,
    State.modSlice_policy, State.modSlice_link, State.modSlice_resetN, State.modSlice_nextSerial, State.modSlice_freeIndex,
    State.modSlice_pending, and_self] <;> (split <;> simp_all [Part.SameIn])

/-! ## Flags and the link -/

theorem setFlag_same {f : BayFlag} (h : p.flagging b = false) : p.Same s (setFlag b f s) := by
  refine (modSlice_same (f := fun x => { x with flags := x.flags ||| BitVec.twoPow 19 f.bit }) (b := b) ?_).trans ?_
  · cases p <;> simp_all [Part.SameIn, Part.flagging]
  · cases p <;> simp_all [Part.Same, Part.flagging, setFlag, raiseSummary]

theorem setFlagIf_same {c : Bool} {f : BayFlag} (h : p.flagging b = false) : p.Same s (setFlagIf c b f s) :=
  Part.Same.ite (fun _ => setFlag_same h) fun _ => Part.Same.refl _ _

theorem setPartFlag_same {f : PartFlag} (h : p ≠ .partFlags) (h' : p ≠ .summary) : p.Same s (setPartFlag f s) := by
  cases p <;> simp_all [Part.Same, setPartFlag, raiseSummary]

theorem countDrop_same {c : DropCause} (h : p ≠ .linkErrors) : p.Same s (s.modLink (countDrop c)) := by
  cases p <;> cases c <;> simp_all [Part.Same, countDrop]

theorem dropFrame_same {c : DropCause} (h : p.accounting = false) : p.Same s (dropFrame c s) :=
  (countDrop_same (by cases p <;> simp_all [Part.accounting])).trans
    (setPartFlag_same (by cases p <;> simp_all [Part.accounting]) (by cases p <;> simp_all [Part.accounting]))

theorem toHunt_same (h : p.accounting = false) : p.Same s (toHunt s) := by
  cases p <;> simp_all [Part.Same, Part.accounting, toHunt]

theorem pushReply_same {kind tag : Byte} {a : Answer} (h : p.accounting = false) (ha : p.Same s a.state) :
    p.Same s (pushReply kind tag a) :=
  ha.trans (by cases p <;> simp_all [Part.Same, Part.accounting, pushReply])

theorem judgeFrame_same {tag : Byte} {act : State → State} (h : p.accounting = false) (ha : ∀ s, p.Same s (act s)) :
    p.Same s (judgeFrame tag act s) := by
  unfold judgeFrame
  exact Part.Same.ite (fun _ => toHunt_same h) fun _ => Part.Same.ite (fun _ => (toHunt_same h).trans (dropFrame_same h)) fun _ =>
    Part.Same.ite (fun _ => (toHunt_same h).trans (dropFrame_same h)) fun _ => (toHunt_same h).trans (ha _)

/-- A request touches the link's accounting and what its owner touches. -/
theorem takeRequest_same {kind tag : Byte} {act : State → Answer} (h : p.accounting = false) (ha : ∀ s, p.Same s (act s).state) :
    p.Same s (takeRequest kind tag act s) :=
  judgeFrame_same h fun s => pushReply_same h (ha s)

theorem onBay_same {n : Byte} {act : Bay → State → Answer} (ha : ∀ b, bayOf n = some b → p.Same s (act b s).state) :
    p.Same s (onBay n act s).state := by
  unfold onBay
  split
  · rename_i h
    exact ha _ (by simp [bayOf, h])
  · exact Part.Same.refl _ _

theorem withField_same {α : Type} {v : Option α} {act : α → State → Answer} (ha : ∀ x, p.Same s (act x s).state) :
    p.Same s (withField v act s).state := by
  cases v
  · exact Part.Same.refl _ _
  · exact ha _

/-! ## Transmit side -/

theorem ctsCheck_same (h : p.sending b = false) : p.Same s (ctsCheck b s) := by
  refine Part.Same.trans ?_ (setFlagIf_same (by cases p <;> simp_all [Part.sending, Part.flagging]))
  exact modSlice_same (by cases p <;> simp_all [Part.SameIn, Part.sending])

theorem appendTx_same {els : List TxElement} (h : p ≠ .transmit b) : p.Same s (appendTx b els s) := by
  unfold appendTx
  exact modSlice_same (by cases p <;> simp_all [Part.SameIn])

theorem drainCheck_same (h : p.sending b = false) : p.Same s (drainCheck b s) := by
  unfold drainCheck
  refine Part.Same.ite (fun _ => Part.Same.trans ?_ (setFlag_same (by cases p <;> simp_all [Part.sending, Part.flagging]))) fun _ =>
    Part.Same.refl _ _
  exact modSlice_same (by cases p <;> simp_all [Part.SameIn, Part.sending])

theorem startFrom_same (h : p.sending b = false) (els : List TxElement) : ∀ s, p.Same s (startFrom b els s) := by
  induction els with
  | nil => exact fun s => Part.Same.refl _ _
  | cons e rest ih =>
    intro s
    unfold startFrom
    refine Part.Same.ite (fun _ => ?_) fun _ => Part.Same.refl _ _
    cases e with
    | data v => exact modSlice_same (by cases p <;> simp_all [Part.SameIn, Part.sending, Line.startElement])
    | brk d => exact modSlice_same (by cases p <;> simp_all [Part.SameIn, Part.sending, Line.startElement])
    | rts l =>
      refine Part.Same.trans ?_ ((ctsCheck_same h).trans ((drainCheck_same h).trans (ih _)))
      exact modSlice_same (by cases p <;> simp_all [Part.SameIn, Part.sending])

theorem startTx_same (h : p.sending b = false) : p.Same s (startTx b s) :=
  Part.Same.ite (fun _ => startFrom_same h _ _) fun _ => Part.Same.refl _ _

theorem completeTx_same (h : p.sending b = false) : p.Same s (completeTx b s) := by
  refine Part.Same.trans ?_ ((drainCheck_same h).trans (startTx_same h))
  exact modSlice_same (by cases p <;> simp_all [Part.SameIn, Part.sending])

theorem sendAct_same {d : Bool} {bytes : List Byte} (h : p.sending b = false) : p.Same s (sendAct d bytes b s).state := by
  unfold sendAct
  split
  · exact Part.Same.refl _ _
  · refine Part.Same.trans ?_ ((appendTx_same (by rintro rfl; simp [Part.sending] at h)).trans (startTx_same h))
    exact modSlice_same (by cases p <;> simp_all [Part.SameIn, Part.sending])

theorem joinTx_same {e : TxElement} (h : p.sending b = false) : p.Same s (joinTx e b s).state := by
  unfold joinTx
  simp only []
  split
  · exact Part.Same.refl _ _
  · exact (appendTx_same (by rintro rfl; simp [Part.sending] at h)).trans (startTx_same h)

end Sys2Proof.Machine
end

