-- ==== Sys2Proof/Laws/FramesConsole.lean ====
section
/-! SUPPORT. What the console side leaves the same: matchers, responder and monitor, rate unit, history and receiver. -/

namespace Sys2Proof.Machine

variable {p : Part} {s : State} {b : Bay}

/-! ## Matchers, responder and monitor -/

theorem clearMatchers_same (h : p ≠ .heartbeat b) (h' : p ≠ .responder b) : p.Same s (clearMatchers b s) := by
  unfold clearMatchers
  refine Part.Same.trans (modSlice_same (b := b) ?_) (modSlice_same ?_)
  · cases p <;> simp_all [Part.SameIn]
  · cases p <;> simp_all [Part.SameIn]

theorem armResponder_same (h : p ≠ .responder b) : p.Same s (armResponder b s) := by
  unfold armResponder
  exact modSlice_same (by cases p <;> simp_all [Part.SameIn])

theorem disarmResponder_same (h : p ≠ .responder b) : p.Same s (disarmResponder b s) := by
  unfold disarmResponder
  exact modSlice_same (by cases p <;> simp_all [Part.SameIn])

theorem promptMatch_same (h : p.receiving b = false) : p.Same s (promptMatch b s) := by
  have hr : p ≠ .responder b := by rintro rfl; simp [Part.receiving] at h
  have ht : p ≠ .transmit b := by rintro rfl; simp [Part.receiving] at h
  have hf : p.flagging b = false := by cases p <;> simp_all [Part.receiving, Part.flagging]
  unfold promptMatch
  refine Part.Same.trans ?_ (startTx_same (by cases p <;> simp_all [Part.receiving, Part.sending]))
  refine Part.Same.trans ?_ (modSlice_same (by cases p <;> simp_all [Part.SameIn]))
  refine Part.Same.trans ?_ (disarmResponder_same hr)
  exact Part.Same.ite (fun _ => (appendTx_same ht).trans (setFlag_same hf)) fun _ => setFlag_same hf

theorem presentToPrompt_same {e : HistoryEntry} (h : p.receiving b = false) : p.Same s (presentToPrompt b e s) := by
  have hj : p.Same s (s.modResponder b fun r => { r with j := (matchStep (s.slice b).responder.pattern (s.slice b).responder.j e).1 }) :=
    modSlice_same (by cases p <;> simp_all [Part.SameIn, Part.receiving])
  unfold presentToPrompt
  exact Part.Same.ite (fun _ => Part.Same.ite (fun _ => hj.trans (promptMatch_same h)) fun _ => hj) fun _ => Part.Same.refl _ _

theorem outputActivity_same (h : p ≠ .monitor b) : p.Same s (outputActivity b s) := by
  unfold outputActivity
  exact modSlice_same (by cases p <;> simp_all [Part.SameIn])

theorem heartbeatMatch_same (h : p ≠ .monitor b) : p.Same s (heartbeatMatch b s) := by
  unfold heartbeatMatch
  exact modSlice_same (by cases p <;> simp_all [Part.SameIn])

theorem presentToHeartbeat_same {e : HistoryEntry} (h : p ≠ .heartbeat b) (h' : p ≠ .monitor b) :
    p.Same s (presentToHeartbeat b e s) := by
  have hj : p.Same s (s.modHeartbeat b fun r => { r with j := (matchStep (s.slice b).heartbeat.pattern (s.slice b).heartbeat.j e).1 }) :=
    modSlice_same (by cases p <;> simp_all [Part.SameIn])
  unfold presentToHeartbeat
  exact Part.Same.ite (fun _ => hj.trans (heartbeatMatch_same h')) fun _ => hj

theorem presentToMonitor_same {e : HistoryEntry} (h : p ≠ .monitor b) : p.Same s (presentToMonitor b e s) :=
  Part.Same.ite (fun _ => outputActivity_same h) fun _ => Part.Same.refl _ _

theorem suspendMonitor_same {own : Bool} (h : p ≠ .monitor b) : p.Same s (suspendMonitor own b s) := by
  unfold suspendMonitor
  exact modSlice_same (by cases p <;> simp_all [Part.SameIn])

/-- A departure that is not the monitor's own request suspends it (R74). -/
theorem suspendMonitor_departed (b : Bay) (s : State) : (s.slice b).monitor.Departed ((suspendMonitor false b s).slice b).monitor := by
  have h : ((suspendMonitor false b s).slice b).monitor = (s.slice b).monitor.suspend := by
    simp [suspendMonitor, State.modMonitor]
  rw [h]
  exact ⟨fun hd => if_pos hd, fun hd => if_neg hd⟩

theorem actionCheck_same (h : p ≠ .monitor b) (h' : p.flagging b = false) : p.Same s (actionCheck b s) := by
  have hm (f : Monitor → Monitor) : p.Same s (s.modMonitor b f) := modSlice_same (by cases p <;> simp_all [Part.SameIn])
  unfold actionCheck
  simp only []
  split
  · exact Part.Same.ite (fun _ => hm _) fun _ => (hm _).trans (setFlag_same h')
  · exact Part.Same.ite (fun _ => hm _) fun _ => (hm _).trans (setFlag_same h')
  · exact hm _

/-! ## Rate unit -/

theorem startDetection_same (h : p.detecting b = false) : p.Same s (startDetection b s) := by
  have h1 : p ≠ .heartbeat b := by rintro rfl; simp [Part.detecting] at h
  have h2 : p ≠ .responder b := by rintro rfl; simp [Part.detecting] at h
  unfold startDetection
  exact Part.Same.trans (modSlice_same (by cases p <;> simp_all [Part.SameIn, Part.detecting])) (clearMatchers_same h1 h2)

theorem lockLine_same {n i : Nat} {r : DetectionRecord} (h : p ≠ .rate b) (h' : p ≠ .receive b) (hf : p.flagging b = false) :
    p.Same s (lockLine b n i r s) := by
  unfold lockLine
  exact Part.Same.trans (modSlice_same (by cases p <;> simp_all [Part.SameIn, Line.endDetection])) (setFlag_same hf)

theorem failDetection_same {r : DetectionRecord} (h : p ≠ .rate b) (h' : p ≠ .receive b) (hf : p.flagging b = false) :
    p.Same s (failDetection b r s) := by
  unfold failDetection
  exact Part.Same.trans (modSlice_same (by cases p <;> simp_all [Part.SameIn, Line.endDetection])) (setFlag_same hf)

theorem concludeDetection_same {x : Nat × Nat} {w q c : Nat} (h : p ≠ .rate b) (h' : p ≠ .receive b) (hf : p.flagging b = false) :
    p.Same s (concludeDetection b x w q c s) :=
  Part.Same.ite (fun _ => lockLine_same h h' hf) fun _ =>
    Part.Same.ite (fun _ => lockLine_same h h' hf) fun _ => failDetection_same h h' hf

theorem evaluateDetection_same {w q c : Nat} (h : p ≠ .rate b) (h' : p ≠ .receive b) (hf : p.flagging b = false) :
    p.Same s (evaluateDetection b w q c s) := concludeDetection_same h h' hf

theorem detectionPulse_same {len : Nat} {d : Detection} (h : p.receiving b = false) : p.Same s (detectionPulse b len d s) := by
  have h1 : p ≠ .rate b := by rintro rfl; simp [Part.receiving] at h
  have h2 : p ≠ .receive b := by rintro rfl; simp [Part.receiving] at h
  have h3 : p.flagging b = false := by cases p <;> simp_all [Part.receiving, Part.flagging]
  have h4 : p.Same s (outputActivity b (s.modRate b fun r => { r with detection := some (d.step len) })) :=
    Part.Same.trans (modSlice_same (by cases p <;> simp_all [Part.SameIn]))
      (outputActivity_same (by rintro rfl; simp [Part.receiving] at h))
  unfold detectionPulse
  exact Part.Same.ite (fun _ => Part.Same.refl _ _) fun _ =>
    Part.Same.ite (fun _ => h4.trans (evaluateDetection_same h1 h2 h3)) fun _ => h4

theorem trackingPulse_same {len c : Nat} (h : p ≠ .rate b) (hf : p.flagging b = false) : p.Same s (trackingPulse b len c s) := by
  have hr (f : RateUnit → RateUnit) : p.Same s (s.modRate b f) := modSlice_same (by cases p <;> simp_all [Part.SameIn])
  unfold trackingPulse
  exact Part.Same.ite (fun _ => Part.Same.refl _ _) fun _ => Part.Same.ite (fun _ => hr _) fun _ =>
    Part.Same.ite (fun _ => Part.Same.refl _ _) fun _ => (hr _).trans (setFlagIf_same hf)

theorem redetectCheck_same {w : WindowCounts} (h : p.detecting b = false) (hf : p.flagging b = false) :
    p.Same s (redetectCheck b w s) :=
  Part.Same.ite (fun _ => (setFlag_same hf).trans (startDetection_same h)) fun _ => Part.Same.refl _ _

theorem closeWindow_same {w : WindowCounts} (h : p ≠ .rate b) (hf : p.flagging b = false) : p.Same s (closeWindow b w s) := by
  unfold closeWindow
  exact Part.Same.trans (modSlice_same (by cases p <;> simp_all [Part.SameIn])) (setFlag_same hf)

theorem presentToWindow_same {k : EntryKind} (h : p.detecting b = false) (hf : p.flagging b = false) :
    p.Same s (presentToWindow b k s) := by
  have hr : p ≠ .rate b := by rintro rfl; simp [Part.detecting] at h
  unfold presentToWindow
  exact Part.Same.ite (fun _ => (closeWindow_same hr hf).trans (redetectCheck_same h hf)) fun _ =>
    modSlice_same (by cases p <;> simp_all [Part.SameIn])

theorem setRate_same {n i : Nat} (h : p ≠ .rate b) (h' : p ≠ .receive b) : p.Same s (setRate n i b s).state := by
  unfold setRate
  refine modSlice_same ?_
  cases hd : (s.slice b).line.rate.detection <;> cases p <;> simp_all [Part.SameIn, Line.endDetection]

theorem rateSetAct_same {d : Bool} {v : Nat} (h : p ≠ .rate b) (h' : p ≠ .receive b) : p.Same s (rateSetAct d v b s).state := by
  unfold rateSetAct
  split
  · exact setRate_same h h'
  · split
    · exact setRate_same h h'
    · exact Part.Same.refl _ _

theorem rateModeAct_same {m : LoopPolicy} (h : p ≠ .rate b) : p.Same s (rateModeAct m b s).state := by
  unfold rateModeAct
  simp only []
  split
  · exact Part.Same.refl _ _
  · exact modSlice_same (by cases p <;> simp_all [Part.SameIn])

theorem qualityAct_same {c : Bool} (h : p ≠ .rate b) : p.Same s (qualityAct c b s).state := by
  unfold qualityAct
  exact Part.Same.ite (fun _ => modSlice_same (by cases p <;> simp_all [Part.SameIn])) fun _ => Part.Same.refl _ _

/-! ## History -/

theorem modHistory_same {f : History → History} (h : p ≠ .history b) : p.Same s (s.modHistory b f) :=
  modSlice_same (by cases p <;> simp_all [Part.SameIn])

theorem historySizeAct_same {n : Nat} (h : p ≠ .history b) : p.Same s (historySizeAct n b s).state := by
  unfold historySizeAct
  split
  · exact Part.Same.refl _ _
  · split
    · exact Part.Same.refl _ _
    · simp only [accept]
      exact modHistory_same h

theorem historyAct_same {start : SeqNo} {n : Nat} : p.Same s (historyAct start n b s).state := by
  unfold historyAct
  simp only []
  split <;> exact Part.Same.refl _ _

theorem attachAct_same {form : StartForm} {start : SeqNo} {n : Nat} (h : p ≠ .history b) :
    p.Same s (attachAct form start n b s).state := by
  cases form <;> simp only [attachAct, attachAt, accept]
  · exact modHistory_same h
  · exact modHistory_same h
  · split <;> try simp only []
    · exact modHistory_same h
    · exact modHistory_same h
    · exact Part.Same.refl _ _

theorem creditAct_same {n : Nat} (h : p ≠ .history b) : p.Same s (creditAct n b s).state := by
  unfold creditAct
  split
  · exact Part.Same.refl _ _
  · simp only [accept]
    exact modHistory_same h

/-! ## Receiver -/

theorem handEntry_same {e : HistoryEntry} (h : p.receiving b = false) : p.Same s (handEntry b e s) := by
  have h1 : p ≠ .monitor b := by rintro rfl; simp [Part.receiving] at h
  have h2 : p ≠ .heartbeat b := by rintro rfl; simp [Part.receiving] at h
  have h3 : p ≠ .history b := by rintro rfl; simp [Part.receiving] at h
  unfold handEntry
  exact (modHistory_same h3).trans ((presentToHeartbeat_same h2 h1).trans ((presentToPrompt_same h).trans
    ((presentToMonitor_same h1).trans (presentToWindow_same (by cases p <;> simp_all [Part.receiving, Part.detecting])
      (by cases p <;> simp_all [Part.receiving, Part.flagging])))))

theorem judgeBreak_same {len c : Nat} {d : Bool} (h : p.receiving b = false) : p.Same s (judgeBreak b len c d s) :=
  Part.Same.ite (fun _ => handEntry_same h) fun _ => Part.Same.ite (fun _ => handEntry_same h) fun _ => Part.Same.refl _ _

theorem risePulse_same {len : Nat} (h : p.receiving b = false) : p.Same s (risePulse b len s) := by
  have h1 : p ≠ .rate b := by rintro rfl; simp [Part.receiving] at h
  have h2 : p.flagging b = false := by cases p <;> simp_all [Part.receiving, Part.flagging]
  have hl (s' : State) (f : Line → Line) (hf : ∀ x : Slice, p.SameIn b x { x with line := f x.line }) : p.Same s' (s'.modLine b f) :=
    modSlice_same (hf _)
  unfold risePulse
  simp only []
  split
  · exact (hl _ _ fun x => by cases p <;> simp_all [Part.SameIn, Part.receiving]).trans (detectionPulse_same h)
  · exact hl _ _ fun x => by cases p <;> simp_all [Part.SameIn, Part.receiving]
  · have h0 := hl s (fun l => { l with lowPeriod := none }) fun x => by cases p <;> simp_all [Part.SameIn, Part.receiving]
    have h3 (s') := hl s' (fun l => { l with receiver := l.receiver.rise }) fun x => by cases p <;> simp_all [Part.SameIn, Part.receiving]
    split
    · exact h0.trans (h3 _)
    · exact h0.trans ((h3 _).trans ((trackingPulse_same h1 h2).trans (judgeBreak_same h)))

theorem lineSetAct_same {c : LineConfig} (h : p ≠ .lineConfig b) (h' : p ≠ .receive b) (hs : p.sending b = false) :
    p.Same s (lineSetAct c b s).state := by
  unfold lineSetAct
  refine Part.Same.trans (modSlice_same ?_) ((ctsCheck_same hs).trans (startTx_same hs))
  split <;> cases p <;> simp_all [Part.SameIn, Part.sending]

end Sys2Proof.Machine
end

