-- ==== Sys2Proof/Laws/FramesMedia.lean ====
section
/-! SUPPORT. What the media ports, the medium records and the block cache leave the same. -/

namespace Sys2Proof.Machine

variable {p : Part} {s : State} {b : Bay}

theorem modCache_same {f : Cache → Cache} (h : p ≠ .cache) : p.Same s (s.modCache f) := by cases p <;> simp_all [Part.Same]

theorem modPort_same {f : Port → Port} (h : p ≠ .port b) : p.Same s (s.modPort b f) :=
  modSlice_same (by cases p <;> simp_all [Part.SameIn])

theorem modMedium_same {f : Medium → Medium} (h : p ≠ .medium b) : p.Same s (s.modMedium b f) :=
  modSlice_same (by cases p <;> simp_all [Part.SameIn])

theorem Part.ne_cache_of_moving (h : p.moving = false) : p ≠ .cache := by rintro rfl; simp [Part.moving] at h

theorem Part.ne_port_of_moving (h : p.moving = false) (b : Bay) : p ≠ .port b := by rintro rfl; simp [Part.moving] at h

theorem tell_same {m : PortMessage} (h : p ≠ .port b) : p.Same s (tell b m s) := by
  unfold tell
  exact modPort_same h

theorem complete_same {r : ServerRequest} {st : ServerStatus} (h : p ≠ .port b) : p.Same s (complete b r st s) := by
  unfold complete
  exact (modPort_same h).trans (tell_same h)

theorem modRequest_same {n : Nat} {f : ServerRequest → ServerRequest} (h : p ≠ .port b) : p.Same s (modRequest b n f s) := by
  unfold modRequest
  exact modPort_same h

/-! ## The transfer engine and its reports -/

theorem askFetch_same {n l : Nat} (h : p ≠ .cache) : p.Same s (askFetch b n l s).1 := by
  unfold askFetch
  split
  · exact Part.Same.refl _ _
  · dsimp only
    split
    · exact Part.Same.refl _ _
    · exact modCache_same h

theorem startTransfer_same {r : ServerRequest} {i : Fin 256} (h : p.moving = false) : p.Same s (startTransfer b r i s) := by
  unfold startTransfer
  exact (modCache_same (Part.ne_cache_of_moving h)).trans (modPort_same (Part.ne_port_of_moving h b))

theorem lookRead_same {ask : Bool} {r : ServerRequest} (h : p.moving = false) : p.Same s (lookRead ask b r s).1 := by
  unfold lookRead
  split
  · split
    · exact startTransfer_same h
    · exact Part.Same.refl _ _
  · split
    · exact askFetch_same (Part.ne_cache_of_moving h)
    · exact Part.Same.refl _ _

theorem lookWrite_same {r : ServerRequest} (h : p.moving = false) : p.Same s (lookWrite b r s).1 := by
  unfold lookWrite
  split
  · exact Part.Same.refl _ _
  · split
    · split
      · exact startTransfer_same h
      · exact Part.Same.refl _ _
    · split
      · exact Part.Same.refl _ _
      · exact (modCache_same (Part.ne_cache_of_moving h)).trans (startTransfer_same h)

theorem lookRequest_same {ask : Bool} {n : Nat} (h : p.moving = false) : p.Same s (lookRequest ask b n s).1 := by
  unfold lookRequest
  split
  · exact Part.Same.refl _ _
  · split
    · exact lookWrite_same h
    · exact lookRead_same h

theorem lookAll_same {ask : Bool} (h : p.moving = false) (ns : List Nat) : ∀ s, p.Same s (lookAll ask b ns s).1 := by
  induction ns with
  | nil => exact fun s => Part.Same.refl _ _
  | cons n rest ih => exact fun s => (lookRequest_same h).trans (ih _)

theorem judgePorts_same {ask : Bool} (h : p.moving = false) (bs : List Bay) : ∀ s, p.Same s (judgePorts ask bs s).1 := by
  induction bs with
  | nil => exact fun s => Part.Same.refl _ _
  | cons b rest ih => exact fun s => (lookAll_same h _ _).trans (ih _)

theorem serve_same (h : p.moving = false) (n : Nat) : ∀ rs s, p.Same s (serve n rs s) := by
  induction n with
  | zero => exact fun rs s => by cases rs <;> exact Part.Same.refl _ _
  | succ n ih =>
    intro rs s
    cases rs with
    | nil => exact Part.Same.refl _ _
    | cons r rest => exact (judgePorts_same h _ _).trans (ih _ _)

theorem settle_same {t : State} (h : p.moving = false) (ht : p.Same s t) : p.Same s (settle b s t) :=
  ht.trans (serve_same h _ _ _)

/-! ## Abandonment, the media link and the medium -/

theorem abandon_same (h : p.moving = false) : p.Same s (abandon b s) := by
  unfold abandon
  split
  · exact Part.Same.refl _ _
  · exact (modCache_same (Part.ne_cache_of_moving h)).trans (modPort_same (Part.ne_port_of_moving h b))

theorem forgetRequests_same (h : p ≠ .cache) : p.Same s (forgetRequests b s) := modCache_same h

theorem linkDown_same (h : p.moving = false) (hf : p.flagging b = false) : p.Same s (linkDown b s) := by
  unfold linkDown
  exact Part.Same.ite (fun _ => (abandon_same h).trans ((forgetRequests_same (Part.ne_cache_of_moving h)).trans
    ((modPort_same (Part.ne_port_of_moving h b)).trans (setFlag_same hf)))) fun _ => Part.Same.refl _ _

theorem emptyMedium_same (h : p ≠ .medium b) (hf : p.flagging b = false) : p.Same s (emptyMedium b s) := by
  unfold emptyMedium
  exact (modMedium_same h).trans (setFlag_same hf)

theorem freeHeld_same {st : EntryState} (h : p ≠ .cache) : p.Same s (freeHeld b st s) := modCache_same h

theorem endRequests_same (h : p.moving = false) : p.Same s (endRequests b s) := by
  unfold endRequests
  exact (forgetRequests_same (Part.ne_cache_of_moving h)).trans (modPort_same (Part.ne_port_of_moving h b))

theorem forceEject_same (h : p ≠ .cache) (h' : p ≠ .medium b) (hf : p.flagging b = false) : p.Same s (forceEject b s) := by
  unfold forceEject
  exact (modCache_same h).trans ((freeHeld_same h).trans (emptyMedium_same h' hf))

theorem ejectPresent_same {force : Bool} (h : p.moving = false) (h' : p ≠ .medium b) (hf : p.flagging b = false) :
    p.Same s (ejectPresent force b s) := by
  have hc := Part.ne_cache_of_moving h
  have h3 : p.Same s (freeHeld b .valid ((freeHeld b .filling (endRequests b (abandon b s))).modCache fun c =>
      { c with fetches := orphanFetches b c.fetches })) :=
    (abandon_same h).trans ((endRequests_same h).trans ((freeHeld_same hc).trans ((modCache_same hc).trans (freeHeld_same hc))))
  unfold ejectPresent
  refine h3.trans ?_
  exact Part.Same.ite (fun _ => emptyMedium_same h' hf) fun _ =>
    Part.Same.ite (fun _ => forceEject_same hc h' hf) fun _ => modMedium_same h'

theorem powerOffEject_same (h : p.moving = false) (h' : p ≠ .medium b) (hf : p.flagging b = false) :
    p.Same s (powerOffEject b s) := by
  unfold powerOffEject
  exact Part.Same.ite (fun _ => ejectPresent_same h h' hf) fun _ => Part.Same.refl _ _

theorem mediaPowerLoss_same (h : p.moving = false) (h' : p ≠ .medium b) (hf : p.flagging b = false) :
    p.Same s (mediaPowerLoss b s) :=
  settle_same h ((linkDown_same h hf).trans (powerOffEject_same h h' hf))

/-! ## Server requests and transfers -/

theorem arrive_same {tag : Byte} {pass : State → State} (h : p ≠ .port b) (h' : p ≠ .medium b) (hp : ∀ s, p.Same s (pass s)) :
    p.Same s (arrive b tag pass s) := by
  unfold arrive
  exact Part.Same.ite (fun _ => Part.Same.refl _ _) fun _ => Part.Same.ite (fun _ => tell_same h) fun _ =>
    Part.Same.ite (fun _ => tell_same h) fun _ => Part.Same.ite (fun _ => (modMedium_same h').trans (tell_same h)) fun _ => hp _

theorem admit_same {r : ServerRequest} (h : p ≠ .port b) (h' : p ≠ .serials) : p.Same s (enqueue b r s) := by
  refine (modPort_same (b := b) (f := fun q => { q with queue := q.queue ++ [r] }) h).trans ?_
  cases p <;> first | exact (h' rfl).elim | exact rfl | exact ⟨rfl, rfl⟩ | exact ⟨rfl, rfl, rfl, rfl⟩

theorem admitAndServe_same {r : ServerRequest} (h : p.moving = false) (h' : p ≠ .serials) : p.Same s (admitAndServe b r s) := by
  have ha : p.Same s (enqueue b r s) := admit_same (Part.ne_port_of_moving h b) h'
  unfold admitAndServe
  exact Part.Same.ite (fun _ => ha.trans ((askFetch_same (Part.ne_cache_of_moving h)).trans (serve_same h _ _ _))) fun _ =>
    ha.trans (serve_same h _ _ _)

theorem unpin_same {t : Transfer} (h : p.moving = false) : p.Same s (unpin b t s) := by
  unfold unpin
  exact (modCache_same (Part.ne_cache_of_moving h)).trans (modPort_same (Part.ne_port_of_moving h b))

theorem endRead_same {t : Transfer} {r : ServerRequest} (h : p.moving = false) : p.Same s (endRead b t r s) := by
  have hq := Part.ne_port_of_moving h b
  have h1 {m} : p.Same s (tell b m (unpin b t s)) := (unpin_same h).trans (tell_same hq)
  unfold endRead
  refine Part.Same.ite (fun _ => settle_same h (h1.trans (complete_same hq))) fun _ => ?_
  exact Part.Same.ite
    (fun _ => (h1.trans (modRequest_same hq)).trans ((askFetch_same (Part.ne_cache_of_moving h)).trans (serve_same h _ _ _)))
    fun _ => (h1.trans (modRequest_same hq)).trans (serve_same h _ _ _)

theorem endWrite_same {t : Transfer} {r : ServerRequest} {d : Block} (h : p.moving = false) : p.Same s (endWrite b t r d s) := by
  unfold endWrite
  exact settle_same h ((unpin_same h).trans ((modCache_same (Part.ne_cache_of_moving h)).trans
    (modRequest_same (Part.ne_port_of_moving h b))))

/-! ## Requests of the management processor and deadlines -/

theorem insertAct_same {n : Nat} {w e : Bool} (h : p ≠ .medium b) : p.Same s (insertAct n w e b s).state := by
  unfold insertAct
  split
  · exact Part.Same.refl _ _
  · split
    · exact Part.Same.refl _ _
    · simp only [accept]
      exact modMedium_same h

theorem ejectMedium_same {force : Bool} (h : p.moving = false) (h' : p ≠ .medium b) (hf : p.flagging b = false) :
    p.Same s (ejectMedium force b s) := by
  unfold ejectMedium
  split
  · exact ejectPresent_same h h' hf
  · exact Part.Same.ite (fun _ => forceEject_same (Part.ne_cache_of_moving h) h' hf) fun _ => Part.Same.refl _ _
  · exact Part.Same.refl _ _

theorem ejectAct_same {force : Bool} (h : p.moving = false) (h' : p ≠ .medium b) (hf : p.flagging b = false) :
    p.Same s (ejectAct force b s).state := by
  unfold ejectAct
  split
  · exact Part.Same.refl _ _
  · exact settle_same h (ejectMedium_same h h' hf)

theorem answerCounted_same {c : ReplyCode} (h : p ≠ .cache) : p.Same s (answerCounted c s).state := modCache_same h

theorem fillAct_same {id i g : Nat} {d : Block} (h : p.moving = false) : p.Same s (fillAct id i g d s).state := by
  have hc := Part.ne_cache_of_moving h
  unfold fillAct
  split
  · exact answerCounted_same hc
  · split
    · refine Part.Same.trans ?_ (answerCounted_same hc)
      split
      · exact Part.Same.ite (fun _ => settle_same h (modCache_same hc)) fun _ => modCache_same hc
      · exact Part.Same.ite (fun _ => settle_same h (Part.Same.refl _ _)) fun _ => Part.Same.refl _ _
    · split
      · exact answerCounted_same hc
      · split
        · exact answerCounted_same hc
        · split
          · exact answerCounted_same hc
          · exact settle_same h (modCache_same hc)

theorem completeAll_same {st : ServerStatus} (h : p ≠ .port b) (rs : List ServerRequest) :
    ∀ s, p.Same s (rs.foldl (fun s r => complete b r st s) s) := by
  induction rs with
  | nil => exact fun s => Part.Same.refl _ _
  | cons r rest ih => exact fun s => (complete_same h).trans (ih _)

theorem failReads_same {ns : List Nat} (h : p ≠ .port b) : p.Same s (failReads b ns s) := completeAll_same h _ _

theorem failFetch_same {r : FetchRecord} (h : p.moving = false) : p.Same s (failFetch r s) :=
  settle_same h ((modCache_same (Part.ne_cache_of_moving h)).trans (failReads_same (Part.ne_port_of_moving h _)))

theorem fillFailAct_same {id : Nat} (h : p.moving = false) : p.Same s (fillFailAct id s).state := by
  have hc := Part.ne_cache_of_moving h
  unfold fillFailAct
  split
  · exact answerCounted_same hc
  · split
    · exact (settle_same h (modCache_same hc)).trans (answerCounted_same hc)
    · exact failFetch_same h

theorem countTimeout_same (h : p ≠ .cache) : p.Same s (countTimeout s) := modCache_same h

theorem resolveBlock_same {f : Bool} {n : Nat} (h : p ≠ .port b) (hf : p.flagging b = false) :
    p.Same s (resolveBlock b f n s) := by
  have h1 : p.Same s (modRequest b n (fun r => { r with resolved := r.resolved + 1, failed := r.failed || f }) s) :=
    modRequest_same h
  unfold resolveBlock
  refine h1.trans ?_
  dsimp only
  split
  · exact Part.Same.refl _ _
  · exact Part.Same.ite (fun _ => Part.Same.ite (fun _ => (complete_same h).trans (setFlag_same hf)) fun _ => complete_same h)
      fun _ => Part.Same.refl _ _

theorem finishEject_same (h : p ≠ .medium b) (hf : p.flagging b = false) : p.Same s (finishEject b s) := by
  unfold finishEject
  exact Part.Same.ite (fun _ => emptyMedium_same h hf) fun _ => Part.Same.refl _ _

theorem resolveWriteback_same {r : WritebackRecord} {ok : Bool} (h : p.moving = false) (h' : p ≠ .medium r.bay)
    (hf : p.flagging r.bay = false) : p.Same s (resolveWriteback r ok s) := by
  unfold resolveWriteback
  refine settle_same h (Part.Same.trans ?_ (finishEject_same h' hf))
  cases r.request with
  | none =>
    dsimp only [Option.elim]
    exact modCache_same (Part.ne_cache_of_moving h)
  | some n =>
    dsimp only [Option.elim]
    exact (modCache_same (Part.ne_cache_of_moving h)).trans (resolveBlock_same (Part.ne_port_of_moving h _) hf)

theorem writeDoneAct_same {id : Nat} {ok : Bool} (h : p.moving = false) (h' : p.isMedium = false) (hf : p.isFlags = false)
    (hs : p ≠ .summary) : p.Same s (writeDoneAct id ok s).state := by
  have hc := Part.ne_cache_of_moving h
  unfold writeDoneAct
  split
  · exact answerCounted_same hc
  · split
    · exact (settle_same h (modCache_same hc)).trans (answerCounted_same hc)
    · exact resolveWriteback_same h (by rintro rfl; simp [Part.isMedium] at h')
        (by cases p <;> simp_all [Part.flagging, Part.isFlags])

end Sys2Proof.Machine
end

