-- ==== Sys2Proof/Laws/FramesPower.lean ====
section
/-! SUPPORT. What the power sequencers, the grant queue, the resets and the link leave the same. -/

namespace Sys2Proof.Machine

variable {p : Part} {s : State} {b : Bay}

theorem modGrant_same {f : GrantQueue → GrantQueue} (h : p ≠ .grant) : p.Same s (s.modGrant f) := by cases p <;> simp_all [Part.Same]

theorem modPolicy_same {f : PolicyStore → PolicyStore} (h : p ≠ .policy) : p.Same s (s.modPolicy f) := by
  cases p <;> simp_all [Part.Same]

theorem modSeq_same {f : Sequencer → Sequencer} (h : p ≠ .sequencer b) : p.Same s (s.modSeq b f) :=
  modSlice_same (by cases p <;> simp_all [Part.SameIn])

theorem modMonitor_same {f : Monitor → Monitor} (h : p ≠ .monitor b) : p.Same s (s.modMonitor b f) :=
  modSlice_same (by cases p <;> simp_all [Part.SameIn])

theorem Part.flagging_of_granting (h : p.granting = false) (b : Bay) : p.flagging b = false := by
  cases p <;> simp_all [Part.granting, Part.flagging]

theorem Part.ne_of_granting (h : p.granting = false) (b : Bay) :
    p ≠ .sequencer b ∧ p ≠ .responder b ∧ p ≠ .monitor b ∧ p ≠ .grant ∧ p.detecting b = false := by
  cases p <;> simp_all [Part.granting, Part.detecting]

theorem Part.of_powering (h : p.powering b = false) : p.granting = false ∧ p.moving = false ∧ p ≠ .medium b := by
  simpa [Part.powering, and_assoc] using h

theorem setLastCommanded_same {on : Bool} (h : p ≠ .policy) : p.Same s (setLastCommanded on b s) := by
  unfold setLastCommanded
  exact modPolicy_same h

theorem btnSenseCheck_same {v : Bool} (h : p.flagging b = false) : p.Same s (btnSenseCheck b v s) := setFlagIf_same h

theorem changeState_same {st : SeqState} {t : Option (SeqTimer × Nat)} (h : p ≠ .sequencer b) (hf : p.flagging b = false) :
    p.Same s (changeState b st t s) := by
  unfold changeState
  exact (modSeq_same h).trans (setFlag_same hf)

theorem leaveOn_same {own : Bool} (h : p ≠ .responder b) (h' : p ≠ .monitor b) : p.Same s (leaveOn own b s) :=
  (disarmResponder_same h).trans (suspendMonitor_same h')

theorem losePower_same {own : Bool} (h : p.powering b = false) : p.Same s (losePower own b s) := by
  obtain ⟨hg, hm, hd⟩ := Part.of_powering h
  obtain ⟨_, h2, h3, _⟩ := Part.ne_of_granting hg b
  exact (mediaPowerLoss_same hm hd (Part.flagging_of_granting hg b)).trans (leaveOn_same h2 h3)

theorem reachOnEffects_same (h : p ≠ .responder b) (h' : p ≠ .monitor b) : p.Same s (reachOnEffects b s) := by
  unfold reachOnEffects
  exact (armResponder_same h).trans (modMonitor_same h')

theorem release_same (h : p ≠ .grant) : p.Same s (release b s) := modGrant_same h

theorem reachOn_same (h : p.granting = false) : p.Same s (reachOn b s) := by
  obtain ⟨h1, h2, h3, h4, h5⟩ := Part.ne_of_granting h b
  have h6 : p.Same s (reachOnEffects b (release b (changeState b .on none s))) :=
    (changeState_same h1 (Part.flagging_of_granting h b)).trans ((release_same h4).trans (reachOnEffects_same h2 h3))
  unfold reachOn
  exact Part.Same.ite (fun _ => h6.trans (startDetection_same h5)) fun _ => h6

theorem grantHead_same {rest : List Bay} (h : p.granting = false) : p.Same s (grantHead b rest s) := by
  obtain ⟨h1, _, _, h4, _⟩ := Part.ne_of_granting h b
  have h5 {f t} : p.Same s (changeState b .powering t (s.modGrant f)) :=
    (modGrant_same h4).trans (changeState_same h1 (Part.flagging_of_granting h b))
  unfold grantHead
  exact Part.Same.ite (fun _ => h5.trans (reachOn_same h)) fun _ => h5

theorem attemptFrom_same (h : p.granting = false) (bs : List Bay) : ∀ s, p.Same s (attemptFrom bs s) := by
  induction bs with
  | nil => exact fun s => Part.Same.refl _ _
  | cons b rest ih => exact fun s => Part.Same.ite (fun _ => (grantHead_same h).trans (ih _)) fun _ => Part.Same.refl _ _

theorem attempt_same (h : p.granting = false) : p.Same s (attempt s) := attemptFrom_same h _ _

theorem joinQueue_same (h : p.granting = false) : p.Same s (joinQueue b s) := by
  obtain ⟨h1, _, _, h4, _⟩ := Part.ne_of_granting h b
  have h5 {f} : p.Same s ((changeState b .queued none s).modGrant f) :=
    (changeState_same h1 (Part.flagging_of_granting h b)).trans (modGrant_same h4)
  unfold joinQueue
  exact Part.Same.ite (fun _ => h5.trans (attempt_same h)) fun _ => h5

theorem leaveQueue_same (h : p.granting = false) : p.Same s (leaveQueue b s) := by
  obtain ⟨h1, _, h3, h4, _⟩ := Part.ne_of_granting h b
  have h5 {f} : p.Same s (suspendMonitor false b ((changeState b .off none s).modGrant f)) :=
    (changeState_same h1 (Part.flagging_of_granting h b)).trans ((modGrant_same h4).trans (suspendMonitor_same h3))
  unfold leaveQueue
  exact Part.Same.ite (fun _ => h5.trans (attempt_same h)) fun _ => h5

theorem enterHoldOff_same {own v : Bool} (h : p.powering b = false) : p.Same s (enterHoldOff own v b s) := by
  have hg := (Part.of_powering h).1
  obtain ⟨h1, _, _, h4, _⟩ := Part.ne_of_granting hg b
  have h5 {t f} : p.Same s (losePower own b ((changeState b .holdOff t s).modSeq b f)) :=
    (changeState_same h1 (Part.flagging_of_granting hg b)).trans ((modSeq_same h1).trans (losePower_same h))
  unfold enterHoldOff
  exact Part.Same.ite (fun _ => h5.trans ((release_same h4).trans (attempt_same hg))) fun _ => h5

theorem enterResetting_same {own : Bool} (h : p ≠ .sequencer b) (h' : p ≠ .responder b) (hm : p ≠ .monitor b)
    (hf : p.flagging b = false) : p.Same s (enterResetting own b s) :=
  (changeState_same h hf).trans (leaveOn_same h' hm)

theorem enterSoftStopping_same (h : p ≠ .sequencer b) (h' : p ≠ .responder b) (hm : p ≠ .monitor b) (hf : p.flagging b = false) :
    p.Same s (enterSoftStopping b s) := by
  unfold enterSoftStopping
  exact (changeState_same h hf).trans ((modSeq_same h).trans (leaveOn_same h' hm))

theorem serverStopped_same (h : p.powering b = false) : p.Same s (serverStopped b s) := by
  have hg := (Part.of_powering h).1
  have hf := Part.flagging_of_granting hg b
  exact (changeState_same (Part.ne_of_granting hg b).1 hf).trans ((setFlag_same hf).trans (losePower_same h))

theorem powerDone_same {on : Bool} {t : State} (h : p ≠ .policy) (ht : p.Same s t) : p.Same s (powerDone on b t).state :=
  ht.trans (setLastCommanded_same h)

theorem setPendingOn_same {v : Bool} (h : p ≠ .sequencer b) : p.Same s (setPendingOn v b s) := by
  unfold setPendingOn
  exact modSeq_same h

/-! ## Actions of requests -/

theorem powerOnAct_same (h : p.granting = false) (h' : p ≠ .policy) : p.Same s (powerOnAct b s).state := by
  unfold powerOnAct
  split
  · exact powerDone_same h' (joinQueue_same h)
  · exact powerDone_same h' (Part.Same.refl _ _)
  · exact powerDone_same h' (Part.Same.refl _ _)
  · exact powerDone_same h' (Part.Same.refl _ _)
  · exact Part.Same.refl _ _
  · exact Part.Same.refl _ _
  · exact powerDone_same h' (setPendingOn_same (Part.ne_of_granting h b).1)
  · exact Part.Same.refl _ _

theorem powerOffSoftAct_same (h : p.granting = false) (h' : p ≠ .policy) : p.Same s (powerOffSoftAct b s).state := by
  obtain ⟨h1, h2, h3, _, _⟩ := Part.ne_of_granting h b
  unfold powerOffSoftAct
  split
  · exact powerDone_same h' (Part.Same.refl _ _)
  · exact powerDone_same h' (Part.Same.refl _ _)
  · exact powerDone_same h' (leaveQueue_same h)
  · exact Part.Same.refl _ _
  · exact Part.Same.refl _ _
  · exact powerDone_same h' (enterSoftStopping_same h1 h2 h3 (Part.flagging_of_granting h b))
  · exact powerDone_same h' (setPendingOn_same h1)
  · exact Part.Same.refl _ _

theorem powerOffHardAct_same (h : p.powering b = false) (h' : p ≠ .policy) : p.Same s (powerOffHardAct b s).state := by
  have hg := (Part.of_powering h).1
  obtain ⟨h1, h2, h3, _, _⟩ := Part.ne_of_granting hg b
  unfold powerOffHardAct
  split
  · exact powerDone_same h' (Part.Same.refl _ _)
  · exact powerDone_same h' (leaveQueue_same hg)
  · exact powerDone_same h' (enterHoldOff_same h)
  · exact powerDone_same h' (enterHoldOff_same h)
  · exact powerDone_same h' (enterHoldOff_same h)
  · exact powerDone_same h' (enterHoldOff_same h)
  · exact powerDone_same h' (setPendingOn_same h1)
  · exact powerDone_same h' ((changeState_same h1 (Part.flagging_of_granting hg b)).trans (suspendMonitor_same h3))

theorem powerCycleAct_same (h : p.powering b = false) (h' : p ≠ .policy) : p.Same s (powerCycleAct b s).state := by
  have hg := (Part.of_powering h).1
  unfold powerCycleAct
  split
  · exact powerDone_same h' (joinQueue_same hg)
  · exact powerDone_same h' (Part.Same.refl _ _)
  · exact Part.Same.refl _ _
  · exact Part.Same.refl _ _
  · exact Part.Same.refl _ _
  · exact powerDone_same h' (enterHoldOff_same h)
  · exact powerDone_same h' (setPendingOn_same (Part.ne_of_granting hg b).1)
  · exact Part.Same.refl _ _

theorem powerResetAct_same (h : p ≠ .sequencer b) (h' : p ≠ .responder b) (hm : p ≠ .monitor b) (hf : p.flagging b = false) :
    p.Same s (powerResetAct b s).state := by
  unfold powerResetAct
  split <;> first | exact Part.Same.refl _ _ | exact enterResetting_same h h' hm hf

theorem powerClearFaultAct_same (h : p ≠ .sequencer b) (hm : p ≠ .monitor b) (hf : p.flagging b = false) :
    p.Same s (powerClearFaultAct b s).state := by
  unfold powerClearFaultAct
  split
  · exact (changeState_same h hf).trans (suspendMonitor_same hm)
  · exact Part.Same.refl _ _

theorem powerSetAct_same {x : PowerSettings} (h : p ≠ .sequencer b) : p.Same s (powerSetAct x b s).state := by
  unfold powerSetAct
  dsimp only
  split
  · exact Part.Same.refl _ _
  · dsimp only [accept]
    exact modSeq_same h

theorem budgetAct_same {n d : Nat} (h : p.granting = false) : p.Same s (budgetAct n d s).state := by
  unfold budgetAct
  dsimp only
  split
  · exact Part.Same.refl _ _
  · dsimp only [accept]
    exact (modGrant_same (Part.ne_of_granting h 0).2.2.2.1).trans (attempt_same h)

theorem storeAct_same {r : Byte} {f : StoreFields} (h : p ≠ .policy) : p.Same s (storeAct r f s).state := by
  unfold storeAct
  split
  · exact modPolicy_same h
  · split
    · exact withField_same fun x => modPolicy_same h
    · exact Part.Same.refl _ _

/-! ## Resets -/

theorem controllerReset_same {c : BitVec 4} {v : Bool} (h : p.kept = true) : p.Same s (controllerReset c v s) := by
  have hs (b : Bay) : (controllerReset c v s).slice b = (s.slice b).afterReset := by
    change (s.slices.map Slice.afterReset)[b.val] = _
    rw [Vector.getElem_map]
    rfl
  cases p <;> simp_all [Part.Same, Part.kept, Slice.afterReset, Line.afterReset] <;> simp [controllerReset]

theorem softReset_same (h : p.kept = true ∨ p = .hold ∨ p = .resetN) : p.Same s (softReset s) := by
  rcases h with h | rfl | rfl
  · exact controllerReset_same h
  · rfl
  · rfl

theorem warmReset_same (h : p.kept = true) : p.Same s (warmReset s) := by
  have h1 : p.Same s { s.modPolicy PolicyStore.cutOff with resetN := true } := by
    cases p <;> first | (simp [Part.kept] at h; done) | exact rfl | exact ⟨rfl, rfl⟩
  exact h1.trans (controllerReset_same h)

/-! ## The link -/

theorem raiseSummary_same {c : Bool} (h : p ≠ .summary) : p.Same s (raiseSummary c s) := by
  cases p <;> simp_all [Part.Same, raiseSummary]

theorem statusBayAct_same (h : p ≠ .flags b) (h' : p ≠ .sequencer b) : p.Same s (statusBayAct b s).state :=
  modSlice_same (by cases p <;> simp_all [Part.SameIn])

theorem statusPartAct_same (h : p.accounting = false) : p.Same s (statusPartAct s).state := by
  cases p <;> simp_all [Part.Same, Part.accounting, statusPartAct, accept]

theorem maskBayAct_same {m : BitVec 24} (h : p ≠ .masks b) (h' : p ≠ .summary) : p.Same s (maskBayAct m b s).state := by
  simp only [maskBayAct, accept]
  exact (modSlice_same (by cases p <;> simp_all [Part.SameIn])).trans (raiseSummary_same h')

theorem maskPartAct_same {m : BitVec 24} (h : p ≠ .partMasks) (h' : p ≠ .summary) : p.Same s (maskPartAct m s).state := by
  simp only [maskPartAct, accept]
  exact Part.Same.trans (by cases p <;> simp_all [Part.Same]) (raiseSummary_same h')

theorem restartNow_same (h : p.kept = true ∨ p = .hold ∨ p = .resetN) : p.Same s (restartNow s) :=
  Part.Same.ite (fun _ => softReset_same h) fun _ => modPolicy_same (by
    rcases h with h | rfl | rfl
    · rintro rfl; simp [Part.kept] at h
    · simp
    · simp)

theorem takeRestart_same {tag : Byte} (h : p.kept = true ∨ p = .hold ∨ p = .resetN) : p.Same s (takeRestart tag s) := by
  have ha : p.accounting = false := by
    rcases h with h | rfl | rfl
    · cases p <;> simp_all [Part.kept, Part.accounting]
    · rfl
    · rfl
  exact Part.Same.ite (fun _ => toHunt_same ha) fun _ => Part.Same.ite (fun _ => (toHunt_same ha).trans (dropFrame_same ha))
    fun _ => (toHunt_same ha).trans (restartNow_same h)

end Sys2Proof.Machine
end

