-- ==== Sys2Proof/Laws/PerInstr.lean ====
section
/-! SUPPORT. A statement about every command as syntax, one lemma per constructor. -/

namespace Sys2Proof.Laws

open Sys2Proof.Machine

set_option Elab.async false

/-- A command is spelled by a frame exactly where it is a management request, and the frame carries its tag. -/
def Spelling.Statement (i : Instr) : Prop :=
  (encodeRequest i).isSome = i.isRequest ∧ ∀ f, encodeRequest i = some f → f.tag = requestTag i

theorem Spelling.ident (tag : Byte) : Spelling.Statement (.ident tag) :=
  ⟨rfl, by simp [encodeRequest, requestTag]⟩

theorem Spelling.statusBay (tag scope : Byte) : Spelling.Statement (.statusBay tag scope) :=
  ⟨rfl, by simp [encodeRequest, requestTag]⟩

theorem Spelling.statusPart (tag : Byte) : Spelling.Statement (.statusPart tag) :=
  ⟨rfl, by simp [encodeRequest, requestTag]⟩

theorem Spelling.mask (tag scope : Byte) (marks : BitVec 24) : Spelling.Statement (.mask tag scope marks) :=
  ⟨rfl, by simp [encodeRequest, requestTag]⟩

theorem Spelling.restart (tag : Byte) : Spelling.Statement (.restart tag) :=
  ⟨rfl, by simp [encodeRequest, requestTag]⟩

theorem Spelling.lineSet (tag line : Byte) (f : LineFields) : Spelling.Statement (.lineSet tag line f) :=
  ⟨rfl, by simp [encodeRequest, requestTag]⟩

theorem Spelling.send (tag line drain : Byte) (bytes : List Byte) : Spelling.Statement (.send tag line drain bytes) :=
  ⟨rfl, by simp [encodeRequest, requestTag]⟩

theorem Spelling.sendBreak (tag line duration : Byte) : Spelling.Statement (.sendBreak tag line duration) :=
  ⟨rfl, by simp [encodeRequest, requestTag]⟩

theorem Spelling.rts (tag line level : Byte) : Spelling.Statement (.rts tag line level) :=
  ⟨rfl, by simp [encodeRequest, requestTag]⟩

theorem Spelling.rateSet (tag line form : Byte) (value : BitVec 32) : Spelling.Statement (.rateSet tag line form value) :=
  ⟨rfl, by simp [encodeRequest, requestTag]⟩

theorem Spelling.rateMode (tag line mode : Byte) : Spelling.Statement (.rateMode tag line mode) :=
  ⟨rfl, by simp [encodeRequest, requestTag]⟩

theorem Spelling.rateDetect (tag line : Byte) : Spelling.Statement (.rateDetect tag line) :=
  ⟨rfl, by simp [encodeRequest, requestTag]⟩

theorem Spelling.quality (tag line clear : Byte) : Spelling.Statement (.quality tag line clear) :=
  ⟨rfl, by simp [encodeRequest, requestTag]⟩

theorem Spelling.historySize (tag line pages : Byte) : Spelling.Statement (.historySize tag line pages) :=
  ⟨rfl, by simp [encodeRequest, requestTag]⟩

theorem Spelling.historyClear (tag line : Byte) : Spelling.Statement (.historyClear tag line) :=
  ⟨rfl, by simp [encodeRequest, requestTag]⟩

theorem Spelling.history (tag line : Byte) (start : SeqNo) (count : Byte) : Spelling.Statement (.history tag line start count) :=
  ⟨rfl, by simp [encodeRequest, requestTag]⟩

theorem Spelling.attach (tag line form : Byte) (start : SeqNo) (credit : BitVec 16) : Spelling.Statement (.attach tag line form start credit) :=
  ⟨rfl, by simp [encodeRequest, requestTag]⟩

theorem Spelling.credit (tag line : Byte) (count : BitVec 16) : Spelling.Statement (.credit tag line count) :=
  ⟨rfl, by simp [encodeRequest, requestTag]⟩

theorem Spelling.detach (tag line : Byte) : Spelling.Statement (.detach tag line) :=
  ⟨rfl, by simp [encodeRequest, requestTag]⟩

theorem Spelling.matchSetHeartbeat (tag line : Byte) (pattern : List Byte) : Spelling.Statement (.matchSetHeartbeat tag line pattern) :=
  ⟨rfl, by simp [encodeRequest, requestTag]⟩

theorem Spelling.matchSetPrompt (tag line enable oneShot : Byte) (window : BitVec 16) (pattern response : List Byte) : Spelling.Statement (.matchSetPrompt tag line enable oneShot window pattern response) :=
  ⟨rfl, by simp [encodeRequest, requestTag]⟩

theorem Spelling.watchSet (tag bay : Byte) (f : WatchFields) : Spelling.Statement (.watchSet tag bay f) :=
  ⟨rfl, by simp [encodeRequest, requestTag]⟩

theorem Spelling.watchClear (tag bay : Byte) : Spelling.Statement (.watchClear tag bay) :=
  ⟨rfl, by simp [encodeRequest, requestTag]⟩

theorem Spelling.powerOn (tag bay : Byte) : Spelling.Statement (.powerOn tag bay) :=
  ⟨rfl, by simp [encodeRequest, requestTag]⟩

theorem Spelling.powerOffSoft (tag bay : Byte) : Spelling.Statement (.powerOffSoft tag bay) :=
  ⟨rfl, by simp [encodeRequest, requestTag]⟩

theorem Spelling.powerOffHard (tag bay : Byte) : Spelling.Statement (.powerOffHard tag bay) :=
  ⟨rfl, by simp [encodeRequest, requestTag]⟩

theorem Spelling.powerCycle (tag bay : Byte) : Spelling.Statement (.powerCycle tag bay) :=
  ⟨rfl, by simp [encodeRequest, requestTag]⟩

theorem Spelling.powerReset (tag bay : Byte) : Spelling.Statement (.powerReset tag bay) :=
  ⟨rfl, by simp [encodeRequest, requestTag]⟩

theorem Spelling.powerClearFault (tag bay : Byte) : Spelling.Statement (.powerClearFault tag bay) :=
  ⟨rfl, by simp [encodeRequest, requestTag]⟩

theorem Spelling.powerSet (tag bay : Byte) (f : PowerFields) : Spelling.Statement (.powerSet tag bay f) :=
  ⟨rfl, by simp [encodeRequest, requestTag]⟩

theorem Spelling.budget (tag budget delay : Byte) : Spelling.Statement (.budget tag budget delay) :=
  ⟨rfl, by simp [encodeRequest, requestTag]⟩

theorem Spelling.store (tag record : Byte) (f : StoreFields) : Spelling.Statement (.store tag record f) :=
  ⟨rfl, by simp [encodeRequest, requestTag]⟩

theorem Spelling.insert (tag bay : Byte) (capacity : BitVec 32) (writable ejectOnPowerOff : Byte) : Spelling.Statement (.insert tag bay capacity writable ejectOnPowerOff) :=
  ⟨rfl, by simp [encodeRequest, requestTag]⟩

theorem Spelling.eject (tag bay force : Byte) : Spelling.Statement (.eject tag bay force) :=
  ⟨rfl, by simp [encodeRequest, requestTag]⟩

theorem Spelling.cacheSet (tag : Byte) (f : CacheFields) : Spelling.Statement (.cacheSet tag f) :=
  ⟨rfl, by simp [encodeRequest, requestTag]⟩

theorem Spelling.cacheQuery (tag : Byte) : Spelling.Statement (.cacheQuery tag) :=
  ⟨rfl, by simp [encodeRequest, requestTag]⟩

theorem Spelling.fill (tag id index : Byte) (generation : BitVec 16) (data : Block) : Spelling.Statement (.fill tag id index generation data) :=
  ⟨rfl, by simp [encodeRequest, requestTag]⟩

theorem Spelling.fillFail (tag id : Byte) : Spelling.Statement (.fillFail tag id) :=
  ⟨rfl, by simp [encodeRequest, requestTag]⟩

theorem Spelling.writeDone (tag id outcome : Byte) : Spelling.Statement (.writeDone tag id outcome) :=
  ⟨rfl, by simp [encodeRequest, requestTag]⟩

theorem Spelling.undefinedRequest (tag kind : Byte) : Spelling.Statement (.undefinedRequest tag kind) :=
  ⟨rfl, by simp [encodeRequest, requestTag]⟩

theorem Spelling.linkFrameDropped (cause : DropCause) : Spelling.Statement (.linkFrameDropped cause) :=
  ⟨rfl, by simp [encodeRequest, requestTag]⟩

theorem Spelling.outgoingFrameStart (mosi : Byte) : Spelling.Statement (.outgoingFrameStart mosi) :=
  ⟨rfl, by simp [encodeRequest, requestTag]⟩

theorem Spelling.outgoingFrameEnd (mosi : Byte) : Spelling.Statement (.outgoingFrameEnd mosi) :=
  ⟨rfl, by simp [encodeRequest, requestTag]⟩

theorem Spelling.characterReceived (line : Bay) (data : Byte) (parity stop : Bool) : Spelling.Statement (.characterReceived line data parity stop) :=
  ⟨rfl, by simp [encodeRequest, requestTag]⟩

theorem Spelling.lowPulseEnd (line : Bay) (internal : Bool) (length : Nat) : Spelling.Statement (.lowPulseEnd line internal length) :=
  ⟨rfl, by simp [encodeRequest, requestTag]⟩

theorem Spelling.detectionWindowExpiry (line : Bay) : Spelling.Statement (.detectionWindowExpiry line) :=
  ⟨rfl, by simp [encodeRequest, requestTag]⟩

theorem Spelling.ctsChange (line : Bay) (level : Bool) : Spelling.Statement (.ctsChange line level) :=
  ⟨rfl, by simp [encodeRequest, requestTag]⟩

theorem Spelling.txBreakLowEnd (line : Bay) : Spelling.Statement (.txBreakLowEnd line) :=
  ⟨rfl, by simp [encodeRequest, requestTag]⟩

theorem Spelling.txElementComplete (line : Bay) : Spelling.Statement (.txElementComplete line) :=
  ⟨rfl, by simp [encodeRequest, requestTag]⟩

theorem Spelling.idleFlushExpiry (line : Bay) : Spelling.Statement (.idleFlushExpiry line) :=
  ⟨rfl, by simp [encodeRequest, requestTag]⟩

theorem Spelling.promptWindowExpiry (bay : Bay) : Spelling.Statement (.promptWindowExpiry bay) :=
  ⟨rfl, by simp [encodeRequest, requestTag]⟩

theorem Spelling.watchTimerExpiry (bay : Bay) : Spelling.Statement (.watchTimerExpiry bay) :=
  ⟨rfl, by simp [encodeRequest, requestTag]⟩

theorem Spelling.monitorRequestTaken (bay : Bay) : Spelling.Statement (.monitorRequestTaken bay) :=
  ⟨rfl, by simp [encodeRequest, requestTag]⟩

theorem Spelling.pgoodChange (bay : Bay) (level : Bool) : Spelling.Statement (.pgoodChange bay level) :=
  ⟨rfl, by simp [encodeRequest, requestTag]⟩

theorem Spelling.btnSenseChange (bay : Bay) (level : Bool) : Spelling.Statement (.btnSenseChange bay level) :=
  ⟨rfl, by simp [encodeRequest, requestTag]⟩

theorem Spelling.btnSenseMaskEnd (bay : Bay) : Spelling.Statement (.btnSenseMaskEnd bay) :=
  ⟨rfl, by simp [encodeRequest, requestTag]⟩

theorem Spelling.powerGoodTimerExpiry (bay : Bay) : Spelling.Statement (.powerGoodTimerExpiry bay) :=
  ⟨rfl, by simp [encodeRequest, requestTag]⟩

theorem Spelling.resetPulseTimerExpiry (bay : Bay) : Spelling.Statement (.resetPulseTimerExpiry bay) :=
  ⟨rfl, by simp [encodeRequest, requestTag]⟩

theorem Spelling.buttonPressTimerExpiry (bay : Bay) : Spelling.Statement (.buttonPressTimerExpiry bay) :=
  ⟨rfl, by simp [encodeRequest, requestTag]⟩

theorem Spelling.softStopWaitExpiry (bay : Bay) : Spelling.Statement (.softStopWaitExpiry bay) :=
  ⟨rfl, by simp [encodeRequest, requestTag]⟩

theorem Spelling.holdOffTimerExpiry (bay : Bay) : Spelling.Statement (.holdOffTimerExpiry bay) :=
  ⟨rfl, by simp [encodeRequest, requestTag]⟩

theorem Spelling.sagChange (level : Bool) : Spelling.Statement (.sagChange level) :=
  ⟨rfl, by simp [encodeRequest, requestTag]⟩

theorem Spelling.restoreDelayEnd : Spelling.Statement (.restoreDelayEnd) :=
  ⟨rfl, by simp [encodeRequest, requestTag]⟩

theorem Spelling.mediaOpen (bay : Bay) : Spelling.Statement (.mediaOpen bay) :=
  ⟨rfl, by simp [encodeRequest, requestTag]⟩

theorem Spelling.mediaClose (bay : Bay) : Spelling.Statement (.mediaClose bay) :=
  ⟨rfl, by simp [encodeRequest, requestTag]⟩

theorem Spelling.read (bay : Bay) (tag : Byte) (start : BitVec 32) (count : Nat) : Spelling.Statement (.read bay tag start count) :=
  ⟨rfl, by simp [encodeRequest, requestTag]⟩

theorem Spelling.write (bay : Bay) (tag : Byte) (start : BitVec 32) (count : Nat) : Spelling.Statement (.write bay tag start count) :=
  ⟨rfl, by simp [encodeRequest, requestTag]⟩

theorem Spelling.capacity (bay : Bay) (tag : Byte) : Spelling.Statement (.capacity bay tag) :=
  ⟨rfl, by simp [encodeRequest, requestTag]⟩

theorem Spelling.ready (bay : Bay) (tag : Byte) : Spelling.Statement (.ready bay tag) :=
  ⟨rfl, by simp [encodeRequest, requestTag]⟩

theorem Spelling.serverRequestInvalid (bay : Bay) (tag : Byte) : Spelling.Statement (.serverRequestInvalid bay tag) :=
  ⟨rfl, by simp [encodeRequest, requestTag]⟩

theorem Spelling.transferEnd (bay : Bay) (data : Block) : Spelling.Statement (.transferEnd bay data) :=
  ⟨rfl, by simp [encodeRequest, requestTag]⟩

theorem Spelling.fetchDeadlineExpiry (id : Byte) : Spelling.Statement (.fetchDeadlineExpiry id) :=
  ⟨rfl, by simp [encodeRequest, requestTag]⟩

theorem Spelling.writebackDeadlineExpiry (id : Byte) : Spelling.Statement (.writebackDeadlineExpiry id) :=
  ⟨rfl, by simp [encodeRequest, requestTag]⟩

theorem Spelling.storeWriteComplete : Spelling.Statement (.storeWriteComplete) :=
  ⟨rfl, by simp [encodeRequest, requestTag]⟩

theorem Spelling.coldReset (pinAsserted : Bool) : Spelling.Statement (.coldReset pinAsserted) :=
  ⟨rfl, by simp [encodeRequest, requestTag]⟩

theorem Spelling.warmReset : Spelling.Statement (.warmReset) :=
  ⟨rfl, by simp [encodeRequest, requestTag]⟩

theorem Spelling.resetNRelease : Spelling.Statement (.resetNRelease) :=
  ⟨rfl, by simp [encodeRequest, requestTag]⟩

theorem Spelling.startEdge (line : Bay) (internal : Bool) : Spelling.Statement (.startEdge line internal) :=
  ⟨rfl, by simp [encodeRequest, requestTag]⟩

theorem Spelling.falseStart (line : Bay) : Spelling.Statement (.falseStart line) :=
  ⟨rfl, by simp [encodeRequest, requestTag]⟩

theorem Spelling.byteExchange (mosi : Byte) : Spelling.Statement (.byteExchange mosi) :=
  ⟨rfl, by simp [encodeRequest, requestTag]⟩

end Sys2Proof.Laws
end

