-- ==== Sys2Proof/Laws/Requests.lean ====
section
/-! SUPPORT. What the judgement of a request, the bay check and the field checks do, once each, and how a slice is read and written. -/

namespace Sys2Proof.Machine

/-! ## Operands -/

@[simp] theorem bayByte_toNat (b : Bay) : (bayByte b).toNat = b.val := by
  simp [bayByte]
  omega

/-- A byte that names a bay goes to that bay. -/
@[simp] theorem onBay_bayByte (b : Bay) (act : Bay → State → Answer) (s : State) : onBay (bayByte b) act s = act b s := by
  simp [onBay]

/-- A bay above 7 is refused with RANGE. -/
theorem onBay_above {n : Byte} (h : 8 ≤ n.toNat) (act : Bay → State → Answer) (s : State) : onBay n act s = refuse .range s := by
  simp [onBay]
  omega

@[simp] theorem withField_some {α : Type} (x : α) (act : α → State → Answer) (s : State) : withField (some x) act s = act x s := rfl

@[simp] theorem withField_none {α : Type} (act : α → State → Answer) (s : State) : withField none act s = refuse .malformed s := rfl

@[simp] theorem onOff_onOffByte (v : Bool) : onOff (onOffByte v) = some v := by cases v <;> rfl

/-! ## The judgement of a frame (R166) -/

/-- A frame taken under no hold and no restart, with a tag and room for a reply, goes to its owner. -/
theorem judgeFrame_taken {tag : Byte} {s : State} (act : State → State) (h : takesRequest tag s) :
    judgeFrame tag act s = act (toHunt s) := by
  obtain ⟨h1, h2, h3, h4⟩ := h
  unfold judgeFrame
  rw [if_neg (by simp [h1, h2]), if_neg h3, if_neg (by simpa [Config.replyMax] using h4)]

/-- A frame under the link hold, or while a restart is pending, is discarded. -/
theorem judgeFrame_discarded {tag : Byte} {s : State} (act : State → State) (h : s.link.hold = true ∨ s.policy.restartPending = true) :
    judgeFrame tag act s = toHunt s := by
  unfold judgeFrame
  rw [if_pos (by simpa using h)]

/-- A frame with tag 0 is dropped. -/
theorem judgeFrame_zero {s : State} (act : State → State) (h : s.link.hold = false) (h' : s.policy.restartPending = false) :
    judgeFrame 0 act s = dropFrame .tag (toHunt s) := by
  unfold judgeFrame
  rw [if_neg (by simp [h, h']), if_pos rfl]

/-- A frame that finds four replies queued is dropped. -/
theorem judgeFrame_full {tag : Byte} {s : State} (act : State → State) (h : s.link.hold = false) (h' : s.policy.restartPending = false)
    (ht : tag ≠ 0) (hf : 4 ≤ s.link.replies.length) : judgeFrame tag act s = dropFrame .overflow (toHunt s) := by
  unfold judgeFrame
  rw [if_neg (by simp [h, h']), if_neg ht, if_pos (by simpa [Config.replyMax] using hf)]

/-- A request that is taken is answered by its owner, with the receiver hunting, and the reply joins the queue. -/
theorem takeRequest_taken {kind tag : Byte} {s : State} (act : State → Answer) (h : takesRequest tag s) :
    takeRequest kind tag act s = pushReply kind tag (act (toHunt s)) := judgeFrame_taken _ h

@[simp] theorem toHunt_slice (s : State) (b : Bay) : (toHunt s).slice b = s.slice b := rfl

/-! ## Slices -/

/-- A change of one slice puts the changed slice in its place. -/
theorem modSlice_eq_withSlice (s : State) (b : Bay) (f : Slice → Slice) : s.modSlice b f = s.withSlice b (f (s.slice b)) := rfl

@[simp] theorem slice_withSlice_self (s : State) (b : Bay) (x : Slice) : (s.withSlice b x).slice b = x := by
  change (s.slices.set b x)[b.val] = x
  simp

@[simp] theorem withSlice_withSlice (s : State) (b : Bay) (x y : Slice) : (s.withSlice b x).withSlice b y = s.withSlice b y := by
  simp [State.withSlice]

/-- A slice put where it stands changes nothing. -/
theorem withSlice_slice (s : State) (b : Bay) : s.withSlice b (s.slice b) = s := by
  have h : s.slices.set b (s.slice b) = s.slices := by
    change s.slices.set b.val s.slices[b.val] = s.slices
    simp
  unfold State.withSlice
  rw [h]

/-- Two changes of one slice are one. -/
theorem modSlice_modSlice (s : State) (b : Bay) (f g : Slice → Slice) : (s.modSlice b f).modSlice b g = s.modSlice b (g ∘ f) := by
  simp [modSlice_eq_withSlice]

/-! ## Flags -/

@[simp] theorem raiseSummary_slice (c : Bool) (s : State) (b : Bay) : (raiseSummary c s).slice b = s.slice b := rfl

/-- A flag being set changes its bit of its bay alone. -/
@[simp] theorem setFlag_slice_self (s : State) (b : Bay) (f : BayFlag) :
    (setFlag b f s).slice b = { s.slice b with flags := (s.slice b).flags ||| BitVec.twoPow 19 f.bit } := by
  simp [setFlag]

end Sys2Proof.Machine
end

