-- ==== Sys2Proof/Laws/Store.lean ====
section
/-! SUPPORT. The policy store: what R153 says of a record's check byte, as lemmas about the free value and about the check, and what a
POWER request does to the store. -/

namespace Sys2Proof

/-- The check byte tells the record numbers apart (R153). -/
theorem Config.checkByte_number {r q : Fin 9} (x : Vector Byte 7) (h : r ≠ q) : Config.checkByte r x ≠ Config.checkByte q x :=
  (Config.checkFunction ⟨Config.checkSum⟩).number_counts r q x h

/-- The check byte of content with one byte changed is another (R153). -/
theorem Config.checkByte_content (r : Fin 9) (x : Vector Byte 7) (i : Fin 7) {v : Byte} (h : v ≠ x[i]) :
    Config.checkByte r (x.set i v) ≠ Config.checkByte r x :=
  (Config.checkFunction ⟨Config.checkSum⟩).content_counts r x i v h

namespace Machine

/-- An erased record fails its check (R153). -/
@[simp] theorem NvRecord.passes_none (r : Fin 9) : NvRecord.passes r none = false := rfl

/-- A record written passes its check where its check byte is that of its number and content (R153). -/
@[simp] theorem NvRecord.passes_some (r : Fin 9) (x : NvRecord) :
    NvRecord.passes r (some x) = decide (x.check = Config.checkByte r x.content) := rfl

/-- Writing back what a place holds changes nothing. -/
theorem set_get_self {α : Type} {n : Nat} (v : Vector α n) (i : Fin n) : v.set i (v.get i) = v := by
  ext k h
  by_cases e : i.val = k
  · subst e
    simp [Vector.get_eq_getElem]
  · simp [Vector.getElem_set_ne, e]

/-- The writer's start leaves the RAM copies. -/
@[simp] theorem PolicyStore.startWrite_ramBays (p : PolicyStore) : p.startWrite.ramBays = p.ramBays := by
  unfold PolicyStore.startWrite
  split
  · rfl
  · split <;> rfl

/-- A writer that is busy, or held back by a restart, starts nothing (R156). -/
theorem PolicyStore.startWrite_busy (p : PolicyStore) (h : p.writer ≠ none ∨ p.restartPending = true) : p.startWrite = p := by
  unfold PolicyStore.startWrite
  exact if_pos (by simpa [Option.isSome_iff_ne_none] using h)

/-- An IDLE writer with one dirty record starts its write (R153, R156). -/
theorem PolicyStore.startWrite_one (p : PolicyStore) (b : Bay) (hw : p.writer = none) (hr : p.restartPending = false)
    (hd : p.dirty = BitVec.twoPow 9 (b.val + 1)) :
    p.startWrite = { p with dirty := 0, writer := some (b.succ, (p.ramBays.get b).content), nv := p.nv.set b.succ none } := by
  have hl : p.lowestDirty = some b.succ := by
    unfold PolicyStore.lowestDirty
    rw [hd]
    clear hd
    revert b
    decide
  have hz : BitVec.twoPow 9 (b.val + 1) &&& ~~~(BitVec.twoPow 9 b.succ.val) = 0 := by
    clear hd hl
    revert b
    decide
  unfold PolicyStore.startWrite
  rw [hw, hr, hl]
  simp only [hd, hz, PolicyStore.ramContent, Fin.succ_ne_zero, Fin.pred_succ, Option.isSome_none, Bool.or_self, Bool.false_eq_true,
    if_false, dite_false]

/-- Everything that recording the last commanded state can do to the policy store (R82, R155, R156). -/
theorem setLastCommanded_commanded (on : Bool) (b : Bay) (s : State) :
    PolicyStore.Commanded on b s.policy (setLastCommanded on b s).policy := by
  let k : BayRecord := { s.policy.ramBays.get b with lastOn := on }
  let p : PolicyStore :=
    { s.policy with ramBays := s.policy.ramBays.set b k, dirty := s.policy.dirty ||| BitVec.twoPow 9 (b.val + 1) }
  have hp : (setLastCommanded on b s).policy = if (s.policy.ramBays.get b).lastOn = on then s.policy else p.startWrite := rfl
  by_cases h : (s.policy.ramBays.get b).lastOn = on
  · rw [if_pos h] at hp
    rw [hp]
    refine ⟨?_, fun _ => rfl, fun hn => absurd h hn, fun k hk hn => absurd (hk ▸ h) hn⟩
    rw [← h]
    exact (set_get_self _ b).symm
  · rw [if_neg h] at hp
    rw [hp]
    refine ⟨p.startWrite_ramBays, fun e => absurd e h, fun _ hw => ?_, fun k' hk _ hw hr hd => ?_⟩
    · rw [p.startWrite_busy hw]
    · rw [p.startWrite_one b hw hr (by simp [p, hd])]
      have hk' : p.ramBays.get b = k := by simp [p, Vector.get_eq_getElem]
      subst hk
      simp only [hk', BayRecord.content, k, p, hd]
      split <;> simp only [RestorePolicy.code, *] <;> cases on <;> rfl

end Machine
end Sys2Proof
end

