-- ==== Sys2Proof/Tests/Slice0.lean ====
section
/-! SUPPORT. Tests: the ill-formed terms WellFormed refuses, the worked examples of the specification, and for each statement states and
operands that meet its hypotheses, each clause at the ends of its range. Expected results come from the specification. -/

namespace Sys2Proof.Tests

open Sys2Proof.Machine

set_option Elab.async false

/-! ## WellFormed refuses an ill-formed term -/

theorem test_wf_scope : (Instr.statusBay 1 0xFF).WellFormed = false ∧ (Instr.statusBay 1 0xFE).WellFormed = true := by decide

theorem test_wf_send : (Instr.send 1 0 0 (List.replicate 256 0)).WellFormed = false ∧
    (Instr.send 1 0 0 (List.replicate 255 0)).WellFormed = true := by decide +kernel

theorem test_wf_heartbeat : (Instr.matchSetHeartbeat 1 0 (List.replicate 256 0)).WellFormed = false := by decide +kernel

theorem test_wf_prompt_pattern : (Instr.matchSetPrompt 1 0 0 0 60 (List.replicate 256 0) []).WellFormed = false := by decide +kernel

theorem test_wf_prompt_response : (Instr.matchSetPrompt 1 0 0 0 60 [] (List.replicate 256 0)).WellFormed = false := by decide +kernel

theorem test_wf_undefined : (Instr.undefinedRequest 1 0x01).WellFormed = false ∧ (Instr.undefinedRequest 1 0x37).WellFormed = true := by
  decide

theorem test_wf_pulse : (Instr.lowPulseEnd 0 false 0).WellFormed = false ∧ (Instr.lowPulseEnd 0 false 1).WellFormed = true := by decide

theorem test_wf_fetch : (Instr.fetchDeadlineExpiry 0).WellFormed = false := by decide

theorem test_wf_writeback : (Instr.writebackDeadlineExpiry 0).WellFormed = false := by decide

/-! ## States -/

/-- The state an outcome holds. -/
def after : Host.Outcome State Fault Refusal → State
  | .next t => t
  | _ => State.reset

/-- The reset state with bay 0 changed. -/
def bay (f : Slice → Slice) : State := State.reset.modSlice 0 f

/-- The reset state with the sequencer of bay 0 changed. -/
def seq (f : Sequencer → Sequencer) : State := State.reset.modSeq 0 f

/-- The reset state with the rate unit of line 0 changed. -/
def rate (f : RateUnit → RateUnit) : State := State.reset.modRate 0 f

/-- The reset state with the link changed. -/
def link (f : Link → Link) : State := State.reset.modLink f

/-- The reset state once HELLO has been sent, with bay 0 changed. -/
def quietBay (f : Slice → Slice) : State := (bay f).modLink fun l => { l with helloPending := false }

/-- The reset state with one command waiting. -/
def waiting : State := { State.reset with pending := [.ident 1] }

/-! ## Worked examples of the specification -/

/-- R179's check over the digits 1 to 9, by the definition it gives. -/
theorem test_crc : crc16 [0x31, 0x32, 0x33, 0x34, 0x35, 0x36, 0x37, 0x38, 0x39] = 0x29B1 := by decide +kernel

/-- Section 11.5: the FETCH notice of record 12 takes 16 bytes, with the length field 0x0B, 0x00. -/
theorem test_fetch_notice : (fetchFrame ⟨12, 6, 4, 0, List.replicate 8 false, .pending, none, false⟩).wire.length = 16 ∧
    (fetchFrame ⟨12, 6, 4, 0, List.replicate 8 false, .pending, none, false⟩).wire.take 14 =
      [0xC3, 0x0B, 0x00, 0x73, 0, 12, 6, 4, 0, 0, 0, 0, 0, 8] := by decide +kernel

/-- Section 11.5: the FILL has a payload of 516 bytes. -/
theorem test_fill_frame : (encodeRequest (.fill 40 12 0 4 (Vector.replicate 512 0))).map (fun f => (f.kind, f.payload.length)) =
    some (0x34, 516) := by decide +kernel

/-- Section 2.5: the detection of a slow 57,600 bit/s console, pulse by pulse. -/
theorem test_detection_steps : ([850, 2520, 845, 838, 4190, 841, 1690, 2511].foldl Detection.step {}) = ⟨some 838, 8, 4⟩ := by decide

/-- Section 2.5: the eighth pulse locks entry 6 at d = 6,002. -/
theorem test_detection_lock :
    let t := detectionPulse 5 2511 ⟨some 838, 7, 4⟩ (State.reset.modRate 5 fun r => { r with detection := some ⟨some 838, 7, 4⟩ })
    (t.slice 5).line.rate.divisor = 833 ∧ (t.slice 5).line.rate.mode = .track ∧
      (t.slice 5).line.rate.record = ⟨.table, some 6, some 838, some 6, some 6002, some 8, some 4⟩ ∧ t.flag 5 .rateLocked = true := by
  decide +kernel

/-- Section 2.5 and 2.7: reported rates and deviations. -/
theorem test_reported_rates : reportedRate 838 = 57279 ∧ deviation 833 838 = -5967 ∧ reportedRate 416 = 115385 ∧
    deviation 417 416 = 2404 := by decide

/-- Section 2.7: a tracking line after the pulses of the table, and the pulse that steps B. -/
theorem test_tracking :
    let line (a : Int) := rate fun r => { r with mode := .track, acc := a }
    (([415, 1246, 831, 3320, 520].foldl (fun s n => trackingPulse 0 n 4170 s) (line 0)).slice 0).line.rate.acc = 77 ∧
    ((trackingPulse 0 530 4170 (line 77)).slice 0).line.rate.rejected = 1 ∧
    ((trackingPulse 0 3317 4170 (line (-240))).slice 0).line.rate.acc = -3 ∧
    ((trackingPulse 0 3317 4170 (line (-240))).slice 0).line.rate.divisor = 416 := by decide +kernel

/-- Section 2.7: the arrival at the lower bound flags RATE_DRIFT once. -/
theorem test_drift :
    let s := rate fun r => { r with mode := .track, acc := -200, divisor := 404 }
    let t := trackingPulse 0 324 4040 s
    (t.slice 0).line.rate.divisor = 404 ∧ (t.slice 0).line.rate.acc = -255 ∧ (t.slice 0).line.rate.drift = .lower ∧
      t.flag 0 .rateDrift = true := by decide +kernel

/-- Section 4.1: "HB-OK" found in "HB-HB-OK". -/
theorem test_heartbeat_restart :
    let pattern : List Byte := [0x48, 0x42, 0x2D, 0x4F, 0x4B]
    let feed (j : Nat) (v : Byte) := (matchStep pattern j ⟨.data, v⟩).1
    feed (feed (feed (feed 0 0x48) 0x42) 0x2D) 0x48 = 1 ∧ matchStep pattern 4 ⟨.data, 0x4B⟩ = (0, true) := by decide

/-- Section 9.7: records 0 to 8 with record 4 torn, each other one written with its content and its check byte. -/
def nine (content : Fin 9 → Vector Byte 7) : Vector (Option NvRecord) 9 :=
  Vector.ofFn fun r => if r = 4 then none else some ⟨content r, Config.checkByte r (content r)⟩

/-- The contents of section 9.7: the restore policies with the last commanded states, and the weights. -/
def contents : Fin 9 → Vector Byte 7 :=
  let bayRecord (policy weight : Byte) : Vector Byte 7 := #v[policy, weight, 30, 60, 5, 20, 50]
  fun r => [#v[8, 20, 0, 0, 0, 0, 0], bayRecord 1 4, bayRecord 6 4, bayRecord 2 4, bayRecord 0 4, bayRecord 0 4, bayRecord 1 6, bayRecord 6 4,
    bayRecord 0 4].getD r.val (bayRecord 0 4)

theorem nine_passes (c : Fin 9 → Vector Byte 7) (r : Fin 9) : NvRecord.passes r ((nine c).get r) = decide (r ≠ 4) := by
  by_cases h : r = 4 <;> simp [nine, NvRecord.passes, Vector.get_eq_getElem, h]

theorem nine_read (c : Fin 9 → Vector Byte 7) (r : Fin 9) :
    PolicyStore.read { nv := nine c } r = if r = 4 then none else some (c r) := by
  unfold PolicyStore.read
  rw [nine_passes]
  by_cases h : r = 4 <;> simp [nine, Vector.get_eq_getElem, h]

/-- What a cold reset reads from the records of section 9.7: record 4 alone is torn. -/
theorem nine_cold (c : Fin 9 → Vector Byte 7) : PolicyStore.cold { nv := nine c } =
    { nv := nine c, ramGlobal := .ofContent (c 0), torn := 16
      ramBays := Vector.ofFn fun b => if b = 3 then {} else .ofContent (c b.succ) } := by
  have hg : readGlobal { nv := nine c } = .ofContent (c 0) := by
    unfold readGlobal
    rw [nine_read]
    rfl
  have hb (b : Bay) : readBay { nv := nine c } b = if b = 3 then {} else .ofContent (c b.succ) := by
    have : b.succ = 4 ↔ b = 3 := by revert b; decide
    unfold readBay bayRecordNo
    rw [nine_read]
    by_cases h : b = 3 <;> simp [this, h]
  have ht : tornSet (nine c) = 16 := by
    simp only [tornSet, nine_passes]
    decide
  simp only [PolicyStore.cold, hg, ht, funext hb]

/-- Section 9.7: the cold restore queues bays 0, 1, 5 and 6 with record 4 torn. -/
theorem test_cold_restore : ∃ t, exec (.coldReset false) { State.reset with policy := { nv := nine contents } } = .next t ∧
    t.grant.queue = [0, 1, 5, 6] ∧ t.grant.timer = .running 20 ∧ t.policy.torn = 16 ∧ t.link.helloPending = true ∧
      t.policy.causes = 1 ∧ t.flag 6 .powerState = true ∧ (t.slice 3).sequencer.state = .off := by
  refine ⟨_, rfl, ?_⟩
  simp only [coldReset, coldBlocks, nine_cold]
  decide +kernel

/-- R9, R14, R167: a BREAK on an idle line starts at once and leaves 256 places free. -/
theorem test_break_free_space : (after (exec (.sendBreak 1 0 1) State.reset)).link.replies = [⟨0x8A, 1, [0, 0, 1]⟩] := by decide +kernel

/-- R19: in loopback the line receives the character it sends, whatever the events carry. -/
theorem test_loopback :
    let run (i : Instr) (s : State) := after (exec i s)
    let s := bay fun x => { x with line := { x.line with config := { x.line.config with loopback := true } } }
    let t := run (.characterReceived 0 0 false false) (run (.startEdge 0 true) (run (.send 1 0 0 [0x55]) s))
    (t.slice 0).history.entries = [⟨.data, 0x55⟩] ∧
      ((run (.lowPulseEnd 0 true 9) (run (.startEdge 0 true) (run (.send 1 0 0 [0x54]) (s.modRate 0 fun r =>
        { r with detection := some {} })))).slice 0).line.rate.detection = some ⟨some 1251, 1, 1⟩ := by decide +kernel

/-- R158 and R162: a cold reset of the reset state is the reset state. -/
theorem test_cold_reset : (after (exec (.coldReset false) State.reset)).slices = State.reset.slices ∧
    (after (exec (.coldReset false) State.reset)).link = State.reset.link ∧
    (after (exec (.coldReset false) State.reset)).grant = State.reset.grant ∧
    (after (exec (.coldReset false) State.reset)).policy = State.reset.policy := by decide +kernel

/-! ## States and operands that meet the hypotheses of each statement -/

/-- A link with four replies queued. -/
def full : State := link fun l => { l with replies := List.replicate 4 ⟨0x81, 1, [0]⟩ }

theorem test_meets_StepTakesTheFront : State.reset.pending = [] := rfl

theorem test_meets_FlagIsSet : ((1 : Bay) ≠ 0 ∨ BayFlag.rateLocked ≠ .rateLocked) ∧ ((0 : Bay) ≠ 0 ∨ BayFlag.hang ≠ .rateLocked) ∧
    (Part.flags 1).flagging 0 = false ∧ PartFlag.sagChanged ≠ .linkError ∧ Part.partMasks ≠ .partFlags ∧ Part.partMasks ≠ .summary := by
  decide

theorem test_meets_IdentReplies : takesRequest 1 State.reset := by unfold takesRequest; decide

theorem test_meets_StatusReportsAndClears : takesRequest 255 State.reset ∧ 8 ≤ (8 : Byte).toNat ∧ (8 : Byte) ≠ 0xFF ∧
    8 ≤ (0xFE : Byte).toNat ∧ (0xFE : Byte) ≠ 0xFF := by unfold takesRequest; decide

theorem test_meets_MaskWritesMarks : takesRequest 1 State.reset ∧ 8 ≤ (8 : Byte).toNat ∧ (8 : Byte) ≠ 0xFF ∧ 8 ≤ (0xFE : Byte).toNat ∧
    (0xFE : Byte) ≠ 0xFF := by unfold takesRequest; decide

theorem test_meets_UndefinedKindIsMalformed : takesRequest 1 State.reset ∧
    ∀ kind ∈ [(0x00 : Byte), 0x37, 0x7F], kind.toNat < 128 ∧ requestKinds.contains kind = false := by unfold takesRequest; decide

theorem test_meets_UndefinedKindIsMalformed_fields :
    encodeRequest (.rts 1 8 2) = some ⟨0x0B, 1, [8, 2]⟩ ∧ fieldsDefined (.rts 1 8 2) = false ∧
    ∀ n ∈ [(8 : Byte), 0xFF], encodeRequest (.rts 1 n 1) = some ⟨0x0B, 1, [n, 1]⟩ ∧ fieldsDefined (.rts 1 n 1) = true ∧
      namedBay (.rts 1 n 1) = some n ∧ 8 ≤ n.toNat := by decide

theorem test_meets_FramesAreDroppedAndJudged :
    (full.link.hold = false ∧ full.policy.restartPending = false ∧ 4 ≤ full.link.replies.length) ∧
    (Instr.ident 1).isRequest = true ∧ (link fun l => { l with hold := true }).link.hold = true ∧ requestTag (.ident 0) = 0 ∧
    requestTag (.ident 1) ≠ 0 := by decide +kernel

theorem test_meets_FramesAreDroppedAndJudged_restart : (∀ tag, Instr.ident 1 ≠ .restart tag) ∧
    (State.reset.modPolicy fun p => { p with restartPending := true }).policy.restartPending = true := ⟨nofun, rfl⟩

theorem test_meets_EveryRequestIsReplied : (Instr.ident 1).isRequest = true ∧ (∀ tag, Instr.ident 1 ≠ .restart tag) ∧
    takesRequest (requestTag (.ident 1)) State.reset ∧ ∃ t, exec (.ident 1) State.reset = .next t :=
  ⟨rfl, nofun, by unfold takesRequest; decide, _, rfl⟩

theorem test_meets_RefusedRequestChangesNothing :
    let i := Instr.historySize 1 0 1
    i.isRequest = true ∧ takesRequest (requestTag i) State.reset ∧ (1 : Byte) ≠ 0 ∧ (∀ tag, i ≠ .restart tag) ∧
      (∀ tag id x g d, i ≠ .fill tag id x g d) ∧ (∀ tag id, i ≠ .fillFail tag id) ∧ (∀ tag id o, i ≠ .writeDone tag id o) ∧
      ∃ t, exec i State.reset = .next t ∧ t.link.replies = State.reset.link.replies ++ [⟨0x98, requestTag i, [2]⟩] :=
  ⟨rfl, by unfold takesRequest; decide, by decide, nofun, nofun, nofun, nofun, _, rfl, by decide +kernel⟩

/-- A link with a frame of two bytes in flight, of which `sent` are sent. -/
def flying (origin : Origin) (sent : Nat) : State :=
  link fun l => { l with outgoing := some ⟨origin, [0xC3, 7], sent⟩, replies := [⟨0x81, 1, [0]⟩] }

theorem test_meets_ByteExchangeMovesOneByte :
    (link fun l => { l with hold := true }).link.hold = true ∧
    (let s := quietBay id;
      s.link.hold = false ∧ s.link.receiver = .hunt ∧ s.link.outgoing = none ∧ s.link.helloPending = false ∧ s.link.replies = [] ∧
      s.link.summaryPending = false ∧ (∀ r ∈ s.cache.fetches, r.notice ≠ .pending) ∧
      (∀ r ∈ s.cache.writebacks, r.notice ≠ .pending) ∧ ∀ b, (s.slice b).history.stream = none) ∧
    (let s := flying .reply 0;
      s.link.hold = false ∧ s.link.receiver = .hunt ∧ s.link.outgoing = some ⟨.reply, [0xC3, 7], 0⟩ ∧ 0 + 1 < [(0xC3 : Byte), 7].length) := by
  decide +kernel

/-- A part whose only ready frame is the CONSOLE notice of line 0, with the entries unsent and a gap and a credit. -/
def console (es : List HistoryEntry) (gap credit : Nat) : State :=
  quietBay fun x => { x with history := { entries := es, next := BitVec.ofNat 32 es.length, stream := some ⟨0, gap, credit⟩ } }

/-- R56: the flush threshold, the idle flush, the credit and the gap each at the value where a line becomes eligible. -/
theorem test_attn_line :
    let running (n credit : Nat) := (console (List.replicate n ⟨.data, 0x41⟩) 0 credit).modHistory 0 fun h => { h with idleExpired := false }
    attn (running 64 1) = true ∧ attn (running 63 1) = false ∧ attn (running 64 0) = false ∧ attn (console [] 0 1) = false ∧
      attn (console [] 1 1) = true := by decide +kernel

/-- The hypotheses of the CONSOLE clause on the entries unsent: `es` is sent and `rest` is not. -/
def Splits (es rest : List HistoryEntry) (credit : Nat) : Prop :=
  es.length ≤ min credit 240 ∧ (es.countP fun e => e.kind ≠ .data) ≤ 128 ∧
  (rest = [] ∨ es.length = min credit 240 ∨
    ((es.countP fun e => e.kind ≠ .data) = 128 ∧ ∃ e more, rest = e :: more ∧ decide (e.kind ≠ .data) = true))

theorem test_meets_FramesStartInOrder_splits : Splits [] [] 1 ∧
    Splits (List.replicate 240 ⟨.data, 0x41⟩) [⟨.data, 0x41⟩] 241 ∧ Splits [⟨.brk, 1⟩] [⟨.brk, 2⟩] 1 ∧
    Splits (List.replicate 128 ⟨.brk, 1⟩) [⟨.brk, 1⟩] 241 := by
  refine ⟨⟨by decide, by decide, .inl rfl⟩, ⟨by decide +kernel, by decide +kernel, .inr (.inl (by decide +kernel))⟩,
    ⟨by decide, by decide, .inr (.inl rfl)⟩, by decide +kernel, by decide +kernel, .inr (.inr ⟨by decide +kernel, _, _, rfl, rfl⟩)⟩

/-- A line with no stream is not eligible. -/
theorem not_due {x : Slice} (h : x.history.stream = none) : ¬x.dueNotice := fun ⟨_, hs, _⟩ => by simp [h] at hs

/-- Line 0 is eligible, with a gap alone or with an entry unsent, and every other line is not, whichever line was served last. -/
theorem test_meets_FramesStartInOrder_console :
    ((console [] 1 1).slice 0).dueNotice ∧ ((console [⟨.brk, 1⟩, ⟨.brk, 2⟩] 0 1).slice 0).dueNotice ∧
    (∀ c last : Bay, (c - last - 1).val < ((0 : Bay) - last - 1).val → ((console [⟨.brk, 1⟩, ⟨.brk, 2⟩] 0 1).slice c).history.stream = none) ∧
    (let s := console [⟨.brk, 1⟩, ⟨.brk, 2⟩] 0 1;
      (s.slice 0).history.stream = some ⟨0, 0, 1⟩ ∧ ((s.slice 0).history.next - 0).toNat ≤ (s.slice 0).history.entries.length ∧
      (s.slice 0).history.entries.drop ((s.slice 0).history.entries.length - ((s.slice 0).history.next - 0).toNat) =
        [⟨.brk, 1⟩] ++ [⟨.brk, 2⟩] ∧
      s.link.helloPending = false ∧ s.link.replies = [] ∧ s.link.summaryPending = false ∧
      (∀ r ∈ s.cache.fetches, r.notice ≠ .pending) ∧ ∀ r ∈ s.cache.writebacks, r.notice ≠ .pending) :=
  ⟨⟨_, rfl, by decide, .inr (by decide), .inr rfl⟩, ⟨_, rfl, by decide, .inl (by decide +kernel), .inr rfl⟩, by decide +kernel,
    by decide +kernel⟩

/-- A fetch record and a writeback record whose notices wait. -/
def fetch12 : FetchRecord := ⟨12, 0, 4, 0, [false, true], .pending, none, false⟩

def write9 : WritebackRecord := ⟨9, 0, 4, 3, some 2, none, .pending, none, false⟩

theorem test_meets_FramesStartInOrder :
    (let s := State.reset;
      s.link.hold = false ∧ s.link.receiver = .hunt ∧ s.link.outgoing = none ∧ frameReady s = true ∧ s.link.helloPending = true) ∧
    (let s := flying .reply 0;
      s.link.replies = [⟨0x81, 1, [0]⟩] ∧ (quietBay id).link.helloPending = false ∧ (quietBay id).link.replies = []) ∧
    ((quietBay id).modLink fun l => { l with summaryPending := true }).link.summaryPending = true ∧
    ((quietBay id).modCache fun c => { c with fetches := [fetch12] }).cache.fetches.find? (fun r => r.notice = .pending) =
      some fetch12 ∧
    ((quietBay id).modCache fun c => { c with writebacks := [write9] }).cache.writebacks.find? (fun r => r.notice = .pending) =
      some write9 ∧ write9.entry = some 2 := by decide +kernel

theorem test_meets_FramesStartInOrder_started (rx : FrameReceiver) : ∃ started : Origin → Frame → Link → Link, ∀ o f l,
    started o f l = { l with receiver := rx, miso := 0xC3, outgoing := some ⟨o, f.wire, 1⟩ } := ⟨_, fun _ _ _ => rfl⟩

theorem test_meets_FramesEndAtTheirLastByte :
    ∀ o ∈ [Origin.hello, .reply, .summary, .console 0, .fetch 12, .writeback 9],
      (flying o 1).link.hold = false ∧ (flying o 1).link.receiver = .hunt ∧
      (flying o 1).link.outgoing = some ⟨o, [0xC3, 7], 1⟩ ∧ [(0xC3 : Byte), 7].length = 1 + 1 := by decide +kernel

/-- A line with an element in flight and `n` elements waiting. -/
def busy (n : Nat) : State :=
  bay fun x => { x with line := { x.line with tx := .character [true] 417, queue := List.replicate n (.data 0) } }

theorem test_meets_LineSetWritesTheRecord : takesRequest 1 (busy 0) ∧ ((busy 0).slice 0).line.tx ≠ .idle ∧
    (∀ loopback : Bool, (((busy 0).modLine 0 fun l => { l with ctsRef := if loopback then l.rts else l.conCts }).slice 0).line.ctsRef =
      if loopback then ((busy 0).slice 0).line.rts else ((busy 0).slice 0).line.conCts) ∧
    (∀ x ∈ [(0 : Byte), 2], x.toNat ≤ 2) ∧ ∀ policy ∈ [(1 : Byte), 2], policy = 1 ∨ policy = 2 := by
  unfold takesRequest; decide +kernel

theorem test_meets_ElementsJoinTheTransmitQueue :
    takesRequest 1 (busy 255) ∧ ((busy 255).slice 0).line.tx ≠ .idle ∧ ((busy 255).slice 0).line.queue.length < 256 ∧
    takesRequest 1 (busy 256) ∧ 256 ≤ ((busy 256).slice 0).line.queue.length ∧
    (∀ n ∈ [1, 240], 1 ≤ (List.replicate n (0 : Byte)).length ∧ (List.replicate n (0 : Byte)).length ≤ 240) ∧
    (∀ n ∈ [0, 241], (List.replicate n (0 : Byte)).length = 0 ∨ 240 < (List.replicate n (0 : Byte)).length) ∧ (1 : Byte).toNat ≤ 1 := by
  unfold takesRequest; decide +kernel

theorem test_meets_ElementsJoinTheTransmitQueue_idle :
    let l := (State.reset.slice 0).line
    takesRequest 1 State.reset ∧ l.tx = .idle ∧ l.queue = [] ∧ l.config.ctsHonour = false ∧ l.config.loopback = false ∧
      l.drainMark = false ∧ l.ctsRef = l.conCts ∧ (List.replicate 239 (0 : Byte)).length ≤ 239 ∧
      ∀ level : Bool, ((bay fun x => { x with line :=
        { x.line with ctsRef := !level, config := { x.line.config with loopback := true } } }).slice 0).line.ctsRef = !level := by
  unfold takesRequest; decide +kernel

/-- A line with a transmitter in a state. -/
def sending (tx : Transmitter) (queue : List TxElement) (drain : Bool) : Line := { tx := tx, queue := queue, drainMark := drain }

theorem test_meets_TransmitterMovesOn :
    (let l := ((bay fun x => { x with line := sending (.character [true] 417) [.data 7] false }).slice 0).line;
      l.tx = .character [true] 417 ∧ l.config.ctsHonour = false ∧ l.queue = .data 7 :: []) ∧
    (let l := ((bay fun x => { x with line := sending (.breakRecovery 1 417) [.brk 255] false }).slice 0).line;
      l.tx = .breakRecovery 1 417 ∧ l.config.ctsHonour = false ∧ l.queue = .brk 255 :: []) ∧
    (let l := ((bay fun x => { x with line := sending (.character [true] 417) [] true }).slice 0).line;
      l.tx = .character [true] 417 ∧ l.queue = [] ∧ l.drainMark = true) ∧
    (let l := ((bay fun x => { x with line := sending (.breakLow 1 417) [] false }).slice 0).line;
      l.tx = .breakLow 1 417) := by decide +kernel

theorem test_meets_TransmitterMovesOn_cts :
    (let l := ((busy 0).slice 0).line;
      l.config.loopback = false ∧ l.ctsRef = !true ∧ l.tx ≠ .idle) ∧
    (let l := ((bay fun x => { x with line := sending .idle [.data 7] false }).slice 0).line;
      l.config.loopback = false ∧ l.ctsRef = !true ∧ l.tx = .idle ∧ l.queue = .data 7 :: []) := by decide +kernel

/-- A line whose receiver and low period are given. -/
def receiving (r : Receiver) (low : Option LowPeriod) : State :=
  bay fun x => { x with line := { x.line with receiver := r, lowPeriod := low, rate := { x.line.rate with window := ⟨254, 0, 0, 0⟩ } } }

theorem test_meets_CharactersAreReceived :
    (let l := ((receiving .hunt none).slice 0).line;
      l.config.loopback = false ∧ l.conRx = true ∧ l.rate.detection = none ∧ l.receiver = .hunt) ∧
    (let x := (receiving (.frame ⟨8, .none, 1⟩ 417 []) (some ⟨4170, true, none⟩)).slice 0;
      x.line.receiver = .frame ⟨8, .none, 1⟩ 417 [] ∧ x.history.entries.length < x.history.pages * 1024 ∧ x.heartbeat = {} ∧
      x.responder.armed = none ∧ x.monitor.state = .disabled ∧ x.line.rate.window.characters + 1 < 256 ∧
      x.line.lowPeriod = some ⟨4170, true, none⟩) := by decide +kernel

/-- R4, Table 1-2: five data bits of 0xF5, and the parity bit that makes the count of ones even or odd. -/
theorem test_meets_CharactersAreReceived_parity :
    (∀ i, i < 8 → (0x15 : Byte).getLsbD i = (decide (i < 5) && (0xF5 : Byte).getLsbD i)) ∧
    ((List.range 5).map fun i => (0xF5 : Byte).getLsbD i).count true % 2 = (if true = true then 1 else 0) := by decide

/-- A line in loopback with an element to hear. -/
def looping (r : Receiver) (xs : List Span) : State :=
  bay fun x => { x with line := { x.line with receiver := r, looped := some xs, config := { x.line.config with loopback := true } } }

theorem test_meets_CharactersAreReceived_loopback :
    (∀ xs ∈ [[], [Span.mk true 417], [⟨true, 417⟩, ⟨false, 417⟩]],
      let l := ((looping .hunt xs).slice 0).line
      l.config.loopback = true ∧ l.lowPeriod = none ∧ l.looped = some xs ∧ l.rate.detection = none ∧ l.receiver = .hunt) ∧
    [Span.mk true 417].dropWhile (fun x => x.high) = [] ∧ [Span.mk true 417, ⟨false, 417⟩].dropWhile (fun x => x.high) ≠ [] ∧
    (∀ f ∈ [Framing.mk 5 .even 1, ⟨8, .none, 2⟩], ∀ n ∈ [32, 1048575],
      ((looping (.frame f n ((f.frame 0x35).map fun x => ⟨x, n⟩)) []).slice 0).line.receiver =
        .frame f n ((f.frame 0x35).map fun x => ⟨x, n⟩) ∧ 32 ≤ n ∧ f.dataBits ≤ 8 ∧ 1 ≤ f.stopBits) ∧
    (∀ i, i < 8 → (0x15 : Byte).getLsbD i = (decide (i < 5) && (0x35 : Byte).getLsbD i)) := by decide +kernel

theorem test_meets_LowPulseIsJudged :
    let low (deferred : Bool) := ((bay fun x => { x with line :=
      { x.line with conRx := false, receiver := .holdLow deferred, lowPeriod := some ⟨4170, true, none⟩ } }).slice 0)
    (∀ d, (low d).line.config.loopback = false ∧ (low d).line.conRx = false ∧ (low d).line.rate.detection = none ∧
      (low d).line.rate.mode = .manual ∧ (low d).line.lowPeriod = some ⟨4170, true, none⟩ ∧ (low d).line.receiver = .holdLow d) ∧
    4170 ≤ 4170 ∧ 4170 ≤ 16777215 ∧ 4170 < 4171 ∧ 4170 < 16777215 ∧ 16777215 ≤ 16777215 ∧
    (low true).history.entries.length < (low true).history.pages * 1024 ∧ (low true).heartbeat = {} ∧
    (low true).responder.armed = none ∧ (low true).line.rate.window.characters < 256 ∧ (low true).line.rate.window.breaks < 65535 := by
  decide +kernel

/-- An edge of the signal that is not observed, and one that ends a low period, of the pin and of the internal signal. -/
theorem test_meets_LowPulseIsJudged_observed :
    true ≠ ((receiving .hunt none).slice 0).line.config.loopback ∧ false ≠ ((looping .hunt []).slice 0).line.config.loopback ∧
    (let l := (((looping (.holdLow true) []).modLine 0 fun l => { l with lowPeriod := some ⟨4170, true, some 4171⟩ }).slice 0).line;
      true = l.config.loopback ∧ l.rate.detection = none ∧ l.lowPeriod = some ⟨4170, true, some 4171⟩ ∧ 4170 < 4171 ∧
      l.receiver = .holdLow true) := by decide +kernel

/-- A rate unit at a divisor of its lock 5000, whose bounds are 4844 and 5156. -/
def unit (mode : Mode) (divisor : Nat) (acc : Int) : RateUnit := { mode := mode, divisor := divisor, lock := 5000, index := 3, acc := acc }

theorem unit_wf (mode : Mode) (divisor : Nat) (acc : Int) (h : 4844 ≤ divisor ∧ divisor ≤ 5156) (ha : -255 ≤ acc ∧ acc ≤ 255)
    (hm : mode ≠ .manual) : (unit mode divisor acc).Wf :=
  ⟨by simp [unit], by simp [unit]; omega, ha, nofun, nofun, fun h => absurd h hm, .inr (by simp [unit, Config.divisorTable, Config.rateTable])⟩

/-- The pulses at which R32 to R34 change: k of 0, 1, 10 and 11, a residual of B / 4 and one past it, and A at which B leaves its bounds. -/
theorem test_meets_LowPulseIsJudged_tracking :
    (∀ p ∈ [(2499, 0), (2500, 1), (52499, 10), (52500, 11)], (2 * p.1 + 5000) / (2 * 5000) = p.2) ∧
    (5000 / 4 < ((6251 : Int) - 1 * 5000).natAbs ∧ ((6250 : Int) - 1 * 5000).natAbs ≤ 5000 / 4) ∧
    max 32 (5000 - 5000 / 32) = 4844 ∧ min 1048575 (5000 + 5000 / 32) = 5156 ∧
    (5155 + (1 + (255 : Int)).natAbs / 256 ≤ 5156 ∧ 5156 < 5156 + (1 + (255 : Int)).natAbs / 256) ∧
    (4844 + (-1 + (-255 : Int)).natAbs / 256 ≤ 4845 ∧ 4844 < 4844 + (-1 + (-255 : Int)).natAbs / 256) := by decide

/-- A DETECTING line. -/
def detecting (d : Detection) : State := rate fun r => { r with detection := some d }

theorem test_meets_RateSetSetsTheRateInForce :
    takesRequest 1 State.reset ∧ (State.reset.slice 0).line.rate.detection = none ∧
    [40000, 20000, 10000, 5000, 2500, 1250, 833, 417, 208, 104, 52][(10 : BitVec 32).toNat]? = some 52 ∧ 10 < (11 : BitVec 32).toNat ∧
    takesRequest 1 (detecting {}) ∧ ((detecting {}).slice 0).line.rate.detection = some ⟨none, 0, 0⟩ := by
  unfold takesRequest; decide +kernel

theorem test_meets_RateModeSetsTheMode :
    takesRequest 1 State.reset ∧
    (∀ m ∈ [Mode.track, .hold], ((rate fun r => { r with mode := m }).slice 0).line.rate.mode ≠ .manual ∧
      ((rate fun r => { r with mode := m }).slice 0).line.rate.detection = none) ∧
    (State.reset.slice 0).line.rate.mode = .manual ∧ ((detecting {}).slice 0).line.rate.detection ≠ none ∧
    (∀ mode ∈ [(0 : Byte), 3], mode ≠ 1 ∧ mode ≠ 2) ∧ 8 ≤ (8 : Byte).toNat ∧ 2 ≤ 2 ∧
    ((detecting ⟨some 5200, 8, 2⟩).slice 0).line.rate.detection = some ⟨some 5200, 8, 2⟩ ∧
    (max 5200 5000 - min 5200 5000) * 1000000 / 5000 ≤ 40000 ∧
    ((bay fun x => { x with line := { x.line with config := { x.line.config with customRate := true } } }).slice 0).line.config.customRate =
      true := by unfold takesRequest; decide +kernel

theorem test_meets_RateDetectStartsADetection : takesRequest 1 State.reset ∧ 8 ≤ (8 : Byte).toNat := by unfold takesRequest; decide

/-- Entry 3, B_nom 5000, is the nearest to 5200 and to 5201: the widest W_min it matches and the first it does not. Between entries 6 and 7
W_min 556 is nearer to entry 6 by the ppm of R30, though it is nearer to entry 7 in clocks. -/
theorem test_meets_DetectionWindowEnds :
    let table := [40000, 20000, 10000, 5000, 2500, 1250, 833, 417, 208, 104, 52]
    let dist (w n : Nat) := (max w n - min w n) * 1000000 / n
    (∀ p ∈ [(5200, 3, 40000), (5201, 3, 40200), (556, 6, 332533)], table[p.2.1]?.map (dist p.1) = some p.2.2 ∧
      ∀ j, j < 11 → p.2.2 < dist p.1 (table.getD j 1) ∨ p.2.2 = dist p.1 (table.getD j 1) ∧ p.2.1 ≤ j) ∧
    2 ≤ 2 ∧ ((detecting ⟨some 5200, 0, 2⟩).slice 0).line.rate.detection = some ⟨some 5200, 0, 2⟩ ∧ 1 < 2 ∧
    ((detecting ⟨none, 0, 1⟩).slice 0).line.rate.detection = some ⟨none, 0, 1⟩ := by decide +kernel

/-- A DETECTING line with a low period, and the lengths at which the pulse's clauses meet. -/
theorem test_meets_DetectionWindowEnds_pulse :
    (let l := (((detecting ⟨some 800, 7, 3⟩).modLine 0 fun l => { l with conRx := false, lowPeriod := some ⟨4170, false, none⟩ }).slice 0).line;
      false = l.config.loopback ∧ l.conRx = false ∧ l.rate.detection = some ⟨some 800, 7, 3⟩ ∧ l.lowPeriod = some ⟨4170, false, none⟩) ∧
    31 < 32 ∧ 32 ≤ 32 ∧ 16777214 < 16777215 ∧
    (max 700 800 - min 700 800 ≤ 800 / 8 ∧ max 900 800 - min 900 800 ≤ 800 / 8) ∧
    (800 / 8 < max 699 800 - min 699 800 ∧ 699 < 800) ∧ (800 / 8 < max 901 800 - min 901 800 ∧ 800 < 901) ∧ 8 ≤ 7 + 1 ∧ 4 ≤ 3 + 1 := by
  decide +kernel

theorem test_meets_QualityReports : takesRequest 1 (detecting {}) ∧ ∃ opt : Nat → (Nat → List Byte) → Option Nat → List Byte,
    (∀ k enc n, opt k enc (some n) = 1 :: enc n) ∧ ∀ k enc, opt k enc none = 0 :: List.replicate k 0 :=
  ⟨by unfold takesRequest; decide +kernel, fun k enc => fun | some n => 1 :: enc n | none => 0 :: List.replicate k 0,
    fun _ _ _ => rfl, fun _ _ => rfl⟩

/-- R36, R37: the 256th character closes a window of 256 and, with more errors than the threshold on a tracking line, starts a detection. -/
theorem test_window_close :
    let line (n : Nat) := bay fun x => { x with line := { x.line with
      config := { x.line.config with window := .w256, errorThreshold := 1 }
      rate := { x.line.rate with mode := .track, window := ⟨n, 1, 0, 3⟩, lastNumber := 255 } } }
    let t := handEntry 0 ⟨.parity, 7⟩ (line 255)
    (t.slice 0).line.rate.lastWindow = ⟨256, 2, 0, 3⟩ ∧ (t.slice 0).line.rate.lastNumber = 0 ∧ (t.slice 0).line.rate.detection = some {} ∧
      t.flag 0 .qualityReady = true ∧ t.flag 0 .rateLost = true ∧
      ((handEntry 0 ⟨.parity, 7⟩ (line 254)).slice 0).line.rate.window = ⟨255, 2, 0, 3⟩ := by decide +kernel

theorem test_meets_RingIsResizedAndCleared :
    let sum := (State.reset.slices.toList.map fun x => x.history.pages).sum
    takesRequest 1 State.reset ∧ sum + (16 : Byte).toNat ≤ 128 + (State.reset.slice 0).history.pages ∧
    2 ≤ (2 : Byte).toNat ∧ (64 : Byte).toNat ≤ 64 ∧ (1 : Byte).toNat < 2 ∧ 64 < (65 : Byte).toNat ∧ sum ≤ 128 ∧
    128 + (State.reset.slice 0).history.pages < sum + (17 : Byte).toNat := by unfold takesRequest; decide +kernel

/-- A ring of two entries, 8 and 9. -/
def ring : State := bay fun x => { x with history := { entries := [⟨.data, 1⟩, ⟨.brk, 2⟩], next := 10, stream := some ⟨9, 0, 65535⟩ } }

/-- The distances from next at which the clauses of R49 and R51 meet. -/
theorem test_meets_HistoryReadsTheRing :
    let h := (ring.slice 0).history
    takesRequest 1 ring ∧ h.entries.length = 2 ∧
    (h.next - 10).toNat ≤ h.entries.length ∧ (h.next - 8).toNat ≤ h.entries.length ∧
    h.entries.length < (h.next - 7).toNat ∧ h.entries.length < (h.next - 0x8000000A).toNat ∧ (h.next - 0x8000000A).toNat ≤ 2147483648 ∧
    2147483648 < (h.next - 0x80000009).toNat ∧ 2147483648 < (h.next - 11).toNat := by
  unfold takesRequest; decide +kernel

theorem test_meets_AttachOpensAStream :
    let h := (ring.slice 0).history
    takesRequest 1 ring ∧ h.next - BitVec.ofNat 32 h.entries.length = 8 ∧
    ((2 : Byte) = 2 ∧ (h.next - 8).toNat ≤ h.entries.length) ∧
    ((2 : Byte) = 2 ∧ h.entries.length < (h.next - 7).toNat ∧ (h.next - 7).toNat ≤ 2147483648 ∧ ((8 : SeqNo) - 7).toNat = 1) ∧
    (h.entries.length < (h.next - 11).toNat ∧ 2147483648 < (h.next - 11).toNat) ∧ 2 < (3 : Byte).toNat := by
  unfold takesRequest; decide +kernel

theorem test_meets_CreditAndDetach : takesRequest 1 ring ∧ (ring.slice 0).history.stream = some ⟨9, 0, 65535⟩ ∧
    (ring.slice 1).history.stream = none ∧ 8 ≤ (8 : Byte).toNat := by unfold takesRequest; decide +kernel

theorem test_meets_MatchersAreSetAndExpire : takesRequest 1 State.reset ∧
    (List.replicate 16 (0 : Byte)).length ≤ 16 ∧ 16 < (List.replicate 17 (0 : Byte)).length ∧
    (true = true → [(0x3E : Byte)] ≠ [] ∧ [(0x0D : Byte)] ≠ []) ∧ (true = true ∧ (([] : List Byte) = [] ∨ [(0x0D : Byte)] = [])) ∧
    ((bay fun x => { x with responder := { x.responder with armed := some 60 } }).slice 0).responder.armed = some 60 := by
  unfold takesRequest; decide +kernel

/-- R62: the second byte of "ab" takes the match, the first restarts it, and an entry that is not DATA loses it. -/
theorem matchTaken_ab : MatchTaken [0x61, 0x62] 1 ⟨.data, 0x62⟩ 0 true ∧ MatchTaken [0x61, 0x62] 1 ⟨.data, 0x61⟩ 1 false ∧
    MatchTaken [0x61, 0x62] 1 ⟨.brk, 0x62⟩ 0 false :=
  ⟨⟨by decide, fun _ _ => ⟨2, _, rfl, by decide, by decide, fun m h h' => absurd (Nat.lt_of_lt_of_le h h') (by decide), by decide⟩⟩,
    ⟨by decide, fun _ _ => ⟨1, _, rfl, by decide, by decide, fun m h h' => by
      obtain rfl : m = 2 := by simp at h'; omega
      decide, by decide⟩⟩,
    ⟨by decide, fun _ h => absurd h (by decide)⟩⟩

/-- An armed responder one byte from its match, on a line with `n` elements waiting. -/
def prompting (n : Nat) (tx : Transmitter) : State :=
  bay fun x => { x with
    line := { x.line with tx := tx, queue := List.replicate n (.data 0) }
    responder := ⟨[0x61, 0x62], List.replicate 16 0x0D, 60, true, true, some 60, 1⟩ }

theorem test_meets_MatchersAreSetAndExpire_entry :
    (∀ n ∈ [240, 241], let x := (prompting n (.character [true] 417)).slice 0
      x.line.config.errorThreshold = 0 ∧ x.responder.armed ≠ none ∧ x.line.tx ≠ .idle ∧ x.line.queue.length ≤ 256) ∧
    ((prompting 240 .idle).slice 0).line.queue.length + ((prompting 240 .idle).slice 0).responder.response.length ≤ 256 ∧
    256 < ((prompting 241 .idle).slice 0).line.queue.length + ((prompting 241 .idle).slice 0).responder.response.length ∧
    (let x := (prompting 0 .idle).slice 0;
      x.line.tx = .idle ∧ x.line.queue = [] ∧ x.line.config.ctsHonour = false ∧ x.responder.response = 0x0D :: List.replicate 15 0x0D ∧
      x.responder.response.length ≤ 16) ∧ ((State.reset.slice 0).responder.armed = none) := by decide +kernel

/-- A WATCHING monitor. -/
def watching (action : WatchAction) (limit count : Nat) : State :=
  bay fun x => { x with monitor := ⟨⟨.anyOutput, 120, 600, action, limit, true⟩, .watching, some 120, count, none⟩ }

theorem test_meets_MonitorIsSetAndExpires : takesRequest 1 State.reset ∧
    (1 : Byte).toNat ≤ 1 ∧ (2 : Byte).toNat ≤ 2 ∧
    (∀ a ∈ [WatchAction.reset, .cycle],
      ((watching a 3 2).slice 0).monitor.timer = some 120 ∧ ((watching a 3 2).slice 0).monitor.state = .watching ∧
      ((watching a 3 2).slice 0).monitor.settings.action = a ∧
      ((watching a 3 2).slice 0).monitor.count < ((watching a 3 2).slice 0).monitor.settings.limit ∧
      ((watching a 3 3).slice 0).monitor.settings.action ≠ .notify ∧
      ((watching a 3 3).slice 0).monitor.count = ((watching a 3 3).slice 0).monitor.settings.limit) ∧
    ((watching .notify 3 0).slice 0).monitor.settings.action = .notify := by unfold takesRequest; decide +kernel

theorem test_meets_WatchClearClearsTheCount : takesRequest 1 State.reset ∧ 8 ≤ (8 : Byte).toNat := by unfold takesRequest; decide

/-- A bay in a sequencer state with a timer, and bay 1 waiting for a grant where `others` holds. -/
def inState (state : SeqState) (timer : Option (SeqTimer × Nat)) (others : Bool) : State :=
  (seq fun q => { q with state := state, timer := timer, pgood := state = .on || state = .resetting }).modGrant fun g =>
    { g with queue := if others then [1] else [] }

theorem test_meets_PowerActionsTransition :
    (takesRequest 1 (inState .off none true) ∧ ((inState .off none true).slice 0).sequencer.state = .off ∧
      ((inState .off none true).slice 0).sequencer.pendingOn = false ∧ (inState .off none true).grant.queue ≠ []) ∧
    ∀ state ∈ [SeqState.queued, .powering, .on, .resetting, .softStopping, .fault],
      let s := inState state none false
      (s.slice 0).sequencer.state = state ∧ (s.slice 0).sequencer.pendingOn = false ∧ takesRequest 1 s ∧ (0 : Bay) ∉ s.grant.queue ∧
        s.grant.queue = [] ∧ s.grant.queue.head? ≠ some 0 ∧ (s.slice 0).medium.ejectOnPowerOff = false := by
  unfold takesRequest; decide +kernel

/-- Joining an empty queue, with nothing granted by SAG or by the budget, and with a grant (R105, R106). -/
theorem test_meets_PowerActionsTransition_grant :
    let s (budget : Nat) := State.reset.modGrant fun g => { g with timer := .ended, budget := budget, granted := g.granted.set 1 (some 4) }
    takesRequest 1 (s 8) ∧ (s 8).grant.queue = [] ∧ ((s 8).slice 0).sequencer.state = .off ∧ (s 8).grant.sag = false ∧
    (s 8).grant.sum + min ((s 8).slice 0).sequencer.settings.weight 8 ≤ 8 ∧
    7 < (s 7).grant.sum + min ((s 7).slice 0).sequencer.settings.weight 7 ∧
    ((after (exec (.powerOn 1 0) (s 8))).slice 0).sequencer.state = .powering ∧
    ((after (exec (.powerOn 1 0) (s 7))).slice 0).sequencer.state = .queued := by
  unfold takesRequest; decide +kernel

/-- R103: the OFF_SOFT of a bay that waits first takes it out of the queue, and the next bay is then granted. -/
theorem test_queued_off :
    let s := (inState .queued none false).modGrant fun g => { g with queue := [0, 1], timer := .ended }
    let t := after (exec (.powerOffSoft 1 0) (s.modSeq 1 fun q => { q with state := .queued }))
    (t.slice 0).sequencer.state = .off ∧ (t.slice 1).sequencer.state = .powering ∧ t.grant.queue = [] := by decide +kernel

theorem test_meets_PowerActionsWithoutTransition :
    (∀ state ∈ [SeqState.off, .queued, .powering, .on, .resetting, .softStopping, .holdOff, .fault],
      ((inState state none false).slice 0).sequencer.state = state) ∧
    takesRequest 1 (inState .on none false) ∧ ((inState .on none false).policy.ramBays.get 0).lastOn = false ∧
    ((State.reset.modPolicy fun p => { p with ramBays := p.ramBays.set 0 { lastOn := true } }).policy.ramBays.get 0).lastOn = true := by
  unfold takesRequest; decide +kernel

/-- R82, R155, R156: POWER ON in ON changes a last commanded state of OFF; an IDLE writer starts the record's write, and a busy one leaves
the record dirty. -/
theorem test_meets_Commanded :
    (State.reset.policy.ramBays.get 0).lastOn ≠ true ∧ State.reset.policy.writer = none ∧ State.reset.policy.restartPending = false ∧
    State.reset.policy.dirty = 0 ∧
    (let t := after (exec (.powerOn 1 0) (inState .on none false));
      t.policy.writer = some (1, #v[4, 4, 30, 60, 5, 20, 50]) ∧ t.policy.dirty = 0 ∧ (t.policy.ramBays.get 0).lastOn = true) ∧
    (let s := (inState .on none false).modPolicy fun p => { p with writer := some (4, Vector.replicate 7 0), dirty := 256 };
      s.policy.writer ≠ none ∧ (after (exec (.powerOn 1 0) s)).policy.dirty = 258) := by decide +kernel

theorem test_meets_PowerSetWritesTheSettings : takesRequest 1 (inState .powering none false) ∧
    max 1 (min (4 : Byte).toNat 15) = ((inState .powering none false).slice 0).sequencer.settings.weight ∧
    ((inState .powering none false).slice 0).sequencer.state = .powering ∧
    max 1 (min (5 : Byte).toNat 15) ≠ ((inState .powering none false).slice 0).sequencer.settings.weight ∧
    (State.reset.slice 0).sequencer.state ≠ .queued ∧ (State.reset.slice 0).sequencer.state ≠ .powering := by
  unfold takesRequest; decide +kernel

/-- Bay 0 waits for a grant, with `sum` of the budget of 8 taken by bay 1. -/
def queued (sum : Nat) : State :=
  (seq fun q => { q with state := .queued }).modGrant fun g =>
    { g with queue := [0], granted := g.granted.set 1 (some sum), timer := .running 20 }

theorem test_meets_GrantQueueIsServed :
    (takesRequest 1 State.reset ∧ State.reset.grant.sum ≤ 8 ∧ State.reset.grant.queue = []) ∧
    (takesRequest 1 (queued 4) ∧ (queued 4).grant.sum ≤ 4 ∧ (queued 4).grant.queue = 0 :: [] ∧
      4 < (queued 4).grant.sum + min ((queued 4).slice 0).sequencer.settings.weight 4) ∧
    3 < (queued 4).grant.sum ∧ (queued 4).grant.timer = .running 20 ∧ (queued 4).grant.sag = false ∧
    (queued 4).grant.sum + min ((queued 4).slice 0).sequencer.settings.weight (queued 4).grant.budget ≤ (queued 4).grant.budget ∧
    ((queued 4).slice 0).sequencer.pgood = false ∧
    (queued 5).grant.budget < (queued 5).grant.sum + min ((queued 5).slice 0).sequencer.settings.weight (queued 5).grant.budget ∧
    State.reset.grant.sag = false ∧ (State.reset.modGrant fun g => { g with sag := true }).grant.sag = true := by
  unfold takesRequest; decide +kernel

theorem test_meets_PgoodChangesAreTaken :
    (∀ state ∈ [SeqState.off, .queued, .holdOff, .fault], ∀ level : Bool,
      let q := ((seq fun q => { q with state := state, pgood := !level }).slice 0).sequencer
      q.state = state ∧ q.pgood = !level) ∧
    (∀ on : Bool, ∀ m ∈ [MonitorState.suspended, .acting, .disabled],
      let s := bay fun x => { x with
        sequencer := { x.sequencer with state := .powering, snapshotPgood := on }, monitor := { x.monitor with state := m }
        line := { x.line with config := { x.line.config with detectOnPowerOn := on } }
        responder := { x.responder with enable := on } };
      (s.slice 0).sequencer.state = .powering ∧ (s.slice 0).sequencer.pgood = false ∧ (s.slice 0).sequencer.snapshotPgood = on ∧
      s.grant.queue = [] ∧ (s.slice 0).line.config.detectOnPowerOn = on ∧ (s.slice 0).responder.enable = on ∧
      (s.slice 0).monitor.state = m) ∧
    (∀ state ∈ [SeqState.on, .resetting], ((inState state none false).slice 0).sequencer.state = state ∧
      ((inState state none false).slice 0).sequencer.pgood = true) ∧
    (let q := ((seq fun q => { q with state := .softStopping, pgood := true }).slice 0).sequencer;
      q.state = .softStopping ∧ q.pgood = true) := by decide +kernel

/-- R87, R92: a fall of PGOOD during the press is the normal end of a soft stop. -/
theorem test_soft_stop_ends :
    let s := seq fun q => { q with
      state := .softStopping, timer := some (.buttonPress, 50), pgood := true, snapshotPgood := true, buttonHold := some ⟨false, true⟩ }
    let t := after (exec (.pgoodChange 0 false) s)
    (t.slice 0).sequencer.state = .holdOff ∧ (t.slice 0).sequencer.timer = some (.holdOff, 5) ∧ (t.slice 0).sequencer.btn = false ∧
      (t.slice 0).flags = BitVec.twoPow 19 BayFlag.powerState.bit ||| BitVec.twoPow 19 BayFlag.senseChanged.bit := by decide +kernel

/-- A port that holds nothing on its DOWN link. -/
theorem test_meets_PgoodChangesAreTaken_port : ((inState .on none false).slice 0).port.Wf :=
  ⟨by decide +kernel, by decide +kernel, fun _ => by decide +kernel⟩

theorem test_meets_BtnSenseIsMasked :
    ((State.reset.slice 0).sequencer.buttonHold = none ∧ (State.reset.slice 0).sequencer.btnSense = !true) ∧
    ∀ p : Bool, ((seq fun q => { q with buttonHold := some ⟨true, p⟩ }).slice 0).sequencer.buttonHold = some ⟨true, p⟩ ∧
      ((seq fun q => { q with buttonHold := some ⟨true, p⟩, snapshotBtn := true }).slice 0).sequencer.snapshotBtn = true ∧
      ((seq fun q => { q with buttonHold := some ⟨true, p⟩ }).slice 0).sequencer.btnSense = !true ∧
      ((seq fun q => { q with buttonHold := some ⟨false, p⟩ }).slice 0).sequencer.btnSense = false := by decide +kernel

theorem test_meets_SequencerTimersAndRequests :
    (let x := ((inState .resetting (some (.resetPulse, 20)) false).modMonitor 0 fun m => { m with state := .acting }).slice 0;
      x.sequencer.state = .resetting ∧ x.sequencer.timer = some (.resetPulse, 20) ∧ x.monitor.state = .acting) ∧
    (let q := ((seq fun q => { q with state := .softStopping, timer := some (.buttonPress, 50), buttonHold := some ⟨false, true⟩ }).slice 0).sequencer;
      q.state = .softStopping ∧ q.timer = some (.buttonPress, 50) ∧ q.buttonHold = some ⟨q.btnSense, true⟩) ∧
    (let x := (inState .holdOff (some (.holdOff, 5)) false).slice 0;
      x.sequencer.state = .holdOff ∧ x.sequencer.timer = some (.holdOff, 5) ∧ x.sequencer.pendingOn = false) ∧
    (let s := (inState .holdOff (some (.holdOff, 5)) true).modSeq 0 fun q => { q with pendingOn := true };
      (s.slice 0).sequencer.state = .holdOff ∧ (s.slice 0).sequencer.pendingOn = true ∧ s.grant.queue ≠ []) := by decide +kernel

theorem test_meets_SequencerTimersAndRequests_monitor :
    ∀ r ∈ [WatchRequest.reset, .cycle],
      let asked (state : SeqState) := ((inState state none false).modMonitor 0 fun m =>
        { m with state := .acting, outstanding := some r }).slice 0
      ((asked .on).sequencer.state = .on ∧ (asked .on).monitor.state = .acting ∧ (asked .on).monitor.outstanding = some r ∧
        (asked .on).medium.ejectOnPowerOff = false) ∧
      (asked .off).sequencer.state ≠ .on ∧ (asked .off).monitor.outstanding ≠ none := by decide +kernel

theorem test_meets_PowerFaultsAreFlagged :
    (let s := inState .powering (some (.powerGood, 30)) false;
      (s.slice 0).sequencer.state = .powering ∧ (s.slice 0).sequencer.timer = some (.powerGood, 30) ∧ s.grant.queue = []) ∧
    (let s := inState .softStopping (some (.softStopWait, 60)) false;
      (s.slice 0).sequencer.state = .softStopping ∧ (s.slice 0).sequencer.timer = some (.softStopWait, 60)) := by decide +kernel

theorem test_meets_ColdResetTakesTheColdValues : (∀ r, NvRecord.passes r (State.reset.policy.nv.get r) = false) ∧
    (readBay State.reset.policy 0).restores = false ∧ (readGlobal State.reset.policy).restoreDelay = 0 := by decide +kernel

/-- R74 and Table 4-5: a monitor that is DISABLED, one that watches and one whose action the operator cuts short, and what OFF_HARD makes
of each in RESETTING. -/
theorem test_meets_Departed : ∀ p ∈ [(MonitorState.disabled, MonitorState.disabled), (.watching, .suspended), (.acting, .suspended)],
    let s := (inState .resetting (some (.resetPulse, 20)) false).modMonitor 0 fun m => { m with state := p.1, timer := none }
    (s.slice 0).monitor.state = p.1 ∧ ((after (exec (.powerOffHard 1 0) s)).slice 0).monitor.state = p.2 := by decide +kernel

/-- R153: content that passes as record 1 fails as record 0, and content that passes fails with its first byte changed. -/
theorem test_meets_ColdResetTakesTheColdValues_check (x : Vector Byte 7) :
    (1 : Fin 9) ≠ 0 ∧ NvRecord.passes 1 (some ⟨x, Config.checkByte 1 x⟩) = true ∧
    NvRecord.passes 0 (some ⟨x, Config.checkByte 1 x⟩) = false ∧ x[0] + 1 ≠ x[(0 : Fin 7)] ∧
    NvRecord.passes 1 (some ⟨x.set (0 : Fin 7) (x[0] + 1), Config.checkByte 1 x⟩) = false := by
  have h : x[0] + 1 ≠ x[(0 : Fin 7)] := by
    change x[0] + 1 ≠ x[0]
    generalize x[0] = v
    revert v
    decide
  refine ⟨by decide, ?_, ?_, h, ?_⟩
  · simp
  · simpa using Config.checkByte_number x (by decide)
  · simpa using (Config.checkByte_content 1 x 0 h).symm

/-- Records that pass their check, of record 0 and of a bay; with a restore delay of 0 and with another; with a bay to restore and its
PGOOD low and high, and SAG asserted and released. -/
theorem test_meets_ColdResetTakesTheColdValues_records (delay : Byte) :
    let c : Fin 9 → Vector Byte 7 := fun r => if r = 0 then #v[8, delay, 0, 0, 0, 0, 0] else #v[1, 4, 30, 60, 5, 20, 50]
    let p : PolicyStore := { nv := nine c }
    p.nv.get 0 = some ⟨c 0, Config.checkByte 0 (c 0)⟩ ∧ p.nv.get (0 : Bay).succ = some ⟨c 1, Config.checkByte 1 (c 1)⟩ ∧
      NvRecord.passes 4 (p.nv.get 4) = false ∧ (readGlobal p).restoreDelay = delay.toNat ∧ (readBay p 0).policy = .on := by
  intro c p
  refine ⟨rfl, rfl, rfl, ?_, ?_⟩
  · have h := congrArg PolicyStore.ramGlobal (nine_cold c)
    exact (congrArg GlobalRecord.restoreDelay h :)
  · have h : readBay p 0 = .ofContent (c 1) := by
      unfold readBay bayRecordNo
      rw [nine_read]
      rfl
    rw [h]
    rfl

theorem test_meets_ColdResetTakesTheColdValues_pins : ∀ v : Bool,
    ((State.reset.modSeq 0 fun q => { q with pgood := v }).slice 0).sequencer.pgood = v ∧
    (State.reset.modGrant fun g => { g with sag := v }).grant.sag = v := by decide +kernel

/-- Seven content bytes of 0. -/
def zeros : Vector Byte 7 := Vector.replicate 7 0

/-- A part whose writer writes record 4, with record 8 dirty where `more` holds. -/
def writing (more : Bool) : State :=
  State.reset.modPolicy fun p => { p with writer := some (4, zeros), dirty := if more then 256 else 0 }

theorem test_meets_WarmResetRebuildsThePart : State.reset.resetN = false ∧ (writing false).policy.writer = some (4, zeros) ∧
    State.reset.policy.writer = none ∧ State.reset.policy.dirty = 0 ∧ (after (exec .warmReset State.reset)).resetN = true := by
  decide +kernel

theorem test_meets_SoftResetRebuildsThePart : (State.reset.link.hold = false ∧ State.reset.policy.restartPending = false ∧
      (1 : Byte) ≠ 0 ∧ State.reset.policy.writer = none) ∧ (writing false).policy.writer ≠ none ∧
    (let s := (writing false).modPolicy fun p => { p with restartPending := true };
      s.policy.writer = some (4, zeros) ∧ s.policy.restartPending = true ∧ s.policy.dirty = 0) := by decide +kernel

theorem test_meets_StoreIsTakenAndWritten : (takesRequest 1 (writing true) ∧ (writing true).policy.writer = some (4, zeros)) ∧
    (2 : Byte).toNat = RestorePolicy.last.code ∧ 8 < (9 : Byte).toNat ∧
    (takesRequest 1 State.reset ∧ State.reset.policy.writer = none ∧ State.reset.policy.dirty = 0) ∧
    ((writing true).policy.restartPending = false ∧ (writing false).policy.dirty = 0 ∧
      (writing true).policy.dirty.getLsbD (8 : Fin 9).val = true ∧
      ∀ m : Fin 9, m < 8 → (writing true).policy.dirty.getLsbD m.val = false) ∧
    (let p := (writing false).policy.dirty ||| 1;
      p.getLsbD (0 : Fin 9).val = true) ∧ (8 : Fin 9) = (7 : Bay).succ := by unfold takesRequest; decide +kernel

/-- Bay 0 with a medium of generation 4 in a state, its link UP, and requests queued. -/
def disk (state : MediumState) (queue : List ServerRequest) : State :=
  bay fun x => { x with
    medium := ⟨state, 4, some 10, true, false, false⟩, port := { up := true, queue := queue }
    sequencer := { x.sequencer with state := .on, pgood := true } }

/-- A READ, and a WRITE, of one block. -/
def request (write : Bool) (transferred resolved : Nat) : ServerRequest := ⟨7, 3, write, 0, 1, 0, false, transferred, resolved⟩

theorem test_meets_InsertPlacesADisk : takesRequest 1 State.reset ∧ (1 : BitVec 32) ≠ 0 ∧ (State.reset.slice 0).medium.state = .empty ∧
    (State.reset.slice 0).medium.generation ≤ 65535 ∧ ((disk .present []).slice 0).medium.state ≠ .empty ∧
    ((State.reset.modMedium 0 fun m => { m with generation := 65535 }).slice 0).medium.generation = 65535 := by
  unfold takesRequest; decide +kernel

/-- An entry of the cache that bay 0's DIRTY block 3 fills. -/
def dirty (state : MediumState) (queue : List ServerRequest) (r : WritebackRecord) : State :=
  (disk state queue).modCache fun c => { c with
    entries := c.entries.set 2 { state := .dirty, key := some ⟨0, 4, 3⟩, owner := some (.writeback 9) }, writebacks := [r] }

theorem test_meets_EjectRemovesTheDisk : takesRequest 1 (disk .present [request false 0 0]) ∧
    (State.reset.slice 0).medium.state = .empty ∧ ((disk .present []).slice 0).medium.state = .present ∧
    dirtyCount 0 (disk .present []) = 0 ∧
    (let s := dirty .present [] write9;
      (s.slice 0).medium.state = .present ∧ (s.slice 0).port.transfer = none ∧ dirtyCount 0 s ≠ 0) ∧
    ((dirty .ejectPending [] write9).slice 0).medium.state = .ejectPending := by unfold takesRequest; decide +kernel

/-- R98, R118: a bay in ON loses power with a disk whose eject-on-power-off flag is on, and with a DIRTY entry or none. -/
theorem test_meets_PowerLost : ∀ pending : Bool,
    let s := (if pending then dirty .present [request false 0 0] write9 else disk .present []).modMedium 0 fun m =>
      { m with ejectOnPowerOff := true }
    takesRequest 1 s ∧ (s.slice 0).sequencer.state = .on ∧ (s.slice 0).sequencer.pendingOn = false ∧ (0 : Bay) ∉ s.grant.queue ∧
    (s.slice 0).medium.state = .present ∧ (s.slice 0).medium.ejectOnPowerOff = true ∧ (s.slice 0).port.up = true ∧
    (s.slice 0).port.transfer = none ∧ dirtyCount 0 s = if pending then 1 else 0 := by
  unfold takesRequest; decide +kernel

/-- A port with a request queued on its link that is UP. -/
theorem test_meets_PowerLost_port : ((disk .present [request false 0 0]).slice 0).port.Wf :=
  ⟨by decide +kernel, by decide +kernel, by decide +kernel⟩

/-- R126: a close abandons a READ's transfer, which keeps its entry, and a WRITE's, which loses it and gives its place back. -/
theorem test_meets_MediaLinkOpensAndCloses_abandon : ∀ write : Bool,
    let s := ((disk .present [request write 0 0]).modPort 0 fun p => { p with transfer := some ⟨7, write, 2⟩ }).modCache fun c =>
      { c with entries := c.entries.set 2 { state := .valid, key := some ⟨0, 4, 0⟩, pinned := true } }
    let t := after (exec (.mediaClose 0) s)
    (s.slice 0).port.up = true ∧ (s.slice 0).port.transfer = some ⟨7, write, 2⟩ ∧ (∀ c : Bay, c ≠ 0 → (s.slice c).port.queue = []) ∧
    (t.cache.entry 2).pinned = false ∧ (t.cache.entry 2).state = (if write then .free else .valid) ∧
    usedPlaces s = (if write then 1 else 0) ∧ usedPlaces t = 0 := by decide +kernel

theorem test_meets_MediaLinkOpensAndCloses : ((disk .present []).slice 0).port.up = true ∧
    ((inState .on none false).slice 0).port.up = false ∧ ((inState .on none false).slice 0).sequencer.state = .on ∧
    (State.reset.slice 0).port.up = false ∧ (State.reset.slice 0).sequencer.state ≠ .on ∧
    (State.reset.slice 0).sequencer.state ≠ .resetting := by decide +kernel

theorem test_meets_ServerRequestsAreAdmitted :
    (4 ≤ ((disk .present (List.replicate 4 (request false 0 0))).slice 0).port.queue.length ∧
      ((disk .present (List.replicate 3 (request false 0 0))).slice 0).port.queue.length < 4) ∧
    ((disk .empty []).slice 0).medium.state ≠ .present ∧
    (((disk .present []).modMedium 0 fun m => { m with changed := true }).slice 0).medium.changed = true ∧
    (let x := (disk .present []).slice 0;
      x.port.up = true ∧ x.medium.state = .present ∧ x.medium.changed = false ∧ x.medium.capacity = some 10 ∧
      10 ≤ (10 : BitVec 32).toNat + 1 - 1 ∧ 10 ≤ (9 : BitVec 32).toNat + 2 - 1 ∧ 128 < 129 ∧ (9 : BitVec 32).toNat + 1 ≤ 10 ∧
      1 ≤ 1 ∧ 128 ≤ 128 ∧ x.medium.writable = true ∧ x.port.queue = [] ∧ x.port.transfer = none) ∧
    (((disk .present []).modMedium 0 fun m => { m with writable := false }).slice 0).medium.writable = false := by decide +kernel

/-- Bay 0 with its block 0 held VALID in entry 2 and, where `running` holds, a transfer of it in flight. -/
def held (write running : Bool) (count : Nat) : State :=
  ((disk .present (if running then [{ request write 0 0 with count := count }] else [])).modPort 0 fun p =>
    { p with transfer := if running then some ⟨7, write, 2⟩ else none }).modCache fun c =>
      { c with entries := c.entries.set 2 { state := if write then .dirty else .valid, key := some ⟨0, 4, 0⟩, pinned := running } }

theorem test_meets_ServerRequestsAreAdmitted_held :
    ((held false false 1).cache.entry 2).state = .valid ∧
    (held false false 1).cache.find ⟨0, ((held false false 1).slice 0).medium.generation, (0 : BitVec 32).toNat⟩ = some 2 ∧
    ((held false false 1).slice 0).port.queue = [] ∧ ((held false false 1).slice 0).port.transfer = none := by decide +kernel

/-- A READ whose first block is missing: the fetch table below its limit and full, and the extent of R136 cut by the capacity of 10, by
the READ's last block and the read-ahead, and by the limit of 8 blocks. -/
theorem test_meets_ServerRequestsAreAdmitted_missing :
    let s := disk .present []
    s.quiet ∧ (s.slice 0).port.transfer = none ∧ MissingBlock s 0 0 ∧ s.cache.fetches.length < 32 ∧ s.cache.lastFetchId ≤ 255 ∧
      32 ≤ (s.modCache fun c => { c with fetches := List.replicate 32 fetch12 }).cache.fetches.length ∧
      (∀ x < 8, MissingBlock s 0 (0 + x) ∧ 0 + x < 10 ∧ x < 1 + s.cache.readAhead) ∧
      ¬(MissingBlock s 0 (9 + 1) ∧ 9 + 1 < 10 ∧ 1 < 1 + s.cache.readAhead) ∧
      ((List.finRange 256).filter fun i => (s.cache.entry i).state = .free && !(s.cache.entry i).pinned).take 8 = [0, 1, 2, 3, 4, 5, 6, 7] ∧
      usedPlaces s < 16 ∧ (s.slice 0).medium.writable = true := by
  unfold State.quiet MissingBlock
  decide +kernel

/-- The first id is 1, after 255, and an id that a record holds is passed over (R135). -/
theorem test_meets_IdAfter : IdAfter [] 255 1 ∧ IdAfter [1, 2] 255 3 ∧ IdAfter [255] 254 1 :=
  ⟨⟨0, by decide, by decide, nofun⟩, ⟨2, by decide⟩, ⟨1, by decide⟩⟩

/-- A cache whose 256 entries hold blocks 0 to 255 of bay 0 in a state. -/
def filled (st : EntryState) : Cache := { entries := Vector.ofFn fun i => { state := st, key := some ⟨0, 4, i.val⟩ } }

theorem filled_entry (st : EntryState) (j : Fin 256) : (filled st).entry j = { state := st, key := some ⟨0, 4, j.val⟩ } := by
  simp [filled, Cache.entry, Vector.get_eq_getElem]

/-- The lowest FREE entry is the victim; with none, the VALID entry of the greatest age that the bay may take, and a part whose entries
are all DIRTY has no victim (R133). -/
theorem test_meets_VictimFor (i : Fin 256) :
    VictimFor {} 0 0 ∧ VictimFor (filled .valid) 0 0 ∧ ¬VictimFor (filled .dirty) 0 i ∧ ¬ValidEligible (filled .dirty) 0 i := by
  have he := filled_entry
  refine ⟨.inl ⟨by decide, by decide, fun j hj => absurd hj (Nat.not_lt_zero _)⟩,
    .inr ⟨fun j => .inl (by rw [he]; nofun), ⟨by rw [he], by rw [he], _, by rw [he], .inl rfl⟩,
      fun j _ => .inr ⟨by rw [he, he], Fin.zero_le _⟩⟩, ?_, ?_⟩
  · rintro (⟨h, -⟩ | ⟨-, ⟨h, -⟩, -⟩) <;> simp [he] at h
  · rintro ⟨h, -⟩
    simp [he] at h

/-- A bay with a disk of 1,000 blocks, its link UP and nothing queued, over a cache. -/
def caching (c : Cache) : State := ((disk .present []).modMedium 0 fun m => { m with capacity := some 1000 }).modCache fun _ => c

/-- A READ with one VALID victim and no FREE entry takes the first id and entry 0 (R133, R135). -/
theorem caching_valid : VictimFor (caching (filled .valid)).cache 0 0 ∧
    IdAfter ((caching (filled .valid)).cache.fetches.map FetchRecord.id) (caching (filled .valid)).cache.lastFetchId 1 := by
  have h (c : Cache) : (caching c).cache = c := rfl
  rw [h]
  exact ⟨(test_meets_VictimFor 0).2.1, 0, by decide⟩

/-- The READ-fetch clause with one VALID victim and no FREE entry: the last block of the disk is missing, and entry 0 is of the greatest
age (R133, R134, R136). -/
theorem test_meets_ServerRequestsAreAdmitted_valid :
    let s := caching (filled .valid)
    (s.quiet ∧ (s.slice 0).port.up = true ∧ (s.slice 0).port.transfer = none ∧ (s.slice 0).medium.state = .present ∧
      (s.slice 0).medium.changed = false ∧ (s.slice 0).medium.capacity = some 1000 ∧ (999 : BitVec 32).toNat + 1 ≤ 1000) ∧
    MissingBlock s 0 999 ∧ s.cache.fetches.length < 32 ∧ s.cache.lastFetchId ≤ 255 ∧
    (∀ x < 1, MissingBlock s 0 (999 + x) ∧ 999 + x < 1000 ∧ x < 1 + s.cache.readAhead) ∧
    ¬(MissingBlock s 0 (999 + 1) ∧ 999 + 1 < 1000 ∧ 1 < 1 + s.cache.readAhead) := by
  unfold State.quiet MissingBlock
  decide +kernel

/-- The READ-fetch clause with FREE victims: the extent of eight blocks, cut to one by the only FREE entry with no VALID one to take. -/
theorem test_meets_ServerRequestsAreAdmitted_free :
    let s := caching ((filled .dirty).modEntry 5 fun _ => {})
    (s.quiet ∧ (s.slice 0).port.up = true ∧ (s.slice 0).port.transfer = none ∧ (s.slice 0).medium.capacity = some 1000) ∧
    (∀ x < 8, MissingBlock s 0 (900 + x) ∧ 900 + x < 1000 ∧ x < 1 + s.cache.readAhead) ∧
    ((List.finRange 256).filter fun i => (s.cache.entry i).state = .free && !(s.cache.entry i).pinned).take 8 = [5] ∧
    ∀ i, (s.cache.entry i).state ≠ .valid := by
  unfold State.quiet MissingBlock
  decide +kernel

theorem test_meets_TransferEndAdvancesTheRequest : (State.reset.slice 0).port.transfer = none ∧
    ∀ w : Bool, ∀ n ∈ [1, 2],
      ((held w true n).slice 0).port.transfer = some ⟨7, w, 2⟩ ∧
      ((held w true n).slice 0).port.request 7 = some { request w 0 0 with count := n } ∧
      (((held w true n).slice 0).port.queue.map (·.serial)).Nodup ∧ 0 + 1 ≤ 0 + 1 ∧ 0 + 1 < 0 + 2 := by decide +kernel

/-- A transfer whose request a failed fetch has completed, with no other queued. -/
theorem test_meets_TransferEndAdvancesTheRequest_gone :
    let s := (held false true 1).modPort 0 fun p => { p with queue := [] }
    s.quiet ∧ (s.slice 0).port.transfer = some ⟨7, false, 2⟩ ∧ s.cache.writebacks.length ≤ 16 ∧ s.cache.lastWritebackId ≤ 255 := by
  unfold State.quiet
  decide +kernel

theorem test_meets_CacheSettingsAndQuery : takesRequest 1 State.reset := by unfold takesRequest; decide

/-- A part with one fetch record of two blocks, of which the second is filled. -/
def fetching (orphan : Bool) (queue : List ServerRequest) : State :=
  (disk .present queue).modCache fun c => { c with fetches := [{ fetch12 with orphan := orphan, notice := .sent, deadline := some 10 }] }

theorem test_meets_FillIsJudged : takesRequest 1 (fetching false []) ∧ State.reset.cache.fetchOf (12 : Byte).toNat = none ∧
    ∀ orphan : Bool, ∃ r, (fetching orphan []).cache.fetchOf (12 : Byte).toNat = some r ∧ r.orphan = orphan ∧ r.marks.length = 2 ∧
      r.marks.length ≤ (2 : Byte).toNat ∧ (1 : Byte).toNat < r.marks.length ∧ (5 : BitVec 16).toNat ≠ r.generation ∧
      (4 : BitVec 16).toNat = r.generation ∧ r.marks[(1 : Byte).toNat]? = some true ∧ r.marks[(0 : Byte).toNat]? = some false ∧
      r.deadline ≠ none := by
  unfold takesRequest
  exact ⟨by decide +kernel, by decide +kernel, fun orphan => ⟨_, rfl, by cases orphan <;> decide +kernel⟩⟩

/-- The reset state is quiet, and so is a part with an empty queue in each bay. -/
theorem test_meets_quiet : (fetching true []).quiet ∧ (fetching false []).quiet ∧ (dirty .present [] write9).quiet := by
  unfold State.quiet; decide +kernel

/-- R122, R130: the failed writeback of the block in transfer frees its pinned entry, and the READ asks for the block again. -/
theorem test_read_asks_in_transfer :
    let s := ((dirty .present [{ request false 0 0 with start := 3, next := 3 }] write9).modPort 0 fun p =>
      { p with transfer := some ⟨7, false, 2⟩ }).modCache fun c => c.modEntry 2 fun e => { e with pinned := true }
    let t := after (exec (.writeDone 1 9 1) s)
    (t.cache.entry 2).state = .free ∧ (t.cache.entry 2).pinned = true ∧ (t.slice 0).port.transfer = some ⟨7, false, 2⟩ ∧
      t.cache.fetches = [⟨1, 0, 4, 3, List.replicate 7 false, .pending, none, false⟩] := by decide +kernel

theorem test_meets_FetchesFail : takesRequest 1 (fetching false [request false 0 0]) ∧
    ((fetching false [request false 0 0]).slice 0).port.Wf ∧
    (∃ r, (fetching false [request false 0 0]).cache.fetchOf (12 : Byte).toNat = some r ∧ r.bay = 0 ∧ r.orphan = false ∧ r.deadline ≠ none) ∧
    ∃ r, (State.reset.modCache fun c => { c with fetches := [fetch12] }).cache.fetchOf (12 : Byte).toNat = some r ∧ r.deadline = none := by
  unfold takesRequest
  exact ⟨by decide +kernel, ⟨by decide +kernel, by decide +kernel, by decide +kernel⟩, ⟨_, rfl, by decide +kernel⟩, _, rfl, rfl⟩

theorem test_meets_WritebacksAreResolved :
    let sent : WritebackRecord := { write9 with notice := .sent, deadline := some 20 }
    takesRequest 1 (dirty .present [] sent) ∧ State.reset.cache.writebackOf (9 : Byte).toNat = none ∧ (1 : Byte).toNat ≤ 1 ∧
    (dirty .present [] sent).cache.writebackOf (9 : Byte).toNat = some sent ∧ sent.deadline ≠ none ∧ write9.deadline = none ∧
    sent.entry = some 2 ∧ sent.orphan = false ∧ ((dirty .present [] sent).slice 0).medium.state = .present ∧
    (dirty .present [] { sent with orphan := true, entry := none }).cache.writebackOf (9 : Byte).toNat =
      some { sent with orphan := true, entry := none } := by unfold takesRequest; decide +kernel

/-- R115: the writeback of an EJECT_PENDING medium's last DIRTY entry, and of one of two, resolved with ok. -/
theorem test_meets_WritebacksAreResolved_eject : ∀ two : Bool,
    let s := (dirty .ejectPending [] { write9 with deadline := some 20 }).modCache fun c =>
      if two then c.modEntry 3 fun _ => { state := .dirty, key := some ⟨0, 4, 5⟩, owner := some (.writeback 10) } else c
    let t := after (exec (.writeDone 1 9 0) s)
    (∃ r, s.cache.writebackOf (9 : Byte).toNat = some r ∧ r.deadline ≠ none ∧ r.orphan = false ∧ r.entry = some 2) ∧ s.quiet ∧
    (s.slice 0).medium.state = .ejectPending ∧ (s.cache.entry 2).state = .dirty ∧ (s.cache.entry 2).key.map BlockKey.bay = some 0 ∧
    dirtyCount 0 s = (if two then 2 else 1) ∧ dirtyCount 0 t = (if two then 1 else 0) ∧
    (t.slice 0).medium.state = (if two then .ejectPending else .empty) ∧ t.flag 0 .mediaEjected = !two ∧
    (t.cache.entry 2).state = .free := by
  intro two
  refine ⟨⟨_, by cases two <;> rfl, by decide, by decide, by decide⟩, by cases two <;> (unfold State.quiet; decide +kernel), ?_⟩
  cases two <;> decide +kernel

theorem test_meets_WritebacksAreResolved_write :
    let r : WritebackRecord := { write9 with request := some 7 }
    ∀ n ∈ [0, 1],
      let s := dirty .present [request true n 0] r
      takesRequest 1 s ∧ s.cache.writebackOf (9 : Byte).toNat = some r ∧ (s.slice 0).port.request 7 = some (request true n 0) ∧
      ((request true n 0).transferred ≠ (request true n 0).count ∨ n = 1 ∧ (request true n 0).resolved + 1 = (request true n 0).count) ∧
      (s.slice 0).port.queue.length ≤ 4 ∧ ((s.slice 0).port.queue.map ServerRequest.serial).Nodup ∧ (s.slice 0).port.up = true := by
  unfold takesRequest; decide +kernel

theorem test_meets_CommandsTouchOnlyTheirParts : ∃ t, exec (.ident 1) State.reset = .next t ∧ mayTouch (.ident 1) .policy = false :=
  ⟨_, rfl, by decide⟩

theorem test_meets_DecodeOfEncode : (Instr.send 1 0 0 [5]).WellFormed = true ∧
    encodeRequest (.send 1 0 0 [5]) = some ⟨0x09, 1, [0, 0, 1, 5]⟩ := by decide

theorem test_meets_FrameBytesReachTheRequest : State.reset.link.hold = false ∧ State.reset.link.receiver = .hunt := by decide

theorem test_meets_StepKeepsTheLink : waiting.link.Wf ∧ ∃ t, step waiting = .next t :=
  ⟨⟨by decide, by decide, nofun, nofun⟩, _, rfl⟩

/-- Every slice of the reset state is the cold slice. -/
theorem waiting_slice (b : Bay) : waiting.slice b = {} := by
  simp [waiting, State.slice, State.reset]

theorem test_meets_StepKeepsTheLinesAndMonitors :
    (∀ b, (waiting.slice b).line.Wf ∧ (waiting.slice b).line.rate.Wf ∧ (waiting.slice b).monitor.Wf) ∧ ∃ t, step waiting = .next t := by
  refine ⟨fun b => ?_, _, rfl⟩
  rw [waiting_slice]
  exact ⟨⟨⟨by decide, by decide, by decide, by decide, by decide⟩, by decide, nofun⟩,
    ⟨by decide, by decide, by decide, nofun, nofun, fun _ => by decide, by decide⟩, ⟨by decide, by decide, by decide, by decide⟩⟩

theorem test_meets_StepKeepsTheHistory : waiting.HistoryWf := by
  refine ⟨fun b => ?_, by decide +kernel⟩
  rw [waiting_slice]
  exact ⟨by decide, by decide, nofun, nofun⟩

theorem test_meets_StepKeepsThePower : waiting.PowerWf := by
  refine ⟨fun b => ?_, by decide, by decide +kernel, by decide +kernel, by decide +kernel, by decide⟩
  rw [waiting_slice]
  exact ⟨rfl, nofun, nofun⟩

theorem test_meets_StepKeepsTheMedia : waiting.MediaWf := by
  constructor <;> intro b <;> rw [waiting_slice]
  · exact ⟨by decide, by decide⟩
  · exact ⟨by decide, by decide, by decide⟩
  · nofun
  · nofun
  · exact fun h => absurd rfl h

theorem test_meets_StepKeepsTheCache : waiting.CacheWf := by
  have h : ∀ i, waiting.cache.entry i = {} := fun i => by simp [waiting, State.reset, Cache.entry]
  exact ⟨fun i _ => by rw [h], fun i j hi => absurd (by rw [h]) hi, by decide, by decide +kernel⟩

/-- A part with nothing in its cache, no record and no transfer. -/
theorem test_meets_StepKeepsTheCache_tied : waiting.CacheTied := by
  have h : ∀ i, waiting.cache.entry i = {} := fun i => by simp [waiting, State.reset, Cache.entry]
  have ht : ∀ b, (waiting.slice b).port.transfer = none := fun b => by rw [waiting_slice]
  refine ⟨fun i hi => absurd (by rw [h]) hi, fun i _ => by rw [h], by decide, by decide, by decide, fun i hi => ?_, nofun, fun i hi => ?_,
    nofun, fun i => ?_, ?_, ?_, ?_, ?_⟩ <;> simp_all

end Sys2Proof.Tests
end

section
/-! PROOFS. The statements of chapter 2 about RATE_MODE and RATE_DETECT (R39, R40), with the rules they use: what a reply leaves, what a
detection's start leaves, and when an evaluation ends in a lock. -/

namespace Sys2Proof.Machine

variable {s : State} {tag : Byte} {b : Bay}

/-! ## Replies -/

/-- Hunting for the next frame touches the link alone, so a slice may be replaced before or after it. -/
theorem toHunt_withSlice (s : State) (b : Bay) (x : Slice) : (toHunt s).withSlice b x = toHunt (s.withSlice b x) := rfl

theorem toHunt_withRate (s : State) (b : Bay) (r : RateUnit) : (toHunt s).withRate b r = toHunt (s.withRate b r) := rfl

theorem pushReply_refuse_toHunt (kind tag : Byte) (c : ReplyCode) (s : State) :
    pushReply kind tag (refuse c (toHunt s)) = replied (replyKind kind) tag [c.byte] s := rfl

theorem pushReply_accept_toHunt (kind tag : Byte) (fields : List Byte) (s : State) :
    pushReply kind tag (accept (toHunt s) fields) = replied (replyKind kind) tag (0 :: fields) s := rfl

/-! ## RATE_MODE (R39) -/

/-- A loop policy other than 1 and 2 is undefined (Table 11-2). -/
theorem loopPolicyOf_eq_none {mode : Byte} (h1 : mode ≠ 1) (h2 : mode ≠ 2) : loopPolicyOf mode = none := by
  unfold loopPolicyOf
  split
  case h_1 h => exact absurd (BitVec.eq_of_toNat_eq h) h1
  case h_2 h => exact absurd (BitVec.eq_of_toNat_eq h) h2
  case h_3 => rfl

theorem exists_loopPolicyOf_eq_some {mode : Byte} (h : mode = 1 ∨ mode = 2) : ∃ p, loopPolicyOf mode = some p := by
  obtain rfl | rfl := h
  · exact ⟨.track, rfl⟩
  · exact ⟨.hold, rfl⟩

/-- A RATE_MODE that is taken: its mode is decoded, its line is checked, and the line's rate unit answers (R167). -/
theorem exec_rateMode_taken (h : takesRequest tag s) (line mode : Byte) :
    exec (.rateMode tag line mode) s =
      .next (pushReply 0x11 tag (withField (loopPolicyOf mode) (fun p => onBay line (rateModeAct p)) (toHunt s))) :=
  congrArg Host.Outcome.next (takeRequest_taken _ h)

theorem rateModeAct_refused (p : LoopPolicy) (h : (s.slice b).line.rate.mode = .manual ∨ (s.slice b).line.rate.detection ≠ none) :
    rateModeAct p b s = refuse .state s :=
  if_pos (h.imp_right Option.isSome_iff_ne_none.mpr)

theorem rateModeAct_accepted (p : LoopPolicy) (hm : (s.slice b).line.rate.mode ≠ .manual)
    (hd : (s.slice b).line.rate.detection = none) :
    rateModeAct p b s = accept (s.withRate b { (s.slice b).line.rate with mode := p.mode }) (le1 p.mode.code) :=
  if_neg (by simp [hm, hd])

/-- A RATE_MODE that a RUNNING line in TRACK or HOLD takes sets the mode and reports it, and changes nothing else. -/
theorem exec_rateMode_accepted (h : takesRequest tag s) {mode : Byte} {p : LoopPolicy} (hp : loopPolicyOf mode = some p)
    (hm : (s.slice b).line.rate.mode ≠ .manual) (hd : (s.slice b).line.rate.detection = none) :
    exec (.rateMode tag (bayByte b) mode) s =
      .next (replied 0x91 tag (0 :: le1 p.mode.code) (s.withRate b { (s.slice b).line.rate with mode := p.mode })) := by
  rw [exec_rateMode_taken h, hp, withField_some, onBay_bayByte, rateModeAct_accepted (s := toHunt s) p hm hd, toHunt_slice, toHunt_withRate]
  exact congrArg Host.Outcome.next (pushReply_accept_toHunt 0x11 tag _ _)

theorem exec_rateMode_state (h : takesRequest tag s) {mode : Byte} (hp : mode = 1 ∨ mode = 2)
    (hr : (s.slice b).line.rate.mode = .manual ∨ (s.slice b).line.rate.detection ≠ none) :
    exec (.rateMode tag (bayByte b) mode) s = .next (replied 0x91 tag [3] s) := by
  obtain ⟨p, hp⟩ := exists_loopPolicyOf_eq_some hp
  rw [exec_rateMode_taken h, hp, withField_some, onBay_bayByte, rateModeAct_refused (s := toHunt s) p hr]
  exact congrArg Host.Outcome.next (pushReply_refuse_toHunt 0x11 tag .state s)

theorem exec_rateMode_malformed (h : takesRequest tag s) (line : Byte) {mode : Byte} (h1 : mode ≠ 1) (h2 : mode ≠ 2) :
    exec (.rateMode tag line mode) s = .next (replied 0x91 tag [1] s) := by
  rw [exec_rateMode_taken h, loopPolicyOf_eq_none h1 h2, withField_none]
  exact congrArg Host.Outcome.next (pushReply_refuse_toHunt 0x11 tag .malformed s)

theorem exec_rateMode_range (h : takesRequest tag s) {line mode : Byte} (hp : mode = 1 ∨ mode = 2) (hl : 8 ≤ line.toNat) :
    exec (.rateMode tag line mode) s = .next (replied 0x91 tag [2] s) := by
  obtain ⟨p, hp⟩ := exists_loopPolicyOf_eq_some hp
  rw [exec_rateMode_taken h, hp, withField_some, onBay_above hl]
  exact congrArg Host.Outcome.next (pushReply_refuse_toHunt 0x11 tag .range s)

/-! ## A detection that ends in a lock (R29, R30) -/

/-- One entry of the search. Both sides are unfolded first: otherwise the kernel compares them by computing the distances, where the
factor of 1,000,000 is too deep for it. -/
theorem nearestFrom_cons (w n : Nat) (rest : List Nat) (i : Nat) (best : Nat × Nat) :
    nearestFrom w (n :: rest) i best =
      nearestFrom w rest (i + 1) (if ppmDistance w n < best.2 then (i, ppmDistance w n) else best) := by
  delta nearestFrom
  rfl

/-- The search is at least as near as its best so far and as every entry it still has to look at. -/
theorem nearestFrom_snd_le (w : Nat) (l : List Nat) (i : Nat) (best : Nat × Nat) :
    (nearestFrom w l i best).2 ≤ best.2 ∧ ∀ n ∈ l, (nearestFrom w l i best).2 ≤ ppmDistance w n := by
  induction l generalizing i best with
  | nil => exact ⟨le_rfl, nofun⟩
  | cons m rest ih =>
    obtain ⟨hbest, hrest⟩ := ih (i + 1) (if ppmDistance w m < best.2 then (i, ppmDistance w m) else best)
    have hmin : (if ppmDistance w m < best.2 then (i, ppmDistance w m) else best).2 = min (ppmDistance w m) best.2 := by
      split <;> omega
    rw [hmin] at hbest
    rw [nearestFrom_cons]
    refine ⟨hbest.trans (min_le_right _ _), fun n hn => ?_⟩
    obtain rfl | hn := List.mem_cons.mp hn
    · exact hbest.trans (min_le_left _ _)
    · exact hrest n hn

/-- No table entry is nearer to W_min than the one found (R30). -/
theorem nearestEntry_snd_le (w : Nat) {n : Nat} (h : n ∈ Config.divisorTable) : (nearestEntry w).2 ≤ ppmDistance w n := by
  have htable : Config.divisorTable = Config.divisorTable.headD 0 :: Config.divisorTable.drop 1 := rfl
  obtain ⟨hhead, hrest⟩ :=
    nearestFrom_snd_le w (Config.divisorTable.drop 1) 1 (0, ppmDistance w (Config.divisorTable.headD 0))
  rw [htable] at h
  obtain rfl | h := List.mem_cons.mp h
  · exact hhead
  · exact hrest n h

/-- A detection locks where the table matches, or where the line allows a custom rate (R30). -/
theorem evaluateDetection_eq_lockLine (w q c : Nat)
    (h : (s.slice b).line.config.customRate = true ∨ (nearestEntry w).2 ≤ ppmLimit) :
    ∃ n i r, evaluateDetection b w q c s = lockLine b n i r s := by
  unfold evaluateDetection concludeDetection
  by_cases hd : (nearestEntry w).2 ≤ ppmLimit
  · exact ⟨_, _, _, if_pos hd⟩
  · rw [if_neg hd, if_pos (h.resolve_right hd)]
    exact ⟨_, _, _, rfl⟩

/-- A lock leaves the line RUNNING at the divisor it locked to, in the mode of its loop policy (R30, R31). -/
@[simp] theorem lockLine_slice_rate (b : Bay) (n i : Nat) (r : DetectionRecord) (s : State) :
    ((lockLine b n i r s).slice b).line.rate =
      { (s.slice b).line.rate with
        divisor := n, lock := n, index := i, acc := 0, drift := .none, mode := (s.slice b).line.config.loopPolicy.mode
        record := r, detection := none } := by
  simp [lockLine, Line.endDetection]

/-- The window of a detection that holds W_min expires with c of at least 2: the detection is evaluated (R29). -/
theorem exec_detectionWindowExpiry_evaluates {w q c : Nat} (hc : 2 ≤ c)
    (h : (s.slice b).line.rate.detection = some ⟨some w, q, c⟩) :
    exec (.detectionWindowExpiry b) s = .next (evaluateDetection b w q c s) := by
  change execDetectionWindowExpiry b s = _
  simp [execDetectionWindowExpiry, h, hc]

/-- Settles O19: one rule per outcome of the request in the order of R167, and for the last clause that a lock, whichever divisor it is
to, takes its mode from the loop policy. -/
theorem rateModeSetsTheMode : Obligations.RateModeSetsTheMode := by
  unfold Obligations.RateModeSetsTheMode
  intro s tag h
  refine ⟨fun b hm hd => ⟨exec_rateMode_accepted h (p := .track) rfl hm hd, exec_rateMode_accepted h (p := .hold) rfl hm hd⟩,
    fun b mode hr hp => exec_rateMode_state h hp hr, fun line mode => exec_rateMode_malformed h line,
    fun line mode => exec_rateMode_range h, fun b w q c hc hd hlock => ?_⟩
  have hnear : (s.slice b).line.config.customRate = true ∨ (nearestEntry w).2 ≤ ppmLimit :=
    hlock.imp_right fun ⟨_, _, hn, hppm⟩ => (nearestEntry_snd_le w (List.mem_of_getElem? hn)).trans hppm
  obtain ⟨n, i, r, hl⟩ := evaluateDetection_eq_lockLine w q c hnear
  refine ⟨lockLine b n i r s, by rw [exec_detectionWindowExpiry_evaluates hc hd, hl], by simp, ?_⟩
  rw [lockLine_slice_rate]
  cases (s.slice b).line.config.loopPolicy <;> rfl

/-! ## RATE_DETECT (R40) -/

/-- The slice of a bay whose line starts or restarts a detection (R7, R26, R27, R63). -/
def Slice.detectionStarted (x : Slice) : Slice :=
  { x with
    line := { x.line with receiver := .waitHigh, lowPeriod := none, rate := { x.line.rate with detection := some ⟨none, 0, 0⟩ } }
    heartbeat := { x.heartbeat with j := 0 }
    responder := { x.responder with j := 0 } }

/-- A detection's start changes the slice of its bay alone. -/
theorem startDetection_eq_withSlice (b : Bay) (s : State) :
    startDetection b s = s.withSlice b (s.slice b).detectionStarted := by
  unfold startDetection clearMatchers State.modHeartbeat State.modResponder State.modLine
  rw [modSlice_modSlice, modSlice_modSlice]
  rfl

/-- A RATE_DETECT that is taken: its line is checked, and the line's rate unit answers (R167). -/
theorem exec_rateDetect_taken (h : takesRequest tag s) (line : Byte) :
    exec (.rateDetect tag line) s = .next (pushReply 0x12 tag (onBay line rateDetectAct (toHunt s))) :=
  congrArg Host.Outcome.next (takeRequest_taken _ h)

theorem exec_rateDetect_accepted (h : takesRequest tag s) (b : Bay) :
    exec (.rateDetect tag (bayByte b)) s = .next (replied 0x92 tag [0] (s.withSlice b (s.slice b).detectionStarted)) := by
  rw [exec_rateDetect_taken h, onBay_bayByte, rateDetectAct, startDetection_eq_withSlice, toHunt_slice, toHunt_withSlice]
  exact congrArg Host.Outcome.next (pushReply_accept_toHunt 0x12 tag [] _)

theorem exec_rateDetect_range (h : takesRequest tag s) {line : Byte} (hl : 8 ≤ line.toNat) :
    exec (.rateDetect tag line) s = .next (replied 0x92 tag [2] s) := by
  rw [exec_rateDetect_taken h, onBay_above hl]
  exact congrArg Host.Outcome.next (pushReply_refuse_toHunt 0x12 tag .range s)

/-- Settles O20: a line that exists starts its detection whatever its state, and a line above 7 is refused. -/
theorem rateDetectStartsADetection : Obligations.RateDetectStartsADetection := by
  unfold Obligations.RateDetectStartsADetection
  exact fun s tag h => ⟨exec_rateDetect_accepted h, fun _ => exec_rateDetect_range h⟩

end Sys2Proof.Machine
end

section
/-! PROOFS. The statements of chapter 3 about HISTORY_SIZE, HISTORY_CLEAR, HISTORY and ATTACH (R47 to R49, R51), with the rules they use:
how an owner's answer becomes the reply of a request, where a number stands against a ring, and what each owner answers. -/

namespace Sys2Proof.Machine

variable {s t : State} {tag kind : Byte} {b : Bay} {act : State → Answer} {h : History} {start : SeqNo}

/-! ## Requests -/

/-- Hunting for the next frame touches the link alone, so a history may be replaced before or after it. -/
theorem toHunt_withHistory (s : State) (b : Bay) (h : History) : (toHunt s).withHistory b h = toHunt (s.withHistory b h) := rfl

/-- A request that its owner accepts is replied OK with the fields given, from the state the owner leaves (R167). -/
theorem takeRequest_accepted (ht : takesRequest tag s) {fields : List Byte} (ha : act (toHunt s) = accept (toHunt t) fields) :
    takeRequest kind tag act s = replied (replyKind kind) tag (0 :: fields) t := by
  rw [takeRequest_taken act ht, ha, pushReply_accept_toHunt]

/-- A request that its owner refuses is replied with the code alone, and changes nothing else (R167). -/
theorem takeRequest_refused (ht : takesRequest tag s) {c : ReplyCode} (ha : act (toHunt s) = refuse c (toHunt s)) :
    takeRequest kind tag act s = replied (replyKind kind) tag [c.byte] s := by
  rw [takeRequest_taken act ht, ha, pushReply_refuse_toHunt]

theorem le1_toNat (x : Byte) : le1 x.toNat = [x] := by simp [le1]

/-! ## HISTORY_SIZE and HISTORY_CLEAR (R47, R48) -/

/-- The ring once it is emptied and has `n` pages (R47). -/
def History.resized (n : Nat) (h : History) : History := { h.clear with pages := n }

/-- A ring of an allowed size whose growth the pool can meet is emptied and gets its pages. -/
theorem historySizeAct_resized {n : Nat} (hlo : 2 ≤ n) (hhi : n ≤ 64) (hfit : n - (s.slice b).history.pages ≤ freePages s) :
    historySizeAct n b s =
      accept (s.withHistory b ((s.slice b).history.resized n))
        (le1 n ++ le1 (freePages (s.withHistory b ((s.slice b).history.resized n)))) := by
  unfold historySizeAct
  rw [if_neg (by omega), if_neg (by omega)]
  rfl

theorem historySizeAct_range {n : Nat} (hn : n < 2 ∨ 64 < n) : historySizeAct n b s = refuse .range s := if_pos hn

theorem historySizeAct_conflict {n : Nat} (hlo : 2 ≤ n) (hhi : n ≤ 64) (hover : freePages s < n - (s.slice b).history.pages) :
    historySizeAct n b s = refuse .conflict s := by
  unfold historySizeAct
  rw [if_neg (by omega), if_pos hover]

theorem exec_historySize_resized (ht : takesRequest tag s) {pages : Byte} (hlo : 2 ≤ pages.toNat) (hhi : pages.toNat ≤ 64)
    (hfit : pages.toNat - (s.slice b).history.pages ≤ freePages s) :
    exec (.historySize tag (bayByte b) pages) s =
      .next (replied 0x98 tag
        (0 :: pages :: le1 (freePages (s.withHistory b ((s.slice b).history.resized pages.toNat))))
        (s.withHistory b ((s.slice b).history.resized pages.toNat))) := by
  refine congrArg Host.Outcome.next (takeRequest_accepted ht ?_)
  rw [onBay_bayByte, historySizeAct_resized (s := toHunt s) hlo hhi hfit, toHunt_slice, toHunt_withHistory, le1_toNat]
  rfl

theorem exec_historySize_range (ht : takesRequest tag s) {pages : Byte} (hn : pages.toNat < 2 ∨ 64 < pages.toNat) :
    exec (.historySize tag (bayByte b) pages) s = .next (replied 0x98 tag [2] s) :=
  congrArg Host.Outcome.next (takeRequest_refused ht ((onBay_bayByte b _ _).trans (historySizeAct_range hn)))

theorem exec_historySize_conflict (ht : takesRequest tag s) {pages : Byte} (hlo : 2 ≤ pages.toNat) (hhi : pages.toNat ≤ 64)
    (hover : freePages s < pages.toNat - (s.slice b).history.pages) :
    exec (.historySize tag (bayByte b) pages) s = .next (replied 0x98 tag [5] s) :=
  congrArg Host.Outcome.next (takeRequest_refused ht ((onBay_bayByte b _ _).trans (historySizeAct_conflict hlo hhi hover)))

theorem exec_historyClear_taken (ht : takesRequest tag s) (b : Bay) :
    exec (.historyClear tag (bayByte b)) s =
      .next (replied 0x99 tag (0 :: le4 (s.slice b).history.next.toNat) (s.withHistory b (s.slice b).history.clear)) :=
  congrArg Host.Outcome.next (takeRequest_accepted ht (onBay_bayByte b _ _))

/-- Settles O23: the pages a ring has count as free for its own growth, so the statement's bound on the pool is the owner's. -/
theorem ringIsResizedAndCleared : Obligations.RingIsResizedAndCleared := by
  unfold Obligations.RingIsResizedAndCleared
  intro s tag b ht
  refine ⟨fun pages hlo hhi hpool => ⟨_, exec_historySize_resized ht hlo hhi ?fit, rfl⟩, fun _ => exec_historySize_range ht,
    fun pages hlo hhi hsum hpool => exec_historySize_conflict ht hlo hhi ?exceeds, exec_historyClear_taken ht b⟩
  all_goals
    simp only [freePages, Config.historyPages]
    omega

/-! ## Where a number stands against a ring (R45) -/

theorem History.place_held (hd : (h.next - start).toNat ≤ h.entries.length) : h.place start = .held := if_pos hd

theorem History.place_belowOldest (hd : h.entries.length < (h.next - start).toNat) (hw : (h.next - start).toNat ≤ 2147483648) :
    h.place start = .belowOldest := (if_neg hd.not_ge).trans (if_pos hw)

theorem History.place_aboveNewest (hd : h.entries.length < (h.next - start).toNat) (hw : 2147483648 < (h.next - start).toNat) :
    h.place start = .aboveNewest := (if_neg hd.not_ge).trans (if_neg hw.not_ge)

/-- Oldest stands behind next by the entries held, as long as sequence numbers can tell them apart. -/
theorem History.behind_oldest (hlen : h.entries.length < 4294967296) : h.behind h.oldest = h.entries.length := by
  unfold History.behind History.oldest
  bv_omega

/-! ## HISTORY (R49) -/

/-- A read from oldest takes the entries from the first on. -/
theorem History.readFrom_oldest (hlen : h.entries.length < 4294967296) (truncated : Bool) (n : Nat) :
    h.readFrom truncated h.oldest n =
      bit truncated ++ le4 h.oldest.toNat ++ le1 (h.entries.take n).length ++ encodeEntries (h.entries.take n) ++
        le4 (h.oldest + BitVec.ofNat 32 (h.entries.take n).length).toNat ++ le4 h.oldest.toNat ++ le4 h.newest.toNat := by
  unfold History.readFrom
  rw [History.behind_oldest hlen, Nat.sub_self, List.drop_zero]

theorem historyAct_held (n : Nat) (hp : (s.slice b).history.place start = .held) :
    historyAct start n b s = accept s ((s.slice b).history.readFrom false start (min n 240)) := by
  simp only [historyAct, hp]

theorem historyAct_belowOldest (n : Nat) (hp : (s.slice b).history.place start = .belowOldest) :
    historyAct start n b s = accept s ((s.slice b).history.readFrom true (s.slice b).history.oldest (min n 240)) := by
  simp only [historyAct, hp]

theorem historyAct_aboveNewest (n : Nat) (hp : (s.slice b).history.place start = .aboveNewest) :
    historyAct start n b s = refuse .range s := by
  simp only [historyAct, hp]

theorem exec_history_held (ht : takesRequest tag s) (count : Byte) (hp : (s.slice b).history.place start = .held) :
    exec (.history tag (bayByte b) start count) s =
      .next (replied 0x9A tag (0 :: (s.slice b).history.readFrom false start (min count.toNat 240)) s) :=
  congrArg Host.Outcome.next (takeRequest_accepted ht ((onBay_bayByte b _ _).trans (historyAct_held count.toNat hp)))

theorem exec_history_belowOldest (ht : takesRequest tag s) (count : Byte) (hp : (s.slice b).history.place start = .belowOldest) :
    exec (.history tag (bayByte b) start count) s =
      .next (replied 0x9A tag (0 :: (s.slice b).history.readFrom true (s.slice b).history.oldest (min count.toNat 240)) s) :=
  congrArg Host.Outcome.next (takeRequest_accepted ht ((onBay_bayByte b _ _).trans (historyAct_belowOldest count.toNat hp)))

theorem exec_history_aboveNewest (ht : takesRequest tag s) (count : Byte) (hp : (s.slice b).history.place start = .aboveNewest) :
    exec (.history tag (bayByte b) start count) s = .next (replied 0x9A tag [2] s) :=
  congrArg Host.Outcome.next (takeRequest_refused ht ((onBay_bayByte b _ _).trans (historyAct_aboveNewest count.toNat hp)))

/-- Settles O24: one rule per place of the start; a start below oldest bounds the entries held by the sequence numbers, so the read from
oldest begins with the first entry. -/
theorem historyReadsTheRing : Obligations.HistoryReadsTheRing := by
  unfold Obligations.HistoryReadsTheRing
  intro s tag b start count ht
  refine ⟨fun hd => ⟨_, rfl, exec_history_held ht count (History.place_held hd)⟩, fun hd hw => ⟨_, _, rfl, rfl, ?_⟩,
    fun hd hw => exec_history_aboveNewest ht count (History.place_aboveNewest hd hw)⟩
  rw [exec_history_belowOldest ht count (History.place_belowOldest hd hw), History.readFrom_oldest (by omega)]
  rfl

/-! ## ATTACH (R51) -/

/-- A start form above 2 is undefined (Table 11-2). -/
theorem startFormOf_eq_none {form : Byte} (hf : 2 < form.toNat) : startFormOf form = none := by
  unfold startFormOf
  split
  case h_4 => rfl
  all_goals omega

theorem attachAct_position_held (credit : Nat) (hp : (s.slice b).history.place start = .held) :
    attachAct .position start credit b s = attachAt start 0 credit b s := by
  simp only [attachAct, hp]

theorem attachAct_position_belowOldest (credit : Nat) (hp : (s.slice b).history.place start = .belowOldest) :
    attachAct .position start credit b s =
      attachAt (s.slice b).history.oldest ((s.slice b).history.oldest - start).toNat credit b s := by
  simp only [attachAct, hp]

theorem attachAct_position_aboveNewest (credit : Nat) (hp : (s.slice b).history.place start = .aboveNewest) :
    attachAct .position start credit b s = refuse .range s := by
  simp only [attachAct, hp]

/-- An ATTACH whose form comes down to a cursor and a gap gives the line a stream of these with the credit given, and reports them. -/
theorem exec_attach_at (ht : takesRequest tag s) {form : Byte} {f : StartForm} {credit : BitVec 16} {cursor : SeqNo} {gap : Nat}
    (hf : startFormOf form = some f)
    (ha : attachAct f start credit.toNat b (toHunt s) = attachAt cursor gap credit.toNat b (toHunt s)) :
    exec (.attach tag (bayByte b) form start credit) s =
      .next (replied 0x9B tag
        (0 :: (le4 cursor.toNat ++ le4 gap ++ le2 credit.toNat ++ le4 (s.slice b).history.oldest.toNat ++
          le4 (s.slice b).history.newest.toNat))
        (s.withHistory b { (s.slice b).history with stream := some ⟨cursor, gap, credit.toNat⟩ })) := by
  refine congrArg Host.Outcome.next (takeRequest_accepted ht ?_)
  rw [hf, withField_some, onBay_bayByte, ha]
  rfl

theorem exec_attach_range (ht : takesRequest tag s) (credit : BitVec 16) (hp : (s.slice b).history.place start = .aboveNewest) :
    exec (.attach tag (bayByte b) 2 start credit) s = .next (replied 0x9B tag [2] s) :=
  congrArg Host.Outcome.next
    (takeRequest_refused ht ((onBay_bayByte b _ _).trans (attachAct_position_aboveNewest credit.toNat hp)))

theorem exec_attach_malformed (ht : takesRequest tag s) (line : Byte) (start : SeqNo) (credit : BitVec 16) {form : Byte}
    (hf : 2 < form.toNat) : exec (.attach tag line form start credit) s = .next (replied 0x9B tag [1] s) := by
  refine congrArg Host.Outcome.next (takeRequest_refused (kind := 0x1B) (c := .malformed) ht ?_)
  rw [startFormOf_eq_none hf, withField_none]

/-- Settles O25: each form that is taken comes down to a cursor and a gap, the third by where its number stands against the ring. -/
theorem attachOpensAStream : Obligations.AttachOpensAStream := by
  unfold Obligations.AttachOpensAStream
  rintro s tag b start credit h oldest ht rfl rfl
  refine ⟨fun form cursor gap hform => ?_, fun hd hw => exec_attach_range ht credit (History.place_aboveNewest hd hw),
    fun form hf => exec_attach_malformed ht _ _ _ hf⟩
  obtain ⟨rfl, rfl, rfl⟩ | ⟨rfl, rfl, rfl⟩ | ⟨rfl, hd, rfl, rfl⟩ | ⟨rfl, hd, hw, rfl, rfl⟩ := hform
  · exact exec_attach_at ht (f := .next) rfl rfl
  · exact exec_attach_at ht (f := .oldest) rfl rfl
  · exact exec_attach_at ht (f := .position) rfl (attachAct_position_held _ (History.place_held hd))
  · exact exec_attach_at ht (f := .position) rfl (attachAct_position_belowOldest _ (History.place_belowOldest hd hw))

end Sys2Proof.Machine
end

section
/-! PROOFS. The statement of chapter 4 about WATCH_CLEAR (R76), with the rules it uses: what the owner answers for a bay, and what the
request then does where it is taken and where its bay is above 7. -/

namespace Sys2Proof.Machine

variable {s : State} {tag : Byte}

/-! ## WATCH_CLEAR (R76) -/

/-- Hunting for the next frame touches the link alone, so a monitor may be replaced before or after it. -/
theorem toHunt_withMonitor (s : State) (b : Bay) (m : Monitor) : (toHunt s).withMonitor b m = toHunt (s.withMonitor b m) := rfl

/-- The owner accepts for every bay, whatever the monitor's state: it writes the count and reports the state that it leaves. -/
theorem watchClearAct_accepted (b : Bay) (s : State) :
    watchClearAct b s =
      accept (s.withMonitor b { (s.slice b).monitor with count := 0 }) (le1 (s.slice b).monitor.state.code) := rfl

theorem exec_watchClear_accepted (ht : takesRequest tag s) (b : Bay) :
    exec (.watchClear tag (bayByte b)) s =
      .next (replied 0xA2 tag (0 :: le1 (s.slice b).monitor.state.code)
        (s.withMonitor b { (s.slice b).monitor with count := 0 })) := by
  refine congrArg Host.Outcome.next (takeRequest_accepted ht ?_)
  rw [onBay_bayByte, watchClearAct_accepted, toHunt_slice, toHunt_withMonitor]

theorem exec_watchClear_range (ht : takesRequest tag s) {bay : Byte} (hb : 8 ≤ bay.toNat) :
    exec (.watchClear tag bay) s = .next (replied 0xA2 tag [2] s) :=
  congrArg Host.Outcome.next (takeRequest_refused ht (onBay_above hb _ _))

/-- Settles O29: a byte that names a bay reaches the owner, which accepts; any other byte is refused before the owner sees it. -/
theorem watchClearClearsTheCount : Obligations.WatchClearClearsTheCount := by
  unfold Obligations.WatchClearClearsTheCount
  intro s tag ht
  exact ⟨exec_watchClear_accepted ht, fun _ => exec_watchClear_range ht⟩

end Sys2Proof.Machine
end

section
/-! PROOFS. The statement of chapter 10 about IDENT (R176), with the rules it uses: what the owner answers, and that HELLO begins with the
identity that IDENT reports. -/

namespace Sys2Proof.Machine

variable {s : State} {tag : Byte}

/-! ## IDENT and the identity in HELLO (R176) -/

/-- The owner accepts in every state, leaves that state as it is and reports the identity. -/
theorem identAct_accepted (s : State) : identAct s = accept s Config.identity := rfl

theorem exec_ident_accepted (ht : takesRequest tag s) :
    exec (.ident tag) s = .next (replied 0x81 tag (0 :: Config.identity) s) :=
  congrArg Host.Outcome.next (takeRequest_accepted ht (identAct_accepted (toHunt s)))

/-- HELLO carries the identity in front of the causes and the torn records. -/
theorem helloFrame_take_identity (s : State) :
    (helloFrame s).payload.take Config.identity.length = Config.identity := by
  unfold helloFrame
  rw [List.append_assoc, List.take_left]

/-- Settles O3: the owner accepts with the state it was given, so only the reply is new; IDENT and HELLO both take their three bytes from
the part's one identity. -/
theorem identReplies : Obligations.IdentReplies := by
  unfold Obligations.IdentReplies
  exact ⟨fun _ _ ht => exec_ident_accepted ht, helloFrame_take_identity⟩

end Sys2Proof.Machine
end

section
/-! PROOFS. The frame of every command (chapters 1 to 11): a request touches what its owner touches beside the link's accounting, an
event what its block touches, and a byte exchange what any request may. -/

namespace Sys2Proof.Machine

variable {p : Part} {s : State} {tag kind n : Byte} {b : Bay}

/-! ## Requests -/

@[simp] theorem accept_state (s : State) (fields : List Byte) : (accept s fields).state = s := rfl

@[simp] theorem refuse_state (c : ReplyCode) (s : State) : (refuse c s).state = s := rfl

/-- A management request means what the frame that spells it does. -/
theorem exec_request {i : Instr} (h : i.isRequest = true) (s : State) : exec i s = .next (takeAny i s) := by
  cases i <;> first | rfl | cases h

/-- A request for a bay touches the link's accounting and, of the bay its byte names, what its owner touches. -/
theorem onBay_touches {act : Bay → State → Answer} {f : Bay → Part → Bool} (h : p.ofBay n f = false)
    (ha : ∀ b, f b p = false → p.Same s (act b s).state) : p.Same s (onBay n act s).state :=
  onBay_same fun b hb => ha b (by simpa [Part.ofBay, hb] using h)

theorem takeRequest_onBay_same {act : Bay → State → Answer} {f : Bay → Part → Bool} (h : (p.accounting || p.ofBay n f) = false)
    (ha : ∀ b s, f b p = false → p.Same s (act b s).state) : p.Same s (takeRequest kind tag (onBay n act) s) := by
  obtain ⟨hacc, hbay⟩ := Bool.or_eq_false_iff.mp h
  exact takeRequest_same hacc fun s => onBay_touches hbay fun b => ha b s

/-- The same for a request with an enumerated or on/off field. -/
theorem takeRequest_withField_onBay_same {α : Type} {v : Option α} {act : α → Bay → State → Answer} {f : Bay → Part → Bool}
    (h : (p.accounting || p.ofBay n f) = false) (ha : ∀ x b s, f b p = false → p.Same s (act x b s).state) :
    p.Same s (takeRequest kind tag (withField v fun x => onBay n (act x)) s) := by
  obtain ⟨hacc, hbay⟩ := Bool.or_eq_false_iff.mp h
  exact takeRequest_same hacc fun s => withField_same fun x => onBay_touches hbay fun b => ha x b s

theorem Part.ne_summary_of_accounting (h : p.accounting = false) : p ≠ .summary := by rintro rfl; cases h

theorem mask_same {marks : BitVec 24} (h : mayTouch (.mask tag n marks) p = false) : p.Same s (takeMask tag n marks s) := by
  obtain ⟨hrest, hbay⟩ := Bool.or_eq_false_iff.mp h
  obtain ⟨hacc, hpart⟩ := Bool.or_eq_false_iff.mp hrest
  rw [beq_eq_false_iff_ne] at hpart
  have hsum := Part.ne_summary_of_accounting hacc
  refine takeRequest_same hacc fun s => ?_
  split
  · exact maskPartAct_same hpart hsum
  · exact onBay_touches hbay fun b hb => maskBayAct_same (by simpa using hb) hsum

theorem lineSet_same {f : LineFields} (h : mayTouch (.lineSet tag n f) p = false) : p.Same s (takeLineSet tag n f s) := by
  obtain ⟨hacc, hbay⟩ := Bool.or_eq_false_iff.mp h
  refine takeRequest_same hacc fun s => withField_same fun _ => withField_same fun _ => withField_same fun _ =>
    withField_same fun _ => withField_same fun _ => withField_same fun _ => withField_same fun _ => onBay_touches hbay fun b hb => ?_
  simp only [Bool.or_eq_false_iff, beq_eq_false_iff_ne] at hb
  obtain ⟨⟨hconfig, hreceive⟩, hsend⟩ := hb
  exact lineSetAct_same hconfig hreceive hsend

/-- What a restart leaves is what a reset keeps, and the link hold and RESET_N. -/
theorem Part.kept_of_restart (h : mayTouch (.restart tag) p = false) : p.kept = true ∨ p = .hold ∨ p = .resetN := by
  have h : (!p.kept && p != .hold && p != .resetN) = false := h
  cases p <;> simp_all

theorem matchHeartbeatAct_same {pattern : List Byte} (h : p ≠ .heartbeat b) : p.Same s (matchHeartbeatAct pattern b s).state := by
  unfold matchHeartbeatAct
  split
  · exact Part.Same.refl _ _
  · exact modSlice_same (by cases p <;> simp_all [Part.SameIn])

theorem matchPromptAct_same {en one : Bool} {w : Nat} {pattern response : List Byte} (h : p ≠ .responder b) :
    p.Same s (matchPromptAct en one w pattern response b s).state := by
  unfold matchPromptAct
  split
  · exact Part.Same.refl _ _
  · exact modSlice_same (by cases p <;> simp_all [Part.SameIn])

theorem matchSetPrompt_same {en one : Byte} {w : BitVec 16} {pattern response : List Byte}
    (h : (p.accounting || p.ofBay n fun b p => p == .responder b) = false) :
    p.Same s (takeMatchSetPrompt tag n en one w pattern response s) := by
  obtain ⟨hacc, hbay⟩ := Bool.or_eq_false_iff.mp h
  exact takeRequest_same hacc fun s => withField_same fun _ => withField_same fun _ =>
    onBay_touches hbay fun b hb => matchPromptAct_same (beq_eq_false_iff_ne.mp hb)

theorem watchSetAct_same {src : WatchSource} {act : WatchAction} {en : Bool} {f : WatchFields} (h : p ≠ .monitor b) :
    p.Same s (watchSetAct src act en f b s).state := by
  simp only [watchSetAct, accept_state]
  exact modMonitor_same h

theorem watchClearAct_same (h : p ≠ .monitor b) : p.Same s (watchClearAct b s).state := by
  simp only [watchClearAct, accept_state]
  exact modMonitor_same h

theorem detachAct_same (h : p ≠ .history b) : p.Same s (detachAct b s).state := by
  simp only [detachAct, accept_state]
  exact modHistory_same h

theorem watchSet_same {f : WatchFields} (h : (p.accounting || p.ofBay n fun b p => p == .monitor b) = false) :
    p.Same s (takeWatchSet tag n f s) := by
  obtain ⟨hacc, hbay⟩ := Bool.or_eq_false_iff.mp h
  exact takeRequest_same hacc fun s => withField_same fun _ => withField_same fun _ => withField_same fun _ =>
    onBay_touches hbay fun b hb => watchSetAct_same (beq_eq_false_iff_ne.mp hb)

/-- A POWER request that records the last commanded state touches the policy store beside what its transition touches. -/
theorem takeRequest_power_same {act : Bay → State → Answer} {f : Bay → Part → Bool}
    (h : (p.accounting || p == .policy || p.ofBay n f) = false)
    (ha : ∀ b s, f b p = false → p ≠ .policy → p.Same s (act b s).state) : p.Same s (takeRequest kind tag (onBay n act) s) := by
  obtain ⟨hrest, hbay⟩ := Bool.or_eq_false_iff.mp h
  obtain ⟨hacc, hpolicy⟩ := Bool.or_eq_false_iff.mp hrest
  exact takeRequest_same hacc fun s => onBay_touches hbay fun b hb => ha b s hb (beq_eq_false_iff_ne.mp hpolicy)

theorem takeRequest_grant_same {act : Bay → State → Answer} (h : (p.accounting || p == .policy || p.granting) = false)
    (ha : ∀ b s, p.granting = false → p ≠ .policy → p.Same s (act b s).state) : p.Same s (takeRequest kind tag (onBay n act) s) := by
  obtain ⟨hrest, hgrant⟩ := Bool.or_eq_false_iff.mp h
  obtain ⟨hacc, hpolicy⟩ := Bool.or_eq_false_iff.mp hrest
  exact takeRequest_same hacc fun s => onBay_same fun b _ => ha b s hgrant (beq_eq_false_iff_ne.mp hpolicy)

theorem insert_same {c : BitVec 32} {w e : Byte} (h : (p.accounting || p.ofBay n fun b p => p == .medium b) = false) :
    p.Same s (takeInsert tag n c w e s) := by
  obtain ⟨hacc, hbay⟩ := Bool.or_eq_false_iff.mp h
  exact takeRequest_same hacc fun s => withField_same fun _ => withField_same fun _ =>
    onBay_touches hbay fun b hb => insertAct_same (beq_eq_false_iff_ne.mp hb)

theorem writeDone_same {id o : Byte} (h : (p.accounting || p.moving || p.isMedium || p.isFlags) = false) :
    p.Same s (takeWriteDone tag id o s) := by
  simp only [Bool.or_eq_false_iff] at h
  obtain ⟨⟨⟨hacc, hmove⟩, hmedium⟩, hflags⟩ := h
  exact takeRequest_same hacc fun s => withField_same fun _ =>
    writeDoneAct_same hmove hmedium hflags (Part.ne_summary_of_accounting hacc)

/-- What the requests of chapters 1 to 4 and 10 touch. -/
theorem takeAny_same (i : Instr) (h : mayTouch i p = false) : p.Same s (takeAny i s) := by
  cases i with
  | ident tag => exact takeRequest_same h fun s => Part.Same.refl _ _
  | statusBay tag scope =>
    refine takeRequest_onBay_same h fun b s hb => ?_
    obtain ⟨hflags, hseq⟩ := Bool.or_eq_false_iff.mp hb
    exact statusBayAct_same (beq_eq_false_iff_ne.mp hflags) (beq_eq_false_iff_ne.mp hseq)
  | statusPart tag => exact takeRequest_same h fun s => statusPartAct_same h
  | mask tag scope marks => exact mask_same h
  | restart tag => exact takeRestart_same (Part.kept_of_restart h)
  | lineSet tag line f => exact lineSet_same h
  | send tag line drain bytes => exact takeRequest_withField_onBay_same h fun _ b s hb => sendAct_same hb
  | sendBreak tag line duration => exact takeRequest_onBay_same h fun b s hb => joinTx_same hb
  | rts tag line level => exact takeRequest_withField_onBay_same h fun _ b s hb => joinTx_same hb
  | rateSet tag line form value =>
    refine takeRequest_withField_onBay_same h fun _ b s hb => ?_
    obtain ⟨hrate, hreceive⟩ := Bool.or_eq_false_iff.mp hb
    exact rateSetAct_same (beq_eq_false_iff_ne.mp hrate) (beq_eq_false_iff_ne.mp hreceive)
  | rateMode tag line mode =>
    exact takeRequest_withField_onBay_same h fun _ b s hb => rateModeAct_same (beq_eq_false_iff_ne.mp hb)
  | rateDetect tag line => exact takeRequest_onBay_same h fun b s hb => startDetection_same hb
  | quality tag line clear =>
    exact takeRequest_withField_onBay_same h fun _ b s hb => qualityAct_same (beq_eq_false_iff_ne.mp hb)
  | historySize tag line pages => exact takeRequest_onBay_same h fun b s hb => historySizeAct_same (beq_eq_false_iff_ne.mp hb)
  | historyClear tag line => exact takeRequest_onBay_same h fun b s hb => modHistory_same (beq_eq_false_iff_ne.mp hb)
  | history tag line start count => exact takeRequest_same h fun s => onBay_same fun b _ => historyAct_same
  | attach tag line form start credit =>
    exact takeRequest_withField_onBay_same h fun _ b s hb => attachAct_same (beq_eq_false_iff_ne.mp hb)
  | credit tag line count => exact takeRequest_onBay_same h fun b s hb => creditAct_same (beq_eq_false_iff_ne.mp hb)
  | detach tag line => exact takeRequest_onBay_same h fun b s hb => detachAct_same (beq_eq_false_iff_ne.mp hb)
  | matchSetHeartbeat tag line pattern =>
    exact takeRequest_onBay_same h fun b s hb => matchHeartbeatAct_same (beq_eq_false_iff_ne.mp hb)
  | matchSetPrompt tag line enable oneShot window pattern response => exact matchSetPrompt_same h
  | watchSet tag bay f => exact watchSet_same h
  | watchClear tag bay => exact takeRequest_onBay_same h fun b s hb => watchClearAct_same (beq_eq_false_iff_ne.mp hb)
  | powerOn tag bay => exact takeRequest_grant_same h fun b s hg hp => powerOnAct_same hg hp
  | powerOffSoft tag bay => exact takeRequest_grant_same h fun b s hg hp => powerOffSoftAct_same hg hp
  | powerOffHard tag bay => exact takeRequest_power_same h fun b s hb hp => powerOffHardAct_same hb hp
  | powerCycle tag bay => exact takeRequest_power_same h fun b s hb hp => powerCycleAct_same hb hp
  | powerReset tag bay =>
    refine takeRequest_onBay_same h fun b s hb => ?_
    simp only [Bool.or_eq_false_iff, beq_eq_false_iff_ne] at hb
    obtain ⟨⟨⟨hseq, hresp⟩, hmon⟩, hflag⟩ := hb
    exact powerResetAct_same hseq hresp hmon hflag
  | powerClearFault tag bay =>
    refine takeRequest_onBay_same h fun b s hb => ?_
    simp only [Bool.or_eq_false_iff, beq_eq_false_iff_ne] at hb
    obtain ⟨⟨hseq, hmon⟩, hflag⟩ := hb
    exact powerClearFaultAct_same hseq hmon hflag
  | powerSet tag bay f => exact takeRequest_onBay_same h fun b s hb => powerSetAct_same (beq_eq_false_iff_ne.mp hb)
  | budget tag budget delay =>
    obtain ⟨hacc, hgrant⟩ := Bool.or_eq_false_iff.mp h
    exact takeRequest_same hacc fun s => budgetAct_same hgrant
  | store tag record f =>
    obtain ⟨hacc, hpolicy⟩ := Bool.or_eq_false_iff.mp h
    exact takeRequest_same hacc fun s => storeAct_same (beq_eq_false_iff_ne.mp hpolicy)
  | insert tag bay capacity writable ejectOnPowerOff => exact insert_same h
  | eject tag bay force =>
    refine takeRequest_withField_onBay_same h fun _ b s hb => ?_
    simp only [Bool.or_eq_false_iff, beq_eq_false_iff_ne] at hb
    obtain ⟨⟨hmedium, hmove⟩, hflag⟩ := hb
    exact ejectAct_same hmove hmedium hflag
  | cacheSet tag f =>
    obtain ⟨hacc, hcache⟩ := Bool.or_eq_false_iff.mp h
    exact takeRequest_same hacc fun s => modCache_same (beq_eq_false_iff_ne.mp hcache)
  | cacheQuery tag => exact takeRequest_same h fun s => Part.Same.refl _ _
  | fill tag id index generation data =>
    obtain ⟨hacc, hmove⟩ := Bool.or_eq_false_iff.mp h
    exact takeRequest_same hacc fun s => fillAct_same hmove
  | fillFail tag id =>
    obtain ⟨hacc, hmove⟩ := Bool.or_eq_false_iff.mp h
    exact takeRequest_same hacc fun s => fillFailAct_same hmove
  | writeDone tag id outcome => exact writeDone_same h
  | undefinedRequest tag kind => exact takeRequest_same h fun s => Part.Same.refl _ _
  | _ => exact Part.Same.refl _ _

end Sys2Proof.Machine
end

section
/-! PROOFS. What a byte exchange keeps, in terms of the link's own work and of the requests it may take (R164 to R170), and the frame of
every command (95_what_each_step_holds.md). -/

namespace Sys2Proof.Machine

/-! ## Outcomes -/

/-- Every state an outcome goes on to meets `P`. -/
def Leads (o : Host.Outcome State Fault Refusal) (P : State → Prop) : Prop := ∀ t, o = .next t → P t

@[simp] theorem leads_next {t : State} {P : State → Prop} : Leads (.next t) P ↔ P t :=
  ⟨fun h => h t rfl, by rintro h _ ⟨⟩; exact h⟩

theorem Leads.ite {c : Prop} [Decidable c] {o q : Host.Outcome State Fault Refusal} {P : State → Prop} (ho : c → Leads o P)
    (hq : ¬c → Leads q P) : Leads (if c then o else q) P := by
  split
  · exact ho ‹_›
  · exact hq ‹_›

/-- A property of two states that is kept where the state is left as it is, or goes on to one that meets it. -/
theorem leads_next_ite {c : Prop} [Decidable c] {s t : State} {P : State → Prop} (ht : c → P t) (hs : P s) :
    Leads (if c then .next t else .next s) P :=
  Leads.ite (fun h => leads_next.mpr (ht h)) fun _ => leads_next.mpr hs

/-! ## The work of the link -/

/-- `P` is kept by what a byte exchange does apart from taking a request: the link's own registers with the hold as it is, the notice
states of the records, the CONSOLE notice, the report of the reset causes and the free values read (R161, R164, R165, R170). -/
structure LinkKeeps (P : State → Prop) : Prop where
  link : ∀ s f, (∀ l : Link, (f l).hold = l.hold ∧ (f l).partUnmasked = l.partUnmasked) → P s → P (s.modLink f)
  free : ∀ s n, P s → P { s with freeIndex := n }
  report : ∀ s, P s → P (s.modPolicy fun p => { p with causeReported := true })
  sendFetch : ∀ s id, P s → P (s.modCache fun c => c.sendFetch id)
  sendWriteback : ∀ s id, P s → P (s.modCache fun c => c.sendWriteback id)
  fetchSent : ∀ s id, P s → P (s.modCache fun c => c.fetchSent id)
  writebackSent : ∀ s id, P s → P (s.modCache fun c => c.writebackSent id)
  console : ∀ s b, P s → P (startConsole b s)

variable {P : State → Prop} {s : State}

theorem LinkKeeps.startFrame (k : LinkKeeps P) {o : Origin} {f : Frame} (h : P s) : P (startFrame o f s) :=
  k.link _ _ (by intro; exact ⟨rfl, rfl⟩) h

theorem LinkKeeps.startRecordNotice (k : LinkKeeps P) (h : P s) : P (startRecordNotice s) := by
  unfold Machine.startRecordNotice
  split
  · exact k.startFrame (k.sendFetch _ _ h)
  · exact k.startFrame (k.sendWriteback _ _ h)
  · exact k.console _ _ h
  · exact h

theorem LinkKeeps.arbitrate (k : LinkKeeps P) (h : P s) : P (arbitrate s) := by
  unfold Machine.arbitrate
  split
  · exact k.startFrame h
  · split
    · exact k.startFrame h
    · split
      · exact k.startFrame (k.link _ _ (by intro; exact ⟨rfl, rfl⟩) h)
      · exact k.startRecordNotice h

theorem LinkKeeps.handBack (k : LinkKeeps P) (o : Origin) (h : P s) : P (handBack o s) := by
  cases o with
  | hello => exact k.report _ (k.link _ _ (by intro; exact ⟨rfl, rfl⟩) h)
  | reply => exact k.link s (fun l => { l with replies := l.replies.drop 1 }) (fun _ => ⟨rfl, rfl⟩) h
  | summary => exact h
  | fetch id => exact k.fetchSent _ _ h
  | writeback id => exact k.writebackSent _ _ h
  | console b => exact h

theorem LinkKeeps.endFrame (k : LinkKeeps P) (h : P s) : P (endFrame s) := by
  unfold Machine.endFrame
  split
  · exact h
  · split
    · exact k.handBack _ (k.link _ _ (by intro; exact ⟨rfl, rfl⟩) h)
    · exact h

theorem LinkKeeps.sendByte (k : LinkKeeps P) (h : P s) : P (sendByte s) := by
  unfold Machine.sendByte
  split <;> exact k.link _ _ (by intro; exact ⟨rfl, rfl⟩) h

theorem LinkKeeps.toHunt (k : LinkKeeps P) (h : P s) : P (toHunt s) := k.link _ _ (by intro; exact ⟨rfl, rfl⟩) h

theorem LinkKeeps.setPartFlag (k : LinkKeeps P) {f : PartFlag} (h : P s) : P (setPartFlag f s) := by
  unfold Machine.setPartFlag raiseSummary
  exact k.link _ _ (fun _ => ⟨rfl, rfl⟩) (k.link _ _ (fun _ => ⟨rfl, rfl⟩) h)

theorem LinkKeeps.dropFrame (k : LinkKeeps P) {c : DropCause} (h : P s) : P (dropFrame c s) :=
  k.setPartFlag (k.link _ _ (fun _ => by cases c <;> exact ⟨rfl, rfl⟩) h)

/-- A request keeps what its owner keeps (R166, R167). -/
theorem LinkKeeps.takeRequest (k : LinkKeeps P) {kind tag : Byte} {act : State → Answer} (ha : ∀ s, P s → P (act s).state) (h : P s) :
    P (takeRequest kind tag act s) := by
  have ht := k.toHunt h
  unfold Machine.takeRequest judgeFrame
  split
  · exact ht
  · split
    · exact k.dropFrame ht
    · split
      · exact k.dropFrame ht
      · exact k.link _ _ (by intro; exact ⟨rfl, rfl⟩) (ha _ ht)

/-- An event spells no request, and taking it as one does nothing. -/
theorem takeAny_event {i : Instr} (h : i.isRequest = false) (s : State) : takeAny i s = s := by
  cases i <;> first | rfl | cases h

theorem takeFrame_keeps (hreq : ∀ i s, i.isRequest = true → P s → P (takeAny i s)) {kind tag : Byte} {payload : List Byte} (h : P s) : P (takeFrame kind tag payload s) := by
  unfold takeFrame
  split
  case h_1 i _ =>
    by_cases hi : i.isRequest = true
    · exact hreq i s hi h
    · rw [takeAny_event (by simpa using hi)]
      exact h
  case h_2 => exact hreq (.undefinedRequest tag kind) s rfl h

/-- `P` is kept by what the frame receiver does apart from taking a request: its own state, and drops (R165). -/
structure ReceiverKeeps (P : State → Prop) : Prop where
  set : ∀ r s, P s → P (setReceiver r s)
  drop : ∀ c s, P s → P (dropFrame c s)

theorem LinkKeeps.receiver (k : LinkKeeps P) : ReceiverKeeps P :=
  ⟨fun _ _ h => k.link _ _ (by intro; exact ⟨rfl, rfl⟩) h, fun _ _ h => k.dropFrame h⟩

theorem ReceiverKeeps.rxByte (k : ReceiverKeeps P) (hreq : ∀ i s, i.isRequest = true → P s → P (takeAny i s)) {x : Byte} (h : P s) :
    P (rxByte x s) := by
  have hunt : P (Machine.toHunt s) := k.set .hunt s h
  unfold Machine.rxByte
  split
  · split
    · exact k.set _ _ h
    · exact h
  · exact k.set _ _ h
  · dsimp only
    split
    · exact k.set _ _ h
    · exact k.drop _ _ hunt
  · split <;> exact k.set _ _ h
  · exact k.set _ _ h
  · unfold checkFrame
    split
    · split
      · exact takeFrame_keeps hreq hunt
      · exact hunt
    · exact k.drop _ _ hunt

section
variable (k : LinkKeeps P) (hreq : ∀ i s, i.isRequest = true → P s → P (takeAny i s))
include k hreq

/-- A byte exchange keeps what the link's own work and every request keep. -/
theorem LinkKeeps.exchange {mosi : Byte} (h : P s) : P (exchange mosi s) := by
  unfold Machine.exchange
  split
  · exact k.link _ _ (by intro; exact ⟨rfl, rfl⟩) h
  · have hs : P (Machine.sendByte (if s.link.outgoing.isNone then Machine.arbitrate s else s)) := by
      split
      · exact k.sendByte (k.arbitrate h)
      · exact k.sendByte h
    dsimp only
    generalize Machine.sendByte (if s.link.outgoing.isNone then Machine.arbitrate s else s) = u at hs
    split
    · split
      · exact k.receiver.rxByte hreq (k.endFrame (k.free _ _ hs))
      · exact k.endFrame (k.receiver.rxByte hreq (k.free _ _ hs))
    · exact k.receiver.rxByte hreq hs

end

/-- The parts that the link's own work reaches. -/
def Part.linking : Part → Bool
  | .frameReceiver | .replies | .outgoing | .hello | .summary | .partFlags | .linkErrors | .freeIndex | .policy | .cache | .lastServed
  | .history _ => true
  | _ => false

theorem modLink_same {p : Part} {f : Link → Link} (h : p.linking = false) (hhold : (f s.link).hold = s.link.hold)
    (hmask : (f s.link).partUnmasked = s.link.partUnmasked) : p.Same s (s.modLink f) := by
  cases p <;> simp_all [Part.Same, Part.linking]

theorem freeIndex_same {p : Part} {n : Nat} (h : p.linking = false) : p.Same s { s with freeIndex := n } := by
  cases p <;> simp_all [Part.Same, Part.linking, State.slice]

theorem startConsole_same {p : Part} {b : Bay} (h : p.linking = false) : p.Same s (startConsole b s) := by
  unfold startConsole
  split
  case h_1 => exact Part.Same.refl _ _
  case h_2 st _ =>
    refine Part.Same.trans (t := s.modHistory b fun h => { h with stream := some (st.consume ((s.slice b).history.noticeEntries st).length) })
      (modHistory_same (by rintro rfl; cases h)) ?_
    cases p <;> simp_all [Part.Same, Part.linking, startFrame, State.slice]

/-- What depends on no part that the link's own work reaches is kept by it. -/
theorem LinkKeeps.of_same (hP : ∀ s t, (∀ p : Part, p.linking = false → p.Same s t) → P s → P t) : LinkKeeps P where
  link s f hf h := hP _ _ (fun p hp => modLink_same hp (hf s.link).1 (hf s.link).2) h
  free s n h := hP _ _ (fun p hp => freeIndex_same hp) h
  report s h := hP _ _ (fun p hp => modPolicy_same (by rintro rfl; cases hp)) h
  sendFetch s id h := hP _ _ (fun p hp => modCache_same (by rintro rfl; cases hp)) h
  sendWriteback s id h := hP _ _ (fun p hp => modCache_same (by rintro rfl; cases hp)) h
  fetchSent s id h := hP _ _ (fun p hp => modCache_same (by rintro rfl; cases hp)) h
  writebackSent s id h := hP _ _ (fun p hp => modCache_same (by rintro rfl; cases hp)) h
  console s b h := hP _ _ (fun p hp => startConsole_same hp) h

end Sys2Proof.Machine
end

section
/-! PROOFS. The frame of every command: what each event touches, and from it and the frames of the requests the statement about all
commands (95_what_each_step_holds.md). -/

namespace Sys2Proof.Machine

variable {p : Part} {s : State} {b : Bay}

/-- One change or none: what the change leaves the same is the same. -/
theorem leads_same_ite {c : Prop} [Decidable c] {t : State} (h : p.Same s t) :
    Leads (if c then .next t else .next s) (p.Same s) := leads_next_ite (fun _ => h) (Part.Same.refl _ _)

/-! ## The link -/

theorem linkFrameDropped_same {cause : DropCause} (h : p.accounting = false) : Leads (execLinkFrameDropped cause s) (p.Same s) := by
  have hd (c : DropCause) : p.Same s (dropFrame c (toHunt s)) := (toHunt_same h).trans (dropFrame_same h)
  unfold execLinkFrameDropped
  refine Leads.ite (fun _ => leads_next.mpr (toHunt_same h)) fun _ => ?_
  cases cause with
  | length => exact leads_next.mpr (hd _)
  | check => exact leads_next.mpr (hd _)
  | tag => exact Leads.ite (fun _ => leads_next.mpr (toHunt_same h)) fun _ => leads_next.mpr (hd _)
  | overflow =>
    exact Leads.ite (fun _ => leads_next.mpr (toHunt_same h)) fun _ =>
      Leads.ite (fun _ => leads_next.mpr (hd _)) fun _ => leads_next.mpr (Part.Same.refl _ _)

/-- No request reaches what a byte exchange leaves. -/
theorem mayTouch_request {i : Instr} (hi : i.isRequest = true) (h : p.isPins = true ∨ p = .hold ∨ p = .resetN ∨ p = .pending ∨ p = .serials) :
    mayTouch i p = false := by
  cases p <;> simp only [Part.isPins, reduceCtorEq, Bool.false_eq_true, or_false, or_true] at h <;>
    cases i <;> first | rfl | exact Bool.noConfusion hi | simp [mayTouch, Part.ofBay, Part.accounting, Part.sending, Part.detecting, Part.powering, Part.granting, Part.moving, Part.flagging,
        Option.any_eq_false]

theorem exchange_same {mosi : Byte} (h : p.isPins = true ∨ p = .hold ∨ p = .resetN ∨ p = .pending ∨ p = .serials) :
    p.Same s (exchange mosi s) := by
  have hl : p.linking = false := by cases p <;> simp_all [Part.isPins, Part.linking]
  refine (LinkKeeps.of_same (P := p.Same s) fun t u htu ht => ht.trans (htu p hl)).exchange (fun i t hi ht => ?_) (Part.Same.refl _ _)
  exact ht.trans (takeAny_same i (mayTouch_request hi h))

/-! ## Console lines -/

theorem characterReceived_same {data : Byte} {parity stop : Bool} (h : p.receiving b = false) :
    Leads (execCharacterReceived b data parity stop s) (p.Same s) := by
  have hr (r : Receiver) : p.Same s (s.modLine b fun l => { l with receiver := r }) :=
    modSlice_same (by cases p <;> simp_all [Part.SameIn, Part.receiving])
  unfold execCharacterReceived
  split
  · rw [leads_next]
    refine Part.Same.ite (fun _ => Part.Same.refl _ _) fun _ => ?_
    unfold takeCharacter
    exact Part.Same.ite (fun _ => (hr _).trans (handEntry_same h)) fun _ =>
      Part.Same.ite (fun _ => hr _) fun _ => (hr _).trans (handEntry_same h)
  · exact leads_next.mpr (Part.Same.refl _ _)

theorem lowPulseEnd_same {internal : Bool} {length : Nat} (h : (p.receiving b || p == .pins b) = false) :
    Leads (execLowPulseEnd b internal length s) (p.Same s) := by
  obtain ⟨hr, hp⟩ := Bool.or_eq_false_iff.mp h
  have hs : p.Same s (if internal then s else s.modLine b fun l => { l with conRx := true }) :=
    Part.Same.ite (fun _ => Part.Same.refl _ _) fun _ => modSlice_same (by cases p <;> simp_all [Part.SameIn])
  unfold execLowPulseEnd
  exact Leads.ite (fun _ => leads_next.mpr (Part.Same.refl _ _)) fun _ =>
    Leads.ite (fun _ => leads_next.mpr (hs.trans (risePulse_same hr))) fun _ => leads_next.mpr hs

theorem detectionWindowExpiry_same (h : p ≠ .rate b) (h' : p ≠ .receive b) (hf : p.flagging b = false) :
    Leads (execDetectionWindowExpiry b s) (p.Same s) := by
  unfold execDetectionWindowExpiry
  split
  · exact leads_next.mpr (Part.Same.refl _ _)
  · split
    · exact leads_next.mpr (Part.Same.ite (fun _ => evaluateDetection_same h h' hf) fun _ => failDetection_same h h' hf)
    · exact leads_next.mpr (failDetection_same h h' hf)

theorem ctsChange_same {level : Bool} (h : (p.sending b || p == .pins b) = false) : Leads (execCtsChange b level s) (p.Same s) := by
  obtain ⟨hs, hp⟩ := Bool.or_eq_false_iff.mp h
  refine leads_next.mpr (Part.Same.trans ?_ ((ctsCheck_same hs).trans (startTx_same hs)))
  exact modSlice_same (by cases p <;> simp_all [Part.SameIn])

theorem txBreakLowEnd_same (h : p ≠ .transmit b) : Leads (execTxBreakLowEnd b s) (p.Same s) := by
  unfold execTxBreakLowEnd
  split
  · exact leads_next.mpr (modSlice_same (by cases p <;> simp_all [Part.SameIn]))
  · exact leads_next.mpr (Part.Same.refl _ _)

theorem txElementComplete_same (h : p.sending b = false) : Leads (execTxElementComplete b s) (p.Same s) := by
  unfold execTxElementComplete
  split
  · exact leads_next.mpr (completeTx_same h)
  · exact leads_next.mpr (completeTx_same h)
  · exact leads_next.mpr (Part.Same.refl _ _)

theorem startEdge_same {internal : Bool} (h : p ≠ .pins b) (h' : p ≠ .receive b) (hl : p ≠ .looped b) :
    Leads (execStartEdge b internal s) (p.Same s) := by
  refine leads_same_ite (modSlice_same ?_)
  dsimp only
  split <;> split <;> cases p <;> simp_all [Part.SameIn, Line.fall]

theorem falseStart_same (h : p ≠ .receive b) : Leads (execFalseStart b s) (p.Same s) := by
  unfold execFalseStart
  split
  · exact leads_next.mpr (Part.Same.ite (fun _ => modSlice_same (by cases p <;> simp_all [Part.SameIn])) fun _ => Part.Same.refl _ _)
  · exact leads_next.mpr (Part.Same.refl _ _)

/-! ## Monitors and sequencers -/

theorem promptWindowExpiry_same (h : p ≠ .responder b) (hf : p.flagging b = false) : Leads (execPromptWindowExpiry b s) (p.Same s) :=
  leads_same_ite ((disarmResponder_same h).trans (setFlag_same hf))

theorem watchTimerExpiry_same (h : p ≠ .monitor b) (hf : p.flagging b = false) : Leads (execWatchTimerExpiry b s) (p.Same s) :=
  leads_same_ite ((setFlag_same hf).trans (actionCheck_same h hf))

theorem monitorRequestTaken_same (h : p.powering b = false) : Leads (execMonitorRequestTaken b s) (p.Same s) := by
  have hg := (Part.of_powering h).1
  obtain ⟨hseq, hresp, hmon, _, _⟩ := Part.ne_of_granting hg b
  have hs : p.Same s (s.modMonitor b fun m => { m with outstanding := none }) := modMonitor_same hmon
  unfold execMonitorRequestTaken
  dsimp only
  split
  · exact leads_next.mpr (Part.Same.refl _ _)
  · exact leads_next.mpr (Part.Same.ite
      (fun _ => hs.trans (enterResetting_same hseq hresp hmon (Part.flagging_of_granting hg b))) fun _ => hs)
  · exact leads_next.mpr (Part.Same.ite (fun _ => hs.trans (enterHoldOff_same h)) fun _ => hs)

theorem pgoodChange_same {level : Bool} (h : p.powering b = false) : Leads (execPgoodChange b level s) (p.Same s) := by
  have hg := (Part.of_powering h).1
  have hseq := (Part.ne_of_granting hg b).1
  have hs : p.Same s (setFlagIf (level != (s.slice b).sequencer.snapshotPgood) b .senseChanged
      (s.modSeq b fun q => { q with pgood := level })) :=
    (modSeq_same hseq).trans (setFlagIf_same (Part.flagging_of_granting hg b))
  unfold execPgoodChange
  refine Leads.ite (fun _ => leads_next.mpr (Part.Same.refl _ _)) fun _ => ?_
  dsimp only
  split
  · exact leads_next.mpr (hs.trans ((reachOn_same hg).trans (attempt_same hg)))
  · exact leads_next.mpr (hs.trans (enterHoldOff_same h))
  · exact leads_next.mpr (hs.trans (serverStopped_same h))
  · exact leads_next.mpr (hs.trans (serverStopped_same h))
  · exact leads_next.mpr hs

theorem btnSenseChange_same {level : Bool} (h : p ≠ .sequencer b) (hf : p.flagging b = false) :
    Leads (execBtnSenseChange b level s) (p.Same s) :=
  leads_next.mpr ((modSeq_same h).trans (btnSenseCheck_same hf))

theorem btnSenseMaskEnd_same (h : p ≠ .sequencer b) (hf : p.flagging b = false) : Leads (execBtnSenseMaskEnd b s) (p.Same s) := by
  unfold execBtnSenseMaskEnd
  split
  · exact leads_next.mpr ((modSeq_same h).trans (btnSenseCheck_same hf))
  · exact leads_next.mpr (Part.Same.refl _ _)

theorem powerGoodTimerExpiry_same (h : p.powering b = false) : Leads (execPowerGoodTimerExpiry b s) (p.Same s) := by
  have hg := (Part.of_powering h).1
  obtain ⟨hseq, _, _, hgrant, _⟩ := Part.ne_of_granting hg b
  have hf := Part.flagging_of_granting hg b
  exact leads_same_ite ((changeState_same hseq hf).trans ((modSeq_same hseq).trans ((setFlag_same hf).trans
    ((losePower_same h).trans ((release_same hgrant).trans (attempt_same hg))))))

theorem resetPulseTimerExpiry_same (h : p ≠ .sequencer b) (h' : p ≠ .responder b) (hm : p ≠ .monitor b) (hf : p.flagging b = false) :
    Leads (execResetPulseTimerExpiry b s) (p.Same s) :=
  leads_same_ite ((changeState_same h hf).trans (reachOnEffects_same h' hm))

theorem softStopWaitExpiry_same (h : p.powering b = false) : Leads (execSoftStopWaitExpiry b s) (p.Same s) := by
  have hg := (Part.of_powering h).1
  exact leads_same_ite ((modSeq_same (Part.ne_of_granting hg b).1).trans
    ((setFlag_same (Part.flagging_of_granting hg b)).trans (enterHoldOff_same h)))

theorem holdOffTimerExpiry_same (hg : p.granting = false) : Leads (execHoldOffTimerExpiry b s) (p.Same s) := by
  obtain ⟨hseq, _, hmon, _, _⟩ := Part.ne_of_granting hg b
  unfold execHoldOffTimerExpiry
  refine Leads.ite (fun _ => ?_) fun _ => leads_next.mpr (Part.Same.refl _ _)
  exact Leads.ite (fun _ => leads_next.mpr ((setPendingOn_same hseq).trans (joinQueue_same hg))) fun _ =>
    leads_next.mpr ((changeState_same hseq (Part.flagging_of_granting hg b)).trans (suspendMonitor_same hmon))

theorem sagChange_same {level : Bool} (hg : p.granting = false) (hf : p ≠ .partFlags) : Leads (execSagChange level s) (p.Same s) := by
  have hs : p.Same s (setPartFlag .sagChanged (s.modGrant fun g => { g with sag := level })) :=
    (modGrant_same (by rintro rfl; cases hg)).trans (setPartFlag_same hf (by rintro rfl; cases hg))
  unfold execSagChange
  exact Leads.ite (fun _ => leads_next.mpr (Part.Same.refl _ _)) fun _ =>
    leads_next.mpr (Part.Same.ite (fun _ => hs) fun _ => hs.trans (attempt_same hg))

theorem restoreDelayEnd_same (hg : p.granting = false) : Leads (execRestoreDelayEnd s) (p.Same s) := by
  unfold execRestoreDelayEnd
  split
  · exact leads_next.mpr ((modGrant_same (by rintro rfl; cases hg)).trans (attempt_same hg))
  · exact leads_next.mpr (Part.Same.refl _ _)

/-! ## Media -/

theorem mediaOpen_same (h : p ≠ .port b) (hf : p.flagging b = false) : Leads (execMediaOpen b s) (p.Same s) := by
  unfold execMediaOpen
  exact Leads.ite (fun _ => leads_next.mpr (tell_same h)) fun _ =>
    Leads.ite (fun _ => leads_next.mpr ((modPort_same h).trans ((tell_same h).trans (setFlag_same hf)))) fun _ =>
      leads_next.mpr (tell_same h)

theorem mediaClose_same (h : p.moving = false) (hf : p.flagging b = false) : Leads (execMediaClose b s) (p.Same s) :=
  leads_same_ite (settle_same h (linkDown_same h hf))

theorem read_same {tag : Byte} {start : BitVec 32} {count : Nat} (h : p.moving = false) (hm : p ≠ .medium b) (hs : p ≠ .serials) :
    Leads (execRead b tag start count s) (p.Same s) :=
  leads_next.mpr (arrive_same (Part.ne_port_of_moving h b) hm fun _ =>
    Part.Same.ite (fun _ => admitAndServe_same h hs) fun _ => tell_same (Part.ne_port_of_moving h b))

theorem write_same {tag : Byte} {start : BitVec 32} {count : Nat} (h : p.moving = false) (hm : p ≠ .medium b) (hs : p ≠ .serials) :
    Leads (execWrite b tag start count s) (p.Same s) :=
  have hp := Part.ne_port_of_moving h b
  leads_next.mpr (arrive_same hp hm fun _ => Part.Same.ite (fun _ => tell_same hp) fun _ =>
    Part.Same.ite (fun _ => admitAndServe_same h hs) fun _ => tell_same hp)

theorem serverRequestInvalid_same {tag : Byte} (h : p ≠ .port b) : Leads (execServerRequestInvalid b tag s) (p.Same s) := by
  unfold execServerRequestInvalid
  exact Leads.ite (fun _ => leads_next.mpr (Part.Same.refl _ _)) fun _ =>
    Leads.ite (fun _ => leads_next.mpr (tell_same h)) fun _ => leads_next.mpr (tell_same h)

theorem transferEnd_same {data : Block} (h : p.moving = false) : Leads (execTransferEnd b data s) (p.Same s) := by
  unfold execTransferEnd
  split
  · exact leads_next.mpr (Part.Same.refl _ _)
  · split
    · exact leads_next.mpr (settle_same h (unpin_same h))
    · exact leads_next.mpr (Part.Same.ite (fun _ => endWrite_same h) fun _ => endRead_same h)

theorem fetchDeadlineExpiry_same {id : Byte} (h : p.moving = false) : Leads (execFetchDeadlineExpiry id s) (p.Same s) := by
  have hc := Part.ne_cache_of_moving h
  unfold execFetchDeadlineExpiry
  split
  · exact leads_next.mpr (Part.Same.refl _ _)
  · exact Leads.ite (fun _ => leads_next.mpr (Part.Same.refl _ _)) fun _ =>
      Leads.ite (fun _ => leads_next.mpr (settle_same h ((modCache_same hc).trans (countTimeout_same hc)))) fun _ =>
        leads_next.mpr ((countTimeout_same hc).trans (failFetch_same h))

theorem writebackDeadlineExpiry_same {id : Byte} (h : p.moving = false) (hm : p.isMedium = false) (hf : p.isFlags = false)
    (hs : p ≠ .summary) : Leads (execWritebackDeadlineExpiry id s) (p.Same s) := by
  have hc := Part.ne_cache_of_moving h
  unfold execWritebackDeadlineExpiry
  split
  · exact leads_next.mpr (Part.Same.refl _ _)
  · exact Leads.ite (fun _ => leads_next.mpr (Part.Same.refl _ _)) fun _ =>
      Leads.ite (fun _ => leads_next.mpr (settle_same h ((modCache_same hc).trans (countTimeout_same hc)))) fun _ =>
        leads_next.mpr ((countTimeout_same hc).trans (resolveWriteback_same h (by rintro rfl; cases hm)
          (by cases p <;> simp_all [Part.flagging, Part.isFlags])))

/-! ## Resets -/

theorem storeWriteComplete_same (h : p.kept = true ∨ p = .hold ∨ p = .resetN) : Leads (execStoreWriteComplete s) (p.Same s) := by
  have hp : p ≠ .policy := by rintro rfl; simp [Part.kept] at h
  have hf : p ≠ .partFlags := by rintro rfl; simp [Part.kept] at h
  have hsum : p ≠ .summary := by rintro rfl; simp [Part.kept] at h
  unfold execStoreWriteComplete
  split
  · exact leads_next.mpr (Part.Same.refl _ _)
  · exact leads_next.mpr (((modPolicy_same hp).trans (setPartFlag_same hf hsum)).trans
      (Part.Same.ite (fun _ => softReset_same h) fun _ => modPolicy_same hp))

/-- The slice of a bay as a cold reset finds it before the restore. -/
theorem coldBlocks_slice (s : State) (b : Bay) :
    (coldBlocks s).slice b = { line := (s.slice b).line.cold
                               sequencer := (s.slice b).sequencer.cold (s.policy.cold.ramBays.get b).settings } := by
  simp [coldBlocks, State.slice, Vector.get_eq_getElem]

theorem restoreBay_same (h : p.granting = false) : p.Same s (restoreBay s b) := by
  obtain ⟨hseq, _, _, hgrant, _⟩ := Part.ne_of_granting h b
  unfold restoreBay
  exact Part.Same.ite (fun _ => (changeState_same hseq (Part.flagging_of_granting h b)).trans (modGrant_same hgrant))
    fun _ => Part.Same.refl _ _

theorem restoreAll_same (h : p.granting = false) (bs : List Bay) : ∀ s, p.Same s (bs.foldl restoreBay s) := by
  induction bs with
  | nil => exact fun s => Part.Same.refl _ _
  | cons b rest ih => exact fun s => (restoreBay_same h).trans (ih _)

theorem startRestoreDelay_same (h : p.granting = false) : p.Same s (startRestoreDelay s) := by
  have hgrant : p ≠ .grant := by rintro rfl; cases h
  unfold startRestoreDelay
  exact Part.Same.ite (fun _ => (modGrant_same hgrant).trans (attempt_same h)) fun _ => modGrant_same hgrant

theorem coldBlocks_same (h : (!p.isPins && p != .freeIndex && p != .pending) = false) : p.Same s (coldBlocks s) := by
  cases p with
  | pins b => simp [Part.Same, coldBlocks_slice, Line.cold]
  | freeIndex => rfl
  | pending => rfl
  | _ => cases h

/-- A cold reset leaves the pins, the free values and the waiting commands. -/
theorem coldReset_same (h : (!p.isPins && p != .freeIndex && p != .pending) = false) : p.Same s (coldReset s) := by
  have hg : p.granting = false := by cases p <;> simp_all [Part.granting, Part.isPins]
  refine ((coldBlocks_same h).trans ((restoreAll_same hg (List.finRange 8) _).trans (startRestoreDelay_same hg))).trans ?_
  cases p <;> simp_all [Part.Same, Part.isPins, coldReset]

theorem execColdReset_same {v : Bool} (h : (!p.isPins && p != .freeIndex && p != .pending) = false) :
    Leads (execColdReset v s) (p.Same s) := by
  refine leads_next.mpr (Part.Same.ite (fun _ => (coldReset_same h).trans (warmReset_same ?_)) fun _ => coldReset_same h)
  cases p <;> simp_all [Part.kept, Part.isPins]

theorem resetNRelease_same (h : p ≠ .hold) (h' : p ≠ .resetN) : Leads (execResetNRelease s) (p.Same s) :=
  leads_next.mpr (by cases p <;> simp_all [Part.Same, State.slice])

/-! ## Every command -/

theorem or_or_eq_false {x y z : Bool} (h : (x || y || z) = false) : (x = false ∧ y = false) ∧ z = false := by
  simpa only [Bool.or_eq_false_iff] using h

theorem untouched_of_exchange (h : (!p.isPins && p != .hold && p != .resetN && p != .pending && p != .serials) = false) :
    p.isPins = true ∨ p = .hold ∨ p = .resetN ∨ p = .pending ∨ p = .serials := by
  cases p <;> simp_all [Part.isPins]

/-- What the events of the console lines, the monitors and the sequencers touch, and those of the media, the resets and the link. -/
theorem exec_event_same (i : Instr) (hi : i.isRequest = false) (h : mayTouch i p = false) : Leads (exec i s) (p.Same s) := by
  cases i with
  | linkFrameDropped cause => exact linkFrameDropped_same h
  | outgoingFrameStart mosi => exact leads_same_ite (exchange_same (untouched_of_exchange h))
  | outgoingFrameEnd mosi => exact leads_same_ite (exchange_same (untouched_of_exchange h))
  | byteExchange mosi => exact leads_next.mpr (exchange_same (untouched_of_exchange h))
  | characterReceived line data parity stop => exact characterReceived_same h
  | lowPulseEnd line internal length => exact lowPulseEnd_same h
  | detectionWindowExpiry line =>
    obtain ⟨⟨h1, h2⟩, h3⟩ := or_or_eq_false h
    exact detectionWindowExpiry_same (beq_eq_false_iff_ne.mp h1) (beq_eq_false_iff_ne.mp h2) h3
  | ctsChange line level => exact ctsChange_same h
  | txBreakLowEnd line => exact txBreakLowEnd_same (beq_eq_false_iff_ne.mp h)
  | txElementComplete line => exact txElementComplete_same h
  | idleFlushExpiry line => exact leads_next.mpr (modHistory_same (beq_eq_false_iff_ne.mp h))
  | promptWindowExpiry bay =>
    obtain ⟨h1, h2⟩ := Bool.or_eq_false_iff.mp h
    exact promptWindowExpiry_same (beq_eq_false_iff_ne.mp h1) h2
  | watchTimerExpiry bay =>
    obtain ⟨h1, h2⟩ := Bool.or_eq_false_iff.mp h
    exact watchTimerExpiry_same (beq_eq_false_iff_ne.mp h1) h2
  | monitorRequestTaken bay => exact monitorRequestTaken_same h
  | pgoodChange bay level => exact pgoodChange_same h
  | btnSenseChange bay level =>
    obtain ⟨h1, h2⟩ := Bool.or_eq_false_iff.mp h
    exact btnSenseChange_same (beq_eq_false_iff_ne.mp h1) h2
  | btnSenseMaskEnd bay =>
    obtain ⟨h1, h2⟩ := Bool.or_eq_false_iff.mp h
    exact btnSenseMaskEnd_same (beq_eq_false_iff_ne.mp h1) h2
  | powerGoodTimerExpiry bay => exact powerGoodTimerExpiry_same h
  | resetPulseTimerExpiry bay =>
    obtain ⟨h0, h4⟩ := Bool.or_eq_false_iff.mp h
    obtain ⟨⟨h1, h2⟩, h3⟩ := or_or_eq_false h0
    exact resetPulseTimerExpiry_same (beq_eq_false_iff_ne.mp h1) (beq_eq_false_iff_ne.mp h2) (beq_eq_false_iff_ne.mp h3) h4
  | buttonPressTimerExpiry bay => exact leads_same_ite (modSeq_same (beq_eq_false_iff_ne.mp h))
  | softStopWaitExpiry bay => exact softStopWaitExpiry_same h
  | holdOffTimerExpiry bay => exact holdOffTimerExpiry_same h
  | sagChange level =>
    obtain ⟨h1, h2⟩ := Bool.or_eq_false_iff.mp h
    exact sagChange_same h1 (beq_eq_false_iff_ne.mp h2)
  | restoreDelayEnd => exact restoreDelayEnd_same h
  | mediaOpen bay =>
    obtain ⟨h1, h2⟩ := Bool.or_eq_false_iff.mp h
    exact mediaOpen_same (beq_eq_false_iff_ne.mp h1) h2
  | mediaClose bay =>
    obtain ⟨h1, h2⟩ := Bool.or_eq_false_iff.mp h
    exact mediaClose_same h1 h2
  | read bay tag start count =>
    obtain ⟨⟨h1, h2⟩, h3⟩ := or_or_eq_false h
    exact read_same h1 (beq_eq_false_iff_ne.mp h2) (beq_eq_false_iff_ne.mp h3)
  | write bay tag start count =>
    obtain ⟨⟨h1, h2⟩, h3⟩ := or_or_eq_false h
    exact write_same h1 (beq_eq_false_iff_ne.mp h2) (beq_eq_false_iff_ne.mp h3)
  | capacity bay tag =>
    obtain ⟨h1, h2⟩ := Bool.or_eq_false_iff.mp h
    have hp := beq_eq_false_iff_ne.mp h1
    exact leads_next.mpr (arrive_same hp (beq_eq_false_iff_ne.mp h2) fun _ => tell_same hp)
  | ready bay tag =>
    obtain ⟨h1, h2⟩ := Bool.or_eq_false_iff.mp h
    have hp := beq_eq_false_iff_ne.mp h1
    exact leads_next.mpr (arrive_same hp (beq_eq_false_iff_ne.mp h2) fun _ => tell_same hp)
  | serverRequestInvalid bay tag => exact serverRequestInvalid_same (beq_eq_false_iff_ne.mp h)
  | transferEnd bay data => exact transferEnd_same h
  | fetchDeadlineExpiry id => exact fetchDeadlineExpiry_same h
  | writebackDeadlineExpiry id =>
    obtain ⟨h0, h4⟩ := Bool.or_eq_false_iff.mp h
    obtain ⟨⟨h1, h2⟩, h3⟩ := or_or_eq_false h0
    exact writebackDeadlineExpiry_same h1 h2 h3 (beq_eq_false_iff_ne.mp h4)
  | storeWriteComplete => exact storeWriteComplete_same (Part.kept_of_restart (tag := 0) h)
  | coldReset pinAsserted => exact execColdReset_same h
  | warmReset => exact Leads.ite (fun _ => leads_next.mpr (Part.Same.refl _ _)) fun _ => leads_next.mpr (warmReset_same (by simpa [mayTouch] using h))
  | resetNRelease =>
    obtain ⟨h1, h2⟩ := Bool.or_eq_false_iff.mp h
    exact resetNRelease_same (beq_eq_false_iff_ne.mp h1) (beq_eq_false_iff_ne.mp h2)
  | startEdge line internal =>
    obtain ⟨⟨h1, h2⟩, h3⟩ := or_or_eq_false h
    exact startEdge_same (beq_eq_false_iff_ne.mp h1) (beq_eq_false_iff_ne.mp h2) (beq_eq_false_iff_ne.mp h3)
  | falseStart line => exact falseStart_same (beq_eq_false_iff_ne.mp h)
  | _ => exact Bool.noConfusion hi

/-- Every command leaves what it may not touch. -/
theorem exec_same (i : Instr) (h : mayTouch i p = false) : Leads (exec i s) (p.Same s) := by
  by_cases hi : i.isRequest = true
  · rw [exec_request hi]
    exact leads_next.mpr (takeAny_same i h)
  · exact exec_event_same i (by simpa using hi) h

/-- Settles O51: a request by what its owner touches beside the link's accounting, an event by its own frame. -/
theorem commandsTouchOnlyTheirParts : Obligations.CommandsTouchOnlyTheirParts := by
  unfold Obligations.CommandsTouchOnlyTheirParts
  exact fun i s t p ht h => exec_same i h t ht

end Sys2Proof.Machine
end

section
/-! PROOFS. The power invariant (chapters 5 and 6): what each operation leaves of the sequencers and the grant queue, the agreement of one
bay with the queue, and that every command keeps it. -/

namespace Sys2Proof.Machine

variable {s t : State} {b c : Bay}

/-! ## What the operations leave of the sequencers and the grant queue -/

@[simp] theorem setFlag_sequencer (b c : Bay) (f : BayFlag) (s : State) :
    ((setFlag b f s).slice c).sequencer = (s.slice c).sequencer := setFlag_same (p := .sequencer c) rfl

@[simp] theorem setFlag_grant (b : Bay) (f : BayFlag) (s : State) : (setFlag b f s).grant = s.grant := setFlag_same (p := .grant) rfl

@[simp] theorem setFlagIf_sequencer (v : Bool) (b c : Bay) (f : BayFlag) (s : State) :
    ((setFlagIf v b f s).slice c).sequencer = (s.slice c).sequencer := setFlagIf_same (p := .sequencer c) rfl

@[simp] theorem setFlagIf_grant (v : Bool) (b : Bay) (f : BayFlag) (s : State) : (setFlagIf v b f s).grant = s.grant :=
  setFlagIf_same (p := .grant) rfl

@[simp] theorem setPartFlag_slice (f : PartFlag) (s : State) (c : Bay) : (setPartFlag f s).slice c = s.slice c := rfl

@[simp] theorem setPartFlag_grant (f : PartFlag) (s : State) : (setPartFlag f s).grant = s.grant := rfl

@[simp] theorem changeState_sequencer_self (b : Bay) (st : SeqState) (tm : Option (SeqTimer × Nat)) (s : State) :
    ((changeState b st tm s).slice b).sequencer = { (s.slice b).sequencer with state := st, timer := tm } := by
  simp [changeState]

theorem changeState_sequencer_ne (st : SeqState) (tm : Option (SeqTimer × Nat)) (s : State) (h : c ≠ b) :
    ((changeState b st tm s).slice c).sequencer = (s.slice c).sequencer := by
  simp [changeState, State.slice_modSlice_ne _ _ _ _ h]

@[simp] theorem changeState_grant (b : Bay) (st : SeqState) (tm : Option (SeqTimer × Nat)) (s : State) :
    (changeState b st tm s).grant = s.grant := by simp [changeState]

@[simp] theorem suspendMonitor_sequencer (own : Bool) (b c : Bay) (s : State) :
    ((suspendMonitor own b s).slice c).sequencer = (s.slice c).sequencer := suspendMonitor_same (p := .sequencer c) (by simp)

@[simp] theorem suspendMonitor_grant (own : Bool) (b : Bay) (s : State) : (suspendMonitor own b s).grant = s.grant :=
  suspendMonitor_same (p := .grant) (by simp)

@[simp] theorem leaveOn_sequencer (own : Bool) (b c : Bay) (s : State) :
    ((leaveOn own b s).slice c).sequencer = (s.slice c).sequencer := leaveOn_same (p := .sequencer c) (by simp) (by simp)

@[simp] theorem leaveOn_grant (own : Bool) (b : Bay) (s : State) : (leaveOn own b s).grant = s.grant :=
  leaveOn_same (p := .grant) (by simp) (by simp)

@[simp] theorem losePower_sequencer (own : Bool) (b c : Bay) (s : State) :
    ((losePower own b s).slice c).sequencer = (s.slice c).sequencer :=
  (leaveOn_sequencer own b c _).trans (mediaPowerLoss_same (p := .sequencer c) rfl (by simp) rfl)

@[simp] theorem losePower_grant (own : Bool) (b : Bay) (s : State) : (losePower own b s).grant = s.grant :=
  (leaveOn_grant own b _).trans (mediaPowerLoss_same (p := .grant) rfl (by simp) rfl)

@[simp] theorem reachOnEffects_sequencer (b c : Bay) (s : State) :
    ((reachOnEffects b s).slice c).sequencer = (s.slice c).sequencer := reachOnEffects_same (p := .sequencer c) (by simp) (by simp)

@[simp] theorem reachOnEffects_grant (b : Bay) (s : State) : (reachOnEffects b s).grant = s.grant :=
  reachOnEffects_same (p := .grant) (by simp) (by simp)

@[simp] theorem release_slice (b c : Bay) (s : State) : (release b s).slice c = s.slice c := rfl

@[simp] theorem release_grant (b : Bay) (s : State) :
    (release b s).grant = { s.grant with granted := s.grant.granted.set b none } := rfl

@[simp] theorem setPendingOn_grant (v : Bool) (b : Bay) (s : State) : (setPendingOn v b s).grant = s.grant := rfl

@[simp] theorem setPendingOn_sequencer_self (v : Bool) (b : Bay) (s : State) :
    ((setPendingOn v b s).slice b).sequencer = { (s.slice b).sequencer with pendingOn := v } := by simp [setPendingOn]

theorem startDetectionIf_sequencer (v : Bool) (b c : Bay) (s : State) :
    ((if v then startDetection b s else s).slice c).sequencer = (s.slice c).sequencer := by
  split
  · exact startDetection_same (p := .sequencer c) rfl
  · rfl

theorem startDetectionIf_grant (v : Bool) (b : Bay) (s : State) : (if v then startDetection b s else s).grant = s.grant := by
  split
  · exact startDetection_same (p := .grant) rfl
  · rfl

@[simp] theorem reachOn_sequencer_self (b : Bay) (s : State) :
    ((reachOn b s).slice b).sequencer = { (s.slice b).sequencer with state := .on, timer := none } := by
  simp [reachOn, startDetectionIf_sequencer]

theorem reachOn_sequencer_ne (s : State) (h : c ≠ b) : ((reachOn b s).slice c).sequencer = (s.slice c).sequencer := by
  simp [reachOn, startDetectionIf_sequencer, changeState_sequencer_ne _ _ _ h]

@[simp] theorem reachOn_grant (b : Bay) (s : State) :
    (reachOn b s).grant = { s.grant with granted := s.grant.granted.set b none } := by
  simp [reachOn, startDetectionIf_grant]

/-! ## The POWERING sum -/

theorem list_sum_set (l : List Nat) (i : Nat) (h : i < l.length) (a : Nat) : (l.set i a).sum + l[i] = l.sum + a := by
  induction l generalizing i with
  | nil => cases h
  | cons x rest ih =>
    cases i with
    | zero => simp; omega
    | succ i =>
      have := ih i (by simpa using h)
      simp only [List.set_cons_succ, List.sum_cons, List.getElem_cons_succ]
      omega

/-- The sum after a bay's granted weight is replaced. -/
theorem grantSum_set (g : GrantQueue) (b : Bay) (w : Option Nat) :
    GrantQueue.sum { g with granted := g.granted.set b w } + (g.granted.get b).getD 0 = g.sum + w.getD 0 := by
  have h := list_sum_set (g.granted.toList.map fun w => w.getD 0) b.val (by simp) (w.getD 0)
  simpa [GrantQueue.sum, List.map_set, Vector.toList_set, Vector.get_eq_getElem] using h

/-! ## The agreement of one bay -/

/-- One bay's sequencer agrees with the grant queue (R102 to R104). -/
structure BayAgrees (q : Sequencer) (g : GrantQueue) (b : Bay) : Prop where
  wf : q.Wf
  waiting : b ∈ g.queue ↔ q.state = .queued
  powering : (g.granted.get b).isSome ↔ q.state = .powering

/-- The grant queue by itself: each bay once, and the sum within a budget in its range (R102, R103, R105). -/
structure GrantQueue.Wf (g : GrantQueue) : Prop where
  once : g.queue.Nodup
  sum : g.sum ≤ g.budget
  budget : 1 ≤ g.budget ∧ g.budget ≤ 60

theorem powerWf_iff : s.PowerWf ↔ (∀ b, BayAgrees (s.slice b).sequencer s.grant b) ∧ s.grant.Wf :=
  ⟨fun ⟨h1, h2, h3, h4, h5, h6⟩ => ⟨fun b => ⟨h1 b, h3 b, h4 b⟩, h2, h5, h6⟩,
   fun ⟨hb, h2, h5, h6⟩ => ⟨fun b => (hb b).wf, h2, fun b => (hb b).waiting, fun b => (hb b).powering, h5, h6⟩⟩

theorem State.PowerWf.agrees (h : s.PowerWf) (b : Bay) : BayAgrees (s.slice b).sequencer s.grant b := (powerWf_iff.mp h).1 b

theorem State.PowerWf.grantWf (h : s.PowerWf) : s.grant.Wf := (powerWf_iff.mp h).2

/-- What changes one bay's sequencer, and of the grant queue no other bay's place or weight, keeps the invariant where that bay agrees
again and the queue is in order. -/
theorem State.PowerWf.transition (h : s.PowerWf) (hseq : ∀ c, c ≠ b → (t.slice c).sequencer = (s.slice c).sequencer)
    (hqueue : ∀ c, c ≠ b → (c ∈ t.grant.queue ↔ c ∈ s.grant.queue))
    (hgranted : ∀ c, c ≠ b → t.grant.granted.get c = s.grant.granted.get c)
    (hb : BayAgrees (t.slice b).sequencer t.grant b) (hg : t.grant.Wf) : t.PowerWf := by
  refine powerWf_iff.mpr ⟨fun c => ?_, hg⟩
  by_cases hc : c = b
  · exact hc ▸ hb
  · obtain ⟨h1, h2, h3⟩ := h.agrees c
    rw [hseq c hc]
    exact ⟨h1, (hqueue c hc).trans h2, (hgranted c hc) ▸ h3⟩

/-- The same sequencers and the same grant queue. -/
theorem State.PowerWf.congr (h : s.PowerWf) (hseq : ∀ c, (t.slice c).sequencer = (s.slice c).sequencer) (hg : t.grant = s.grant) :
    t.PowerWf := by
  refine powerWf_iff.mpr ⟨fun c => ?_, hg ▸ h.grantWf⟩
  rw [hseq c, hg]
  exact h.agrees c

/-- The sequencers and the grant queue as parts of the state. -/
def Part.ofPower : Part → Bool
  | .sequencer _ | .grant => true
  | _ => false

theorem State.PowerWf.of_same (h : s.PowerWf) (hp : ∀ p : Part, p.ofPower = true → p.Same s t) : t.PowerWf :=
  h.congr (fun c => hp (.sequencer c) rfl) (hp .grant rfl)

/-- A transition of a bay that neither waits nor is POWERING before and after it. -/
theorem State.PowerWf.move (h : s.PowerWf) (hseq : ∀ c, c ≠ b → (t.slice c).sequencer = (s.slice c).sequencer) (hg : t.grant = s.grant)
    (hwf : (t.slice b).sequencer.Wf)
    (hq : (t.slice b).sequencer.state = .queued ↔ (s.slice b).sequencer.state = .queued)
    (hp : (t.slice b).sequencer.state = .powering ↔ (s.slice b).sequencer.state = .powering) : t.PowerWf := by
  obtain ⟨_, h2, h3⟩ := h.agrees b
  exact h.transition hseq (fun c _ => by rw [hg]) (fun c _ => by rw [hg]) ⟨hwf, by rw [hg, h2, hq], by rw [hg, h3, hp]⟩ (hg ▸ h.grantWf)

/-- A change of a sequencer that keeps its state. -/
theorem State.PowerWf.modSeq (h : s.PowerWf) (f : Sequencer → Sequencer) (hst : (f (s.slice b).sequencer).state = (s.slice b).sequencer.state)
    (hwf : (f (s.slice b).sequencer).Wf) : (s.modSeq b f).PowerWf := by
  refine h.move (b := b) (fun c hc => by rw [State.slice_modSlice_ne _ _ _ _ hc]) rfl ?_ ?_ ?_ <;> simp [hst, hwf]

/-! ## Sequencers in their ranges -/

/-- Outside SOFT_STOPPING nothing presses the button, so a sequencer keeps its form with any other state and that state's timer (Table 5-2). -/
theorem Sequencer.Wf.enter {q : Sequencer} (h : q.Wf) (st : SeqState) (tm : Option (SeqTimer × Nat)) (hst : q.state ≠ .softStopping)
    (hp : q.pendingOn = false) (htm : st.runs (tm.map Prod.fst)) : Sequencer.Wf { q with state := st, timer := tm } where
  timer := htm
  pendingOn := by simp [hp]
  press k hk hpress := by
    have := h.press k hk hpress
    simp [Sequencer.btn, hst] at this

theorem Sequencer.Wf.pendingOn_false {q : Sequencer} (h : q.Wf) (hst : q.state ≠ .holdOff) : q.pendingOn = false := by
  by_contra hp
  exact hst (h.pendingOn (by simpa using hp))

/-- No press goes on after its end (R92). -/
theorem Sequencer.pressEnd_hold (q : Sequencer) {k : ButtonHold} (h : q.pressEnd.buttonHold = some k) : k.pressing = false := by
  unfold Sequencer.pressEnd at h
  cases hq : q.buttonHold with
  | none => simp [hq] at h
  | some m =>
    cases hm : m.pressing with
    | false =>
      obtain rfl : m = k := by simpa [hq, hm] using h
      exact hm
    | true =>
      simp only [hq, hm, if_true] at h
      split at h
      · cases h
      · cases h
        rfl

@[simp] theorem Sequencer.pressEnd_state (q : Sequencer) : q.pressEnd.state = q.state := by
  unfold Sequencer.pressEnd
  split
  · split <;> rfl
  · rfl

@[simp] theorem Sequencer.pressEnd_timer (q : Sequencer) : q.pressEnd.timer = q.timer := by
  unfold Sequencer.pressEnd
  split
  · split <;> rfl
  · rfl

@[simp] theorem Sequencer.pressEnd_pendingOn (q : Sequencer) : q.pressEnd.pendingOn = q.pendingOn := by
  unfold Sequencer.pressEnd
  split
  · split <;> rfl
  · rfl

/-! ## Grants -/

theorem GrantQueue.Wf.of_sum {g k : GrantQueue} (h : g.Wf) (hq : k.queue = g.queue) (hb : k.budget = g.budget) (hs : k.sum ≤ g.sum) :
    k.Wf := ⟨hq ▸ h.once, hb ▸ hs.trans h.sum, hb ▸ h.budget⟩

/-- A weight released leaves the queue in order. -/
theorem GrantQueue.Wf.release {g : GrantQueue} (h : g.Wf) (b : Bay) : GrantQueue.Wf { g with granted := g.granted.set b none } :=
  h.of_sum rfl rfl (by have := grantSum_set g b none; simp at this; omega)

theorem get_set_self {α : Type} {n : Nat} (v : Vector α n) (i : Fin n) (x : α) : (v.set i x).get i = x := by
  simp [Vector.get_eq_getElem]

theorem get_set_ne {α : Type} {n : Nat} (v : Vector α n) {i j : Fin n} (h : j ≠ i) (x : α) : (v.set i x).get j = v.get j := by
  have : ¬ i.val = j.val := fun e => h (Fin.ext e.symm)
  simp [Vector.get_eq_getElem, this]

/-- A POWERING bay reaches ON, FAULT or HOLDOFF and its weight is released. -/
theorem State.PowerWf.released (h : s.PowerWf) (hp : (s.slice b).sequencer.state = .powering)
    (hseq : ∀ c, c ≠ b → (t.slice c).sequencer = (s.slice c).sequencer)
    (hg : t.grant = { s.grant with granted := s.grant.granted.set b none })
    (hwf : (t.slice b).sequencer.Wf) (hst : (t.slice b).sequencer.state ≠ .queued ∧ (t.slice b).sequencer.state ≠ .powering) :
    t.PowerWf := by
  obtain ⟨_, hw, _⟩ := h.agrees b
  have hout : b ∉ s.grant.queue := by simp [hw, hp]
  refine h.transition hseq (fun c _ => by rw [hg]) (fun c hc => by rw [hg, get_set_ne _ hc]) ⟨hwf, ?_, ?_⟩ (hg ▸ h.grantWf.release b)
  · simp [hg, hout, hst.1]
  · simp [hg, get_set_self, hst.2]

theorem State.PowerWf.reachOn (h : s.PowerWf) (hp : (s.slice b).sequencer.state = .powering) : (reachOn b s).PowerWf := by
  have hwf := (h.agrees b).wf
  refine h.released hp (fun c hc => reachOn_sequencer_ne s hc) (reachOn_grant b s) ?_ (by simp)
  rw [reachOn_sequencer_self]
  exact hwf.enter .on none (by simp [hp]) (hwf.pendingOn_false (by simp [hp])) rfl

/-- The head of the queue is granted where its effective weight fits (R105). -/
theorem State.PowerWf.grantHead {rest : List Bay} (h : s.PowerWf) (hq : s.grant.queue = b :: rest) (hg : grantable b s = true) :
    (grantHead b rest s).PowerWf := by
  obtain ⟨hwf, hw, hn⟩ := h.agrees b
  have hst : (s.slice b).sequencer.state = .queued := hw.mp (by simp [hq])
  have hnone : s.grant.granted.get b = none := by simpa [hst] using hn
  have honce := h.once
  rw [hq, List.nodup_cons] at honce
  obtain ⟨hout, hrest⟩ := honce
  have hsum := grantSum_set s.grant b (some (effectiveWeight b s))
  have hfit : s.grant.sum + effectiveWeight b s ≤ s.grant.budget := by simp [grantable] at hg; exact hg.2
  have h2 : (changeState b .powering (some (.powerGood, (s.slice b).sequencer.settings.powerGood))
      (s.modGrant fun g => { g with queue := rest, granted := g.granted.set b (some (effectiveWeight b s)) })).PowerWf := by
    refine h.transition (b := b) (fun c hc => changeState_sequencer_ne _ _ _ hc) (fun c hc => ?_) (fun c hc => ?_) ⟨?_, ?_, ?_⟩
      ⟨?_, ?_, ?_⟩
    · simp [hq, hc]
    · simp [get_set_ne _ hc]
    · rw [changeState_sequencer_self]
      exact hwf.enter .powering _ (by simp [hst]) (hwf.pendingOn_false (by simp [hst])) rfl
    · simp [hout]
    · simp [get_set_self]
    · simpa using hrest
    · rw [hnone] at hsum
      exact hsum.le.trans hfit
    · simpa using h.budget
  unfold Machine.grantHead
  dsimp only
  split
  · exact h2.reachOn (by simp)
  · exact h2

theorem grantHead_queue (b : Bay) (rest : List Bay) (s : State) : (grantHead b rest s).grant.queue = rest := by
  unfold grantHead
  dsimp only
  split <;> simp

theorem State.PowerWf.attemptFrom (q : List Bay) : ∀ s : State, s.PowerWf → s.grant.queue = q → (attemptFrom q s).PowerWf := by
  induction q with
  | nil => exact fun s h _ => h
  | cons b rest ih =>
    intro s h hq
    unfold Machine.attemptFrom
    split
    · exact ih _ (h.grantHead hq ‹_›) (grantHead_queue b rest s)
    · exact h

theorem State.PowerWf.attempt (h : s.PowerWf) : (attempt s).PowerWf := State.PowerWf.attemptFrom _ s h rfl

/-- A bay in OFF or at the end of HOLDOFF joins the tail of the queue (R83, R89, R103). -/
theorem State.PowerWf.enqueue (h : s.PowerWf) (hst : (s.slice b).sequencer.state ≠ .queued ∧ (s.slice b).sequencer.state ≠ .powering)
    (hwf : Sequencer.Wf { (s.slice b).sequencer with state := .queued, timer := none }) :
    ((changeState b .queued none s).modGrant fun g => { g with queue := g.queue ++ [b] }).PowerWf := by
  obtain ⟨_, hw, hn⟩ := h.agrees b
  have hout : b ∉ s.grant.queue := by simp [hw, hst.1]
  have hnone : s.grant.granted.get b = none := by simpa [hst.2] using hn
  refine h.transition (b := b) (fun c hc => changeState_sequencer_ne _ _ _ hc) (fun c hc => ?_) (fun c hc => ?_) ⟨?_, ?_, ?_⟩
    ⟨?_, ?_, ?_⟩
  · simp [hc]
  · simp
  · simpa using hwf
  · simp
  · simp [hnone]
  · simpa [List.nodup_append, h.once] using fun a ha => ne_of_mem_of_not_mem ha hout
  · exact h.sum.trans_eq (by simp)
  · simpa using h.budget

theorem State.PowerWf.joinQueue (h : s.PowerWf) (hst : (s.slice b).sequencer.state ≠ .queued ∧ (s.slice b).sequencer.state ≠ .powering)
    (hwf : Sequencer.Wf { (s.slice b).sequencer with state := .queued, timer := none }) : (joinQueue b s).PowerWf := by
  unfold Machine.joinQueue
  dsimp only
  split
  · exact (h.enqueue hst hwf).attempt
  · exact h.enqueue hst hwf

theorem State.PowerWf.leaveQueue (h : s.PowerWf) (hst : (s.slice b).sequencer.state = .queued) : (leaveQueue b s).PowerWf := by
  obtain ⟨hwf, _, hn⟩ := h.agrees b
  have hs : (suspendMonitor false b ((changeState b .off none s).modGrant fun g =>
      { g with queue := g.queue.filter fun x => x ≠ b })).PowerWf := by
    refine h.transition (b := b) (fun c hc => ?_) (fun c hc => ?_) (fun c hc => ?_) ⟨?_, ?_, ?_⟩ ⟨?_, ?_, ?_⟩
    · simp [changeState_sequencer_ne _ _ _ hc]
    · simp [hc]
    · simp
    · simpa using hwf.enter .off none (by simp [hst]) (hwf.pendingOn_false (by simp [hst])) rfl
    · simp
    · simpa [hst] using hn
    · simpa using h.once.filter _
    · exact h.sum.trans_eq (by simp)
    · simpa using h.budget
  unfold Machine.leaveQueue
  dsimp only
  split
  · exact hs.attempt
  · exact hs

/-! ## Transitions -/

/-- Entering HOLDOFF ends a press (R87, R92). -/
theorem Sequencer.Wf.holdOff {q : Sequencer} (n : Nat) (v : Bool) :
    Sequencer.Wf { Sequencer.pressEnd { q with state := .holdOff, timer := some (.holdOff, n) } with pendingOn := v } where
  timer := by simp [SeqState.runs]
  pendingOn := by simp
  press k hk hpress := by
    have := Sequencer.pressEnd_hold _ hk
    simp_all

theorem enterHoldOff_eq (own v : Bool) (b : Bay) (s : State) :
    enterHoldOff own v b s =
      if (s.slice b).sequencer.state = .powering then
        attempt (release b (losePower own b ((changeState b .holdOff (some (.holdOff, (s.slice b).sequencer.settings.holdOff)) s).modSeq b
          fun q => { q.pressEnd with pendingOn := v })))
      else losePower own b ((changeState b .holdOff (some (.holdOff, (s.slice b).sequencer.settings.holdOff)) s).modSeq b
          fun q => { q.pressEnd with pendingOn := v }) := rfl

theorem State.PowerWf.enterHoldOff {own v : Bool} (h : s.PowerWf) (hst : (s.slice b).sequencer.state ≠ .queued) :
    (enterHoldOff own v b s).PowerWf := by
  rw [enterHoldOff_eq]
  have hother (c : Bay) (hc : c ≠ b) : (((changeState b .holdOff (some (.holdOff, (s.slice b).sequencer.settings.holdOff)) s).modSeq b
      fun q => { q.pressEnd with pendingOn := v }).slice c).sequencer = (s.slice c).sequencer := by
    rw [State.slice_modSlice_ne _ _ _ _ hc, changeState_sequencer_ne _ _ _ hc]
  split
  case isTrue hp =>
    refine State.PowerWf.attempt (h.released hp (b := b) (fun c hc => ?_) ?_ ?_ ?_)
    · simpa using hother c hc
    · simp
    · simpa using Sequencer.Wf.holdOff _ v
    · simp
  case isFalse hp =>
    refine h.move (b := b) (fun c hc => ?_) ?_ ?_ ?_ ?_
    · simpa using hother c hc
    · simp
    · simpa using Sequencer.Wf.holdOff _ v
    · simp [hst]
    · simp [hp]

/-- A change of state between states that neither wait nor are POWERING. -/
theorem State.PowerWf.changeState {st : SeqState} {tm : Option (SeqTimer × Nat)} (h : s.PowerWf)
    (hfrom : (s.slice b).sequencer.state ≠ .queued ∧ (s.slice b).sequencer.state ≠ .powering) (hto : st ≠ .queued ∧ st ≠ .powering)
    (hwf : Sequencer.Wf { (s.slice b).sequencer with state := st, timer := tm }) : (changeState b st tm s).PowerWf := by
  refine h.move (b := b) (fun c hc => changeState_sequencer_ne _ _ _ hc) (changeState_grant _ _ _ _) ?_ ?_ ?_
  · simpa using hwf
  · simp [hfrom.1, hto.1]
  · simp [hfrom.2, hto.2]

theorem State.PowerWf.serverStopped (h : s.PowerWf) (hst : (s.slice b).sequencer.state = .on ∨ (s.slice b).sequencer.state = .resetting) :
    (serverStopped b s).PowerWf := by
  have hwf := (h.agrees b).wf
  have hc : (Machine.changeState b .off none s).PowerWf := by
    refine h.changeState ?_ (by simp) (hwf.enter .off none ?_ (hwf.pendingOn_false ?_) rfl) <;> rcases hst with hst | hst <;> simp [hst]
  exact hc.congr (by simp [Machine.serverStopped]) (by simp [Machine.serverStopped])

theorem State.PowerWf.enterResetting {own : Bool} (h : s.PowerWf) (hst : (s.slice b).sequencer.state = .on) :
    (enterResetting own b s).PowerWf := by
  have hwf := (h.agrees b).wf
  have hc : (Machine.changeState b .resetting (some (.resetPulse, (s.slice b).sequencer.settings.resetPulse)) s).PowerWf :=
    h.changeState (by simp [hst]) (by simp) (hwf.enter .resetting _ (by simp [hst]) (hwf.pendingOn_false (by simp [hst])) rfl)
  exact hc.congr (by simp [Machine.enterResetting]) (by simp [Machine.enterResetting])

/-- A press goes on while its timer runs (R86, R92). -/
theorem Sequencer.Wf.pressStart {q : Sequencer} (n : Nat) (hp : q.pendingOn = false) :
    Sequencer.Wf (Sequencer.pressStart { q with state := .softStopping, timer := some (.buttonPress, n) }) where
  timer := Or.inl rfl
  pendingOn := by simp [Sequencer.pressStart, hp]
  press k _ _ := by simp [Sequencer.btn, Sequencer.pressStart]

theorem State.PowerWf.enterSoftStopping (h : s.PowerWf) (hst : (s.slice b).sequencer.state = .on) : (enterSoftStopping b s).PowerWf := by
  have hp := (h.agrees b).wf.pendingOn_false (by simp [hst])
  refine h.move (b := b) (fun c hc => ?_) (by simp [Machine.enterSoftStopping]) ?_ ?_ ?_
  · simp [Machine.enterSoftStopping, State.slice_modSlice_ne _ _ _ _ hc, changeState_sequencer_ne _ _ _ hc]
  · simpa [Machine.enterSoftStopping] using Sequencer.Wf.pressStart _ hp
  · simp [Machine.enterSoftStopping, Sequencer.pressStart, hst]
  · simp [Machine.enterSoftStopping, Sequencer.pressStart, hst]

end Sys2Proof.Machine
end

section
/-! PROOFS. Every step keeps the power invariant: the resets, the requests and the events over the transitions of the sequencers. -/

namespace Sys2Proof.Machine

variable {s t : State} {b c : Bay}

/-! ## Steps -/

/-- What every command keeps, every step keeps, where it does not depend on the commands that wait. -/
theorem step_keeps {P : State → Prop} (hpending : ∀ s q, P s → P { s with pending := q }) (hexec : ∀ i s, P s → Leads (exec i s) P)
    (s t : State) (h : P s) (ht : step s = .next t) : P t := by
  unfold step at ht
  split at ht
  · cases ht
    exact h
  · exact hexec _ _ (hpending _ _ h) t ht

/-! ## Resets -/

theorem controllerReset_slice (causes : BitVec 4) (v : Bool) (s : State) (b : Bay) :
    (controllerReset causes v s).slice b = (s.slice b).afterReset := by
  simp [controllerReset, State.slice, Vector.get_eq_getElem]

/-- The sequencer rebuilt runs the timer of its state and holds no mark (R101, Table 5-5). -/
theorem Sequencer.afterReset_wf (q : Sequencer) : q.afterReset.Wf where
  timer := by
    cases h : q.state <;> cases hp : q.pgood <;> simp [Sequencer.afterReset, h, hp, SeqState.runs]
  pendingOn := by simp [Sequencer.afterReset]
  press := by simp [Sequencer.afterReset]

theorem Sequencer.afterReset_state (q : Sequencer) :
    q.afterReset.state ≠ .queued ∧ (q.afterReset.state = .powering ↔ q.state = .powering) := by
  cases h : q.state <;> simp [Sequencer.afterReset, h]
  split <;> simp

theorem afterReset_granted (slices : Vector Slice 8) (g : GrantQueue) (b : Bay) :
    (g.afterReset slices).granted.get b = if (slices.get b).sequencer.state = .powering then g.granted.get b else none := by
  simp [GrantQueue.afterReset, Vector.get_eq_getElem]

/-- The weights that a reset keeps do not exceed those there were. -/
theorem afterReset_sum_le (slices : Vector Slice 8) (g : GrantQueue) : (g.afterReset slices).sum ≤ g.sum := by
  have hl (h : GrantQueue) : h.sum = ((List.finRange 8).map fun b => (h.granted.get b).getD 0).sum := by
    have : h.granted.toList = (List.finRange 8).map h.granted.get := by
      apply List.ext_getElem <;> simp [Vector.get_eq_getElem]
    rw [GrantQueue.sum, this, List.map_map]
    rfl
  rw [hl, hl]
  refine List.sum_le_sum fun b _ => ?_
  rw [afterReset_granted]
  split <;> simp

theorem State.PowerWf.controllerReset {causes : BitVec 4} {v : Bool} (h : s.PowerWf) : (controllerReset causes v s).PowerWf := by
  have hg : (Machine.controllerReset causes v s).grant = s.grant.afterReset s.slices := rfl
  refine powerWf_iff.mpr ⟨fun b => ?_, ?_⟩
  · rw [controllerReset_slice, hg]
    obtain ⟨hq, hp⟩ := (s.slice b).sequencer.afterReset_state
    refine ⟨Sequencer.afterReset_wf _, ?_, ?_⟩
    · simpa [GrantQueue.afterReset, Slice.afterReset] using hq
    · rw [afterReset_granted]
      have ha := h.powering b
      change Option.isSome (if (s.slice b).sequencer.state = SeqState.powering then _ else _) = true ↔ (s.slice b).sequencer.afterReset.state = _
      by_cases hst : (s.slice b).sequencer.state = .powering
      · rw [if_pos hst]
        exact ⟨fun _ => hp.mpr hst, fun _ => ha.mpr hst⟩
      · rw [if_neg hst]
        exact ⟨nofun, fun hf => absurd (hp.mp hf) hst⟩
  · rw [hg]
    exact ⟨List.nodup_nil, (afterReset_sum_le _ _).trans h.sum, h.budget⟩

theorem State.PowerWf.softReset (h : s.PowerWf) : (softReset s).PowerWf := h.controllerReset

theorem State.PowerWf.warmReset (h : s.PowerWf) : (warmReset s).PowerWf :=
  State.PowerWf.controllerReset (h.congr (fun _ => rfl) rfl)

theorem readGlobal_budget (p : PolicyStore) : 1 ≤ (readGlobal p).budget ∧ (readGlobal p).budget ≤ 60 := by
  unfold readGlobal
  cases p.read 0 with
  | none => decide
  | some x =>
    simp only [Option.elim, GlobalRecord.ofContent, clamp]
    omega

theorem coldBlocks_powerWf (s : State) : (coldBlocks s).PowerWf := by
  refine powerWf_iff.mpr ⟨fun b => ?_, List.nodup_nil, ?_, readGlobal_budget s.policy⟩
  · rw [coldBlocks_slice]
    exact ⟨⟨rfl, by simp [Sequencer.cold], by simp [Sequencer.cold]⟩, by simp [coldBlocks, Sequencer.cold],
      by simp [coldBlocks, Sequencer.cold, Vector.get_eq_getElem]⟩
  · exact (show GrantQueue.sum {} = 0 from by decide).trans_le (Nat.zero_le _)

theorem restoreBay_sequencer_ne (s : State) (h : c ≠ b) : ((restoreBay s b).slice c).sequencer = (s.slice c).sequencer := by
  unfold restoreBay
  split
  · exact changeState_sequencer_ne _ _ _ h
  · rfl

/-- The restore queues each bay once, from OFF (R163). -/
theorem State.PowerWf.restoreAll (bs : List Bay) : ∀ s : State, s.PowerWf → bs.Nodup → (∀ c ∈ bs, (s.slice c).sequencer.state = .off) →
    (bs.foldl restoreBay s).PowerWf := by
  induction bs with
  | nil => exact fun s h _ _ => h
  | cons b rest ih =>
    intro s h hn hoff
    obtain ⟨hout, hrest⟩ := List.nodup_cons.mp hn
    have hb : (s.slice b).sequencer.state = .off := hoff b (by simp)
    refine ih _ ?_ hrest fun c hc => ?_
    · unfold restoreBay
      split
      · have hwf := (h.agrees b).wf
        exact h.enqueue (by simp [hb]) (hwf.enter .queued none (by simp [hb]) (hwf.pendingOn_false (by simp [hb])) rfl)
      · exact h
    · rw [restoreBay_sequencer_ne s (ne_of_mem_of_not_mem hc hout)]
      exact hoff c (by simp [hc])

theorem State.PowerWf.startRestoreDelay (h : s.PowerWf) : (startRestoreDelay s).PowerWf := by
  unfold Machine.startRestoreDelay
  split
  · exact State.PowerWf.attempt ⟨h.sequencers, h.once, h.waiting, h.powering, h.sum, h.budget⟩
  · exact ⟨h.sequencers, h.once, h.waiting, h.powering, h.sum, h.budget⟩

theorem coldReset_powerWf (s : State) : (coldReset s).PowerWf := by
  have h := State.PowerWf.restoreAll (List.finRange 8) _ (coldBlocks_powerWf s) (List.nodup_finRange 8)
    fun b _ => by simp [coldBlocks_slice, Sequencer.cold]
  unfold coldReset
  generalize (List.finRange 8).foldl restoreBay (coldBlocks s) = u at h
  exact h.startRestoreDelay.congr (fun _ => rfl) rfl

/-! ## Requests -/

theorem setLastCommanded_powerWf {on : Bool} (h : s.PowerWf) : (setLastCommanded on b s).PowerWf := h.congr (fun _ => rfl) rfl

theorem setPendingOn_powerWf {v : Bool} (h : s.PowerWf) (hst : (s.slice b).sequencer.state = .holdOff) : (setPendingOn v b s).PowerWf := by
  obtain ⟨htimer, _, hpress⟩ := (h.agrees b).wf
  exact h.modSeq (fun q => { q with pendingOn := v }) rfl ⟨htimer, fun _ => hst, hpress⟩

theorem clearFault_powerWf (h : s.PowerWf) (hst : (s.slice b).sequencer.state = .fault) :
    (suspendMonitor false b (changeState b .off none s)).PowerWf := by
  have hwf := (h.agrees b).wf
  have hc : (changeState b .off none s).PowerWf :=
    h.changeState (by simp [hst]) (by simp) (hwf.enter .off none (by simp [hst]) (hwf.pendingOn_false (by simp [hst])) rfl)
  exact hc.congr (by simp) (by simp)

theorem joinQueue_powerWf_of_off (h : s.PowerWf) (hst : (s.slice b).sequencer.state = .off) : (joinQueue b s).PowerWf := by
  have hwf := (h.agrees b).wf
  exact h.joinQueue (by simp [hst]) (hwf.enter .queued none (by simp [hst]) (hwf.pendingOn_false (by simp [hst])) rfl)

theorem powerOnAct_powerWf (h : s.PowerWf) : (powerOnAct b s).state.PowerWf := by
  unfold powerOnAct
  split
  · exact setLastCommanded_powerWf (joinQueue_powerWf_of_off h ‹_›)
  · exact setLastCommanded_powerWf h
  · exact setLastCommanded_powerWf h
  · exact setLastCommanded_powerWf h
  · exact h
  · exact h
  · exact setLastCommanded_powerWf (setPendingOn_powerWf h ‹_›)
  · exact h

theorem powerOffSoftAct_powerWf (h : s.PowerWf) : (powerOffSoftAct b s).state.PowerWf := by
  unfold powerOffSoftAct
  split
  · exact setLastCommanded_powerWf h
  · exact setLastCommanded_powerWf h
  · exact setLastCommanded_powerWf (h.leaveQueue ‹_›)
  · exact h
  · exact h
  · exact setLastCommanded_powerWf (h.enterSoftStopping ‹_›)
  · exact setLastCommanded_powerWf (setPendingOn_powerWf h ‹_›)
  · exact h

theorem powerOffHardAct_powerWf (h : s.PowerWf) : (powerOffHardAct b s).state.PowerWf := by
  unfold powerOffHardAct
  split
  case h_1 => exact setLastCommanded_powerWf h
  case h_2 hst => exact setLastCommanded_powerWf (h.leaveQueue hst)
  case h_7 hst => exact setLastCommanded_powerWf (setPendingOn_powerWf h hst)
  case h_8 hst => exact setLastCommanded_powerWf (clearFault_powerWf h hst)
  all_goals exact setLastCommanded_powerWf (h.enterHoldOff (by simp [*]))

theorem powerCycleAct_powerWf (h : s.PowerWf) : (powerCycleAct b s).state.PowerWf := by
  unfold powerCycleAct
  split
  · exact setLastCommanded_powerWf (joinQueue_powerWf_of_off h ‹_›)
  · exact setLastCommanded_powerWf h
  · exact h
  · exact h
  · exact h
  case h_6 hst => exact setLastCommanded_powerWf (h.enterHoldOff (by simp [hst]))
  · exact setLastCommanded_powerWf (setPendingOn_powerWf h ‹_›)
  · exact h

theorem powerResetAct_powerWf (h : s.PowerWf) : (powerResetAct b s).state.PowerWf := by
  unfold powerResetAct
  split
  case h_7 hst => exact h.enterResetting hst
  all_goals exact h

theorem powerClearFaultAct_powerWf (h : s.PowerWf) : (powerClearFaultAct b s).state.PowerWf := by
  unfold powerClearFaultAct
  split
  · exact clearFault_powerWf h ‹_›
  · exact h

theorem powerSetAct_powerWf {p : PowerSettings} (h : s.PowerWf) : (powerSetAct p b s).state.PowerWf := by
  unfold powerSetAct
  dsimp only
  split
  · exact h
  · obtain ⟨htimer, hpending, hpress⟩ := (h.agrees b).wf
    exact h.modSeq (fun q => { q with settings := p }) rfl ⟨htimer, hpending, hpress⟩

theorem budgetAct_powerWf {n d : Nat} (h : s.PowerWf) : (budgetAct n d s).state.PowerWf := by
  unfold budgetAct
  dsimp only
  split
  · exact h
  · refine State.PowerWf.attempt ⟨h.sequencers, h.once, h.waiting, h.powering, ?_, ?_⟩
    · exact Nat.le_of_not_lt ‹_›
    · simp only [State.modGrant_grant, clamp]
      omega

theorem statusBayAct_powerWf (h : s.PowerWf) : (statusBayAct b s).state.PowerWf := by
  obtain ⟨htimer, hpending, hpress⟩ := (h.agrees b).wf
  refine h.move (b := b) (fun c hc => ?_) rfl ?_ ?_ ?_
  · simp [statusBayAct, State.slice_modSlice_ne _ _ _ _ hc]
  · simpa [statusBayAct] using ⟨htimer, hpending, hpress⟩
  · simp [statusBayAct]
  · simp [statusBayAct]

theorem linkKeeps_powerWf : LinkKeeps State.PowerWf :=
  LinkKeeps.of_same fun s t hst h => h.of_same fun p hp => hst p (by cases p <;> simp_all [Part.ofPower, Part.linking])

theorem onBay_keeps {P : State → Prop} {n : Byte} {act : Bay → State → Answer} (h : P s) (ha : ∀ b, P (act b s).state) :
    P (onBay n act s).state := by
  unfold onBay
  split
  · exact ha _
  · exact h

theorem withField_keeps {P : State → Prop} {α : Type} {v : Option α} {act : α → State → Answer} (h : P s)
    (ha : ∀ x, P (act x s).state) : P (withField v act s).state := by
  cases v
  · exact h
  · exact ha _

/-- A request for a bay keeps what its owner keeps. -/
theorem LinkKeeps.takeBayRequest {P : State → Prop} (k : LinkKeeps P) {kind tag n : Byte} {act : Bay → State → Answer}
    (ha : ∀ b s, P s → P (act b s).state) (h : P s) : P (Machine.takeRequest kind tag (onBay n act) s) :=
  k.takeRequest (fun s hs => onBay_keeps hs fun b => ha b s hs) h

theorem restartNow_powerWf (h : s.PowerWf) : (restartNow s).PowerWf := by
  unfold restartNow
  split
  · exact h.softReset
  · exact h.congr (fun _ => rfl) rfl

/-- A restart keeps what its taking keeps. -/
theorem LinkKeeps.takeRestart {P : State → Prop} (k : LinkKeeps P) {tag : Byte} (ha : ∀ s, P s → P (restartNow s)) (h : P s) :
    P (takeRestart tag s) := by
  unfold Machine.takeRestart
  split
  · exact k.toHunt h
  · split
    · exact k.dropFrame (k.toHunt h)
    · exact ha _ (k.toHunt h)

theorem Part.ofPower_iff {p : Part} : p.ofPower = true ↔ p = .grant ∨ ∃ b, p = .sequencer b := by
  cases p <;> simp [Part.ofPower]

/-- A request that reaches neither a sequencer nor the grant queue keeps the invariant. -/
theorem State.PowerWf.takeAny_of_untouched {i : Instr} (h : s.PowerWf) (hg : mayTouch i .grant = false)
    (hs : ∀ b, mayTouch i (.sequencer b) = false) : (takeAny i s).PowerWf := by
  refine h.of_same fun p hp => takeAny_same i ?_
  obtain rfl | ⟨b, rfl⟩ := Part.ofPower_iff.mp hp
  · exact hg
  · exact hs b

theorem takeAny_powerWf (i : Instr) (hi : i.isRequest = true) (h : s.PowerWf) : (takeAny i s).PowerWf := by
  have k := linkKeeps_powerWf
  cases i with
  | statusBay tag scope => exact k.takeBayRequest (fun _ _ => statusBayAct_powerWf) h
  | restart tag => exact k.takeRestart (fun _ => restartNow_powerWf) h
  | powerOn tag bay => exact k.takeBayRequest (fun _ _ => powerOnAct_powerWf) h
  | powerOffSoft tag bay => exact k.takeBayRequest (fun _ _ => powerOffSoftAct_powerWf) h
  | powerOffHard tag bay => exact k.takeBayRequest (fun _ _ => powerOffHardAct_powerWf) h
  | powerCycle tag bay => exact k.takeBayRequest (fun _ _ => powerCycleAct_powerWf) h
  | powerReset tag bay => exact k.takeBayRequest (fun _ _ => powerResetAct_powerWf) h
  | powerClearFault tag bay => exact k.takeBayRequest (fun _ _ => powerClearFaultAct_powerWf) h
  | powerSet tag bay f => exact k.takeBayRequest (fun _ _ => powerSetAct_powerWf) h
  | budget tag budget delay => exact k.takeRequest (fun _ => budgetAct_powerWf) h
  | _ =>
    first
    | exact Bool.noConfusion hi
    | refine h.takeAny_of_untouched ?_ fun b => ?_ <;>
      simp [mayTouch, Part.ofBay, Part.accounting, Part.sending, Part.detecting, Part.moving, Part.flagging, Option.any_eq_false,
        Part.isMedium, Part.isFlags]

/-! ## Events -/

theorem exchange_powerWf {mosi : Byte} (h : s.PowerWf) : (exchange mosi s).PowerWf :=
  linkKeeps_powerWf.exchange (fun _ _ => takeAny_powerWf _) h

theorem monitorRequestTaken_powerWf (h : s.PowerWf) : Leads (execMonitorRequestTaken b s) State.PowerWf := by
  have hm : (s.modMonitor b fun m => { m with outstanding := none }).PowerWf :=
    h.congr (fun c => by simp) rfl
  have hseq : ((s.modMonitor b fun m => { m with outstanding := none }).slice b).sequencer = (s.slice b).sequencer := by simp
  unfold execMonitorRequestTaken
  dsimp only
  split
  · exact leads_next.mpr h
  · rw [leads_next]
    split
    case isTrue hon => exact hm.enterResetting (by simp_all)
    case isFalse => exact hm
  · rw [leads_next]
    split
    case isTrue hon => exact hm.enterHoldOff (by simp_all)
    case isFalse => exact hm

/-- PGOOD as seen is no part of the sequencers' agreement with the queue. -/
theorem pgood_powerWf {level v : Bool} (h : s.PowerWf) :
    (setFlagIf v b .senseChanged (s.modSeq b fun q => { q with pgood := level })).PowerWf := by
  obtain ⟨htimer, hpending, hpress⟩ := (h.agrees b).wf
  have hm : (s.modSeq b fun q => { q with pgood := level }).PowerWf :=
    h.modSeq (fun q => { q with pgood := level }) rfl ⟨htimer, hpending, hpress⟩
  exact hm.congr (fun _ => setFlagIf_sequencer _ _ _ _ _) (setFlagIf_grant _ _ _ _)

theorem pgoodChange_powerWf {level : Bool} (h : s.PowerWf) : Leads (execPgoodChange b level s) State.PowerWf := by
  have hs := pgood_powerWf (b := b) (level := level) (v := level != (s.slice b).sequencer.snapshotPgood) h
  have hst : ((setFlagIf (level != (s.slice b).sequencer.snapshotPgood) b .senseChanged
      (s.modSeq b fun q => { q with pgood := level })).slice b).sequencer.state = (s.slice b).sequencer.state := by simp
  unfold execPgoodChange
  refine Leads.ite (fun _ => leads_next.mpr h) fun _ => ?_
  dsimp only
  generalize setFlagIf (level != (s.slice b).sequencer.snapshotPgood) b .senseChanged
    (s.modSeq b fun q => { q with pgood := level }) = u at hs hst
  split
  case h_1 heq _ => exact leads_next.mpr (hs.reachOn (hst.trans heq)).attempt
  case h_2 heq _ => exact leads_next.mpr (hs.enterHoldOff (by simp [hst, heq]))
  case h_3 heq _ => exact leads_next.mpr (hs.serverStopped (.inl (hst.trans heq)))
  case h_4 heq _ => exact leads_next.mpr (hs.serverStopped (.inr (hst.trans heq)))
  case h_5 => exact leads_next.mpr hs

theorem btnSenseCheck_powerWf {v : Bool} (h : s.PowerWf) : (btnSenseCheck b v s).PowerWf :=
  h.congr (fun _ => setFlagIf_sequencer _ _ _ _ _) (setFlagIf_grant _ _ _ _)

theorem btnSenseChange_powerWf {level : Bool} (h : s.PowerWf) : Leads (execBtnSenseChange b level s) State.PowerWf := by
  obtain ⟨htimer, hpending, hpress⟩ := (h.agrees b).wf
  refine leads_next.mpr (btnSenseCheck_powerWf (h.modSeq _ ?_ ?_))
  · dsimp only
    split
    · split <;> rfl
    · rfl
  · dsimp only
    split
    · split
      · exact ⟨htimer, hpending, by simp⟩
      · exact ⟨htimer, hpending, hpress⟩
    · exact ⟨htimer, hpending, hpress⟩

theorem btnSenseMaskEnd_powerWf (h : s.PowerWf) : Leads (execBtnSenseMaskEnd b s) State.PowerWf := by
  obtain ⟨htimer, hpending, _⟩ := (h.agrees b).wf
  unfold execBtnSenseMaskEnd
  split
  · exact leads_next.mpr (btnSenseCheck_powerWf
      (h.modSeq (fun q => { q with buttonHold := none }) rfl ⟨htimer, hpending, by simp⟩))
  · exact leads_next.mpr h

/-- A bay whose timer is told to expire is in the timer's state. -/
theorem timing_state {st : SeqState} {tm : SeqTimer} (h : timing b st tm s = true) : (s.slice b).sequencer.state = st := by
  simp only [timing, Bool.and_eq_true, decide_eq_true_eq] at h
  exact h.1

theorem powerGoodTimerExpiry_powerWf (h : s.PowerWf) : Leads (execPowerGoodTimerExpiry b s) State.PowerWf := by
  refine leads_next_ite (fun ht => State.PowerWf.attempt ?_) h
  have hst := timing_state ht
  have hwf := (h.agrees b).wf
  obtain ⟨htimer, hpending, hpress⟩ := hwf.enter .fault none (by simp [hst]) (hwf.pendingOn_false (by simp [hst])) rfl
  refine h.released hst (fun c hc => ?_) (by simp) ?_ (by simp)
  · simp [State.slice_modSlice_ne _ _ _ _ hc, changeState_sequencer_ne _ _ _ hc]
  · simpa using ⟨htimer, hpending, hpress⟩

theorem resetPulseTimerExpiry_powerWf (h : s.PowerWf) : Leads (execResetPulseTimerExpiry b s) State.PowerWf := by
  refine leads_next_ite (fun ht => ?_) h
  have hst := timing_state ht
  have hwf := (h.agrees b).wf
  have hc : (changeState b .on none s).PowerWf :=
    h.changeState (by simp [hst]) (by simp) (hwf.enter .on none (by simp [hst]) (hwf.pendingOn_false (by simp [hst])) rfl)
  exact hc.congr (by simp) (by simp)

theorem buttonPressTimerExpiry_powerWf (h : s.PowerWf) : Leads (execButtonPressTimerExpiry b s) State.PowerWf := by
  refine leads_next_ite (fun ht => h.modSeq _ (Sequencer.pressEnd_state _) ?_) h
  have hst := timing_state ht
  have hp := (h.agrees b).wf.pendingOn_false (by simp [hst])
  refine ⟨?_, ?_, fun k hk hpress => ?_⟩
  · simp [hst, SeqState.runs]
  · simp [hp]
  · have := Sequencer.pressEnd_hold _ hk
    simp_all

theorem softStopWaitExpiry_powerWf (h : s.PowerWf) : Leads (execSoftStopWaitExpiry b s) State.PowerWf := by
  refine leads_next_ite (fun ht => ?_) h
  have hst := timing_state ht
  obtain ⟨htimer, hpending, hpress⟩ := (h.agrees b).wf
  have hm : (s.modSeq b fun q => { q with fault := .softStopTimeout }).PowerWf :=
    h.modSeq (fun q => { q with fault := .softStopTimeout }) rfl ⟨htimer, hpending, hpress⟩
  have hf : (setFlag b .powerFault (s.modSeq b fun q => { q with fault := .softStopTimeout })).PowerWf := hm.congr (by simp) (by simp)
  exact hf.enterHoldOff (by simp [hst])

theorem holdOffTimerExpiry_powerWf (h : s.PowerWf) : Leads (execHoldOffTimerExpiry b s) State.PowerWf := by
  have hwf := (h.agrees b).wf
  unfold execHoldOffTimerExpiry
  refine Leads.ite (fun ht => ?_) fun _ => leads_next.mpr h
  have hst := timing_state ht
  refine Leads.ite (fun _ => leads_next.mpr ?_) fun hp => leads_next.mpr ?_
  · have hm : (setPendingOn false b s).PowerWf := setPendingOn_powerWf h hst
    have hwf := (hm.agrees b).wf
    exact hm.joinQueue (by simp [hst]) (hwf.enter .queued none (by simp [hst]) (by simp) rfl)
  · have hc : (changeState b .off none s).PowerWf :=
      h.changeState (by simp [hst]) (by simp) (hwf.enter .off none (by simp [hst]) (by simpa using hp) rfl)
    exact hc.congr (by simp) (by simp)

theorem sagChange_powerWf {level : Bool} (h : s.PowerWf) : Leads (execSagChange level s) State.PowerWf := by
  have hs : (setPartFlag .sagChanged (s.modGrant fun g => { g with sag := level })).PowerWf :=
    ⟨h.sequencers, h.once, h.waiting, h.powering, h.sum, h.budget⟩
  unfold execSagChange
  refine Leads.ite (fun _ => leads_next.mpr h) fun _ => leads_next.mpr ?_
  split
  · exact hs
  · exact hs.attempt

theorem restoreDelayEnd_powerWf (h : s.PowerWf) : Leads (execRestoreDelayEnd s) State.PowerWf := by
  unfold execRestoreDelayEnd
  split
  · exact leads_next.mpr (State.PowerWf.attempt ⟨h.sequencers, h.once, h.waiting, h.powering, h.sum, h.budget⟩)
  · exact leads_next.mpr h

theorem storeWriteComplete_powerWf (h : s.PowerWf) : Leads (execStoreWriteComplete s) State.PowerWf := by
  unfold execStoreWriteComplete
  split
  · exact leads_next.mpr h
  · rw [leads_next]
    split
    · exact State.PowerWf.softReset (h.congr (fun _ => rfl) rfl)
    · exact h.congr (fun _ => rfl) rfl

theorem State.PowerWf.exec_of_untouched {i : Instr} (h : s.PowerWf) (hg : mayTouch i .grant = false)
    (hs : ∀ b, mayTouch i (.sequencer b) = false) : Leads (exec i s) State.PowerWf := by
  refine fun t ht => h.of_same fun p hp => exec_same i ?_ t ht
  obtain rfl | ⟨b, rfl⟩ := Part.ofPower_iff.mp hp
  · exact hg
  · exact hs b

theorem exec_event_powerWf (i : Instr) (hi : i.isRequest = false) (h : s.PowerWf) : Leads (exec i s) State.PowerWf := by
  cases i with
  | outgoingFrameStart mosi => exact leads_next_ite (fun _ => exchange_powerWf h) h
  | outgoingFrameEnd mosi => exact leads_next_ite (fun _ => exchange_powerWf h) h
  | byteExchange mosi => exact leads_next.mpr (exchange_powerWf h)
  | monitorRequestTaken bay => exact monitorRequestTaken_powerWf h
  | pgoodChange bay level => exact pgoodChange_powerWf h
  | btnSenseChange bay level => exact btnSenseChange_powerWf h
  | btnSenseMaskEnd bay => exact btnSenseMaskEnd_powerWf h
  | powerGoodTimerExpiry bay => exact powerGoodTimerExpiry_powerWf h
  | resetPulseTimerExpiry bay => exact resetPulseTimerExpiry_powerWf h
  | buttonPressTimerExpiry bay => exact buttonPressTimerExpiry_powerWf h
  | softStopWaitExpiry bay => exact softStopWaitExpiry_powerWf h
  | holdOffTimerExpiry bay => exact holdOffTimerExpiry_powerWf h
  | sagChange level => exact sagChange_powerWf h
  | restoreDelayEnd => exact restoreDelayEnd_powerWf h
  | storeWriteComplete => exact storeWriteComplete_powerWf h
  | coldReset pinAsserted =>
    refine leads_next.mpr ?_
    split
    · exact (coldReset_powerWf s).warmReset
    · exact coldReset_powerWf s
  | warmReset => exact Leads.ite (fun _ => leads_next.mpr h) fun _ => leads_next.mpr h.warmReset
  | _ =>
    first
    | exact Bool.noConfusion hi
    | exact h.exec_of_untouched rfl fun _ => rfl

/-- Every command keeps the power invariant. -/
theorem exec_powerWf (i : Instr) (s : State) (h : s.PowerWf) : Leads (exec i s) State.PowerWf := by
  by_cases hi : i.isRequest = true
  · rw [exec_request hi]
    exact leads_next.mpr (takeAny_powerWf i hi h)
  · exact exec_event_powerWf i (by simpa using hi) h

/-- Settles O57: a transition changes one bay's place in the agreement, and each of them leaves that bay in agreement again. -/
theorem stepKeepsThePower : Obligations.StepKeepsThePower := by
  unfold Obligations.StepKeepsThePower
  exact step_keeps (fun _ _ h => h.congr (fun _ => rfl) rfl) exec_powerWf

end Sys2Proof.Machine
end

section
/-! PROOFS. What the owner of a request answers (R166, R167): which parts of the link it never reaches, and that a refusal leaves the state
as it was. From it the statements of chapter 10 about the reply, the refusal, the judgement of a frame and the bounds of the link. -/

namespace Sys2Proof.Machine

variable {s : State} {p : Part} {b : Bay}

/-! ## Parts that no owner reaches -/

/-- The parts of the link that only the taking of frames and the sender reach. -/
def Part.unowned : Part → Bool
  | .frameReceiver | .replies | .outgoing | .hello | .linkErrors | .hold => true
  | _ => false

theorem Part.granting_of_unowned (h : p.unowned = true) : p.granting = false := by cases p <;> first | rfl | cases h

theorem Part.moving_of_unowned (h : p.unowned = true) : p.moving = false := by cases p <;> first | rfl | cases h

theorem Part.flagging_of_unowned (h : p.unowned = true) (b : Bay) : p.flagging b = false := by cases p <;> first | rfl | cases h

theorem Part.sending_of_unowned (h : p.unowned = true) (b : Bay) : p.sending b = false := by cases p <;> first | rfl | cases h

theorem Part.detecting_of_unowned (h : p.unowned = true) (b : Bay) : p.detecting b = false := by cases p <;> first | rfl | cases h

theorem Part.powering_of_unowned (h : p.unowned = true) (b : Bay) : p.powering b = false := by
  cases p <;> first | rfl | cases h

theorem Part.ne_of_unowned {q : Part} (h : p.unowned = true) (hq : q.unowned = false) : p ≠ q := by
  rintro rfl
  rw [h] at hq
  cases hq

/-! ## Owners -/

/-- An answer that is no OK is a refusal of the state as it was. -/
def Answer.Sound (a : Answer) (s : State) : Prop := a.code ≠ .ok → a = refuse a.code s

theorem sound_accept (t : State) (fields : List Byte) : (accept t fields).Sound s := fun h => absurd rfl h

theorem sound_refuse (c : ReplyCode) : (refuse c s).Sound s := fun _ => rfl

theorem sound_ite {c : Prop} [Decidable c] {x y : Answer} (hx : c → x.Sound s) (hy : ¬c → y.Sound s) :
    (if c then x else y).Sound s := by
  split
  · exact hx ‹_›
  · exact hy ‹_›

theorem sound_onBay {n : Byte} {act : Bay → State → Answer} (h : ∀ b, (act b s).Sound s) : (onBay n act s).Sound s := by
  unfold onBay
  split
  · exact h _
  · exact sound_refuse _

theorem sound_withField {α : Type} {v : Option α} {act : α → State → Answer} (h : ∀ x, (act x s).Sound s) :
    (withField v act s).Sound s := by
  cases v
  · exact sound_refuse _
  · exact h _

/-- What the owner of a request is like: the request is judged and then answered by it, it never reaches the taking and sending of frames,
and its refusals change nothing, but that FILL, FILL_FAIL and WRITE_DONE count theirs. -/
structure Answerer (i : Instr) (kind : Byte) (act : State → Answer) : Prop where
  taken : ∀ s, takeAny i s = takeRequest kind (requestTag i) act s
  same : ∀ s (p : Part), p.unowned = true → p.Same s (act s).state
  sound : (∀ tag id x g d, i ≠ .fill tag id x g d) → (∀ tag id, i ≠ .fillFail tag id) → (∀ tag id o, i ≠ .writeDone tag id o) →
    ∀ s, (act s).Sound s

/-- An owner whose refusals change nothing. -/
theorem Answerer.of_sound {i : Instr} {kind : Byte} {act : State → Answer} (taken : ∀ s, takeAny i s = takeRequest kind (requestTag i) act s)
    (same : ∀ s (p : Part), p.unowned = true → p.Same s (act s).state) (sound : ∀ s, (act s).Sound s) : Answerer i kind act :=
  ⟨taken, same, fun _ _ _ => sound⟩

/-- The owner of a request for a bay. -/
theorem Answerer.of_bay {i : Instr} {kind n : Byte} {act : Bay → State → Answer}
    (taken : ∀ s, takeAny i s = takeRequest kind (requestTag i) (onBay n act) s)
    (same : ∀ b s (p : Part), p.unowned = true → p.Same s (act b s).state) (sound : ∀ b s, (act b s).Sound s) :
    Answerer i kind (onBay n act) :=
  .of_sound taken (fun s p hp => onBay_same fun b _ => same b s p hp) fun s => sound_onBay fun b => sound b s

/-- The owner of a request for a bay with an enumerated or on/off field. -/
theorem Answerer.of_field {α : Type} {i : Instr} {kind n : Byte} {v : Option α} {act : α → Bay → State → Answer}
    (taken : ∀ s, takeAny i s = takeRequest kind (requestTag i) (withField v fun x => onBay n (act x)) s)
    (same : ∀ x b s (p : Part), p.unowned = true → p.Same s (act x b s).state) (sound : ∀ x b s, (act x b s).Sound s) :
    Answerer i kind (withField v fun x => onBay n (act x)) :=
  .of_sound taken (fun s p hp => withField_same fun x => onBay_same fun b _ => same x b s p hp)
    fun s => sound_withField fun x => sound_onBay fun b => sound x b s

/-! ### Console lines, rate units, histories and matchers -/

theorem exists_answerer_lineSet (tag line : Byte) (f : LineFields) : ∃ kind act, Answerer (.lineSet tag line f) kind act :=
  ⟨_, _, .of_sound (fun _ => rfl)
    (fun _ _ hp => withField_same fun _ => withField_same fun _ => withField_same fun _ => withField_same fun _ =>
      withField_same fun _ => withField_same fun _ => withField_same fun _ => onBay_same fun b _ =>
        lineSetAct_same (Part.ne_of_unowned hp rfl) (Part.ne_of_unowned hp rfl) (Part.sending_of_unowned hp b))
    fun _ => sound_withField fun _ => sound_withField fun _ => sound_withField fun _ => sound_withField fun _ =>
      sound_withField fun _ => sound_withField fun _ => sound_withField fun _ => sound_onBay fun _ => sound_accept _ _⟩

theorem sendAct_sound {d : Bool} {bytes : List Byte} : (sendAct d bytes b s).Sound s :=
  sound_ite (fun _ => sound_refuse _) fun _ => sound_accept _ _

theorem joinTx_sound {e : TxElement} : (joinTx e b s).Sound s := sound_ite (fun _ => sound_refuse _) fun _ => sound_accept _ _

theorem rateSetAct_sound {d : Bool} {n : Nat} : (rateSetAct d n b s).Sound s :=
  sound_ite (fun _ => sound_accept _ _) fun _ => sound_ite (fun _ => sound_accept _ _) fun _ => sound_refuse _

theorem rateModeAct_sound {m : LoopPolicy} : (rateModeAct m b s).Sound s := sound_ite (fun _ => sound_refuse _) fun _ => sound_accept _ _

theorem historySizeAct_sound {n : Nat} : (historySizeAct n b s).Sound s :=
  sound_ite (fun _ => sound_refuse _) fun _ => sound_ite (fun _ => sound_refuse _) fun _ => sound_accept _ _

theorem historyAct_sound {start : SeqNo} {n : Nat} : (historyAct start n b s).Sound s := by
  unfold historyAct
  dsimp only
  split
  · exact sound_refuse _
  · exact sound_accept _ _
  · exact sound_accept _ _

theorem attachAct_sound {form : StartForm} {start : SeqNo} {n : Nat} : (attachAct form start n b s).Sound s := by
  unfold attachAct
  dsimp only
  split
  · exact sound_accept _ _
  · exact sound_accept _ _
  · split
    · exact sound_accept _ _
    · exact sound_accept _ _
    · exact sound_refuse _

theorem creditAct_sound {n : Nat} : (creditAct n b s).Sound s := by
  unfold creditAct
  split
  · exact sound_refuse _
  · exact sound_accept _ _

theorem matchHeartbeatAct_sound {pattern : List Byte} : (matchHeartbeatAct pattern b s).Sound s :=
  sound_ite (fun _ => sound_refuse _) fun _ => sound_accept _ _

theorem exists_answerer_matchSetPrompt (tag line enable oneShot : Byte) (window : BitVec 16) (pattern response : List Byte) :
    ∃ kind act, Answerer (.matchSetPrompt tag line enable oneShot window pattern response) kind act :=
  ⟨_, _, .of_sound (fun _ => rfl)
    (fun _ _ hp => withField_same fun _ => withField_same fun _ => onBay_same fun _ _ => matchPromptAct_same (Part.ne_of_unowned hp rfl))
    fun _ => sound_withField fun _ => sound_withField fun _ => sound_onBay fun _ =>
      sound_ite (fun _ => sound_refuse _) fun _ => sound_accept _ _⟩

theorem exists_answerer_watchSet (tag bay : Byte) (f : WatchFields) : ∃ kind act, Answerer (.watchSet tag bay f) kind act :=
  ⟨_, _, .of_sound (fun _ => rfl)
    (fun _ _ hp => withField_same fun _ => withField_same fun _ => withField_same fun _ => onBay_same fun _ _ =>
      watchSetAct_same (Part.ne_of_unowned hp rfl))
    fun _ => sound_withField fun _ => sound_withField fun _ => sound_withField fun _ => sound_onBay fun _ => sound_accept _ _⟩

/-! ### Power, policy store, media and cache -/

theorem powerOnAct_sound : (powerOnAct b s).Sound s := by
  unfold powerOnAct
  split <;> first | exact sound_accept _ _ | exact sound_refuse _

theorem powerOffSoftAct_sound : (powerOffSoftAct b s).Sound s := by
  unfold powerOffSoftAct
  split <;> first | exact sound_accept _ _ | exact sound_refuse _

theorem powerOffHardAct_sound : (powerOffHardAct b s).Sound s := by
  unfold powerOffHardAct
  split <;> exact sound_accept _ _

theorem powerCycleAct_sound : (powerCycleAct b s).Sound s := by
  unfold powerCycleAct
  split <;> first | exact sound_accept _ _ | exact sound_refuse _

theorem powerResetAct_sound : (powerResetAct b s).Sound s := by
  unfold powerResetAct
  split <;> first | exact sound_accept _ _ | exact sound_refuse _

theorem powerClearFaultAct_sound : (powerClearFaultAct b s).Sound s := by
  unfold powerClearFaultAct
  split <;> first | exact sound_accept _ _ | exact sound_refuse _

theorem powerSetAct_sound {x : PowerSettings} : (powerSetAct x b s).Sound s :=
  sound_ite (fun _ => sound_refuse _) fun _ => sound_accept _ _

theorem budgetAct_sound {n d : Nat} : (budgetAct n d s).Sound s := sound_ite (fun _ => sound_refuse _) fun _ => sound_accept _ _

theorem storeAct_sound {r : Byte} {f : StoreFields} : (storeAct r f s).Sound s := by
  unfold storeAct
  split
  · exact sound_accept _ _
  · split
    · exact sound_withField fun _ => sound_accept _ _
    · exact sound_refuse _

theorem insertAct_sound {n : Nat} {w e : Bool} : (insertAct n w e b s).Sound s :=
  sound_ite (fun _ => sound_refuse _) fun _ => sound_ite (fun _ => sound_refuse _) fun _ => sound_accept _ _

theorem ejectAct_sound {force : Bool} : (ejectAct force b s).Sound s := sound_ite (fun _ => sound_refuse _) fun _ => sound_accept _ _

theorem exists_answerer_insert (tag bay : Byte) (c : BitVec 32) (w e : Byte) : ∃ kind act, Answerer (.insert tag bay c w e) kind act :=
  ⟨_, _, .of_sound (fun _ => rfl)
    (fun _ _ hp => withField_same fun _ => withField_same fun _ => onBay_same fun _ _ => insertAct_same (Part.ne_of_unowned hp rfl))
    fun _ => sound_withField fun _ => sound_withField fun _ => sound_onBay fun _ => insertAct_sound⟩

theorem exists_answerer_mask (tag scope : Byte) (marks : BitVec 24) : ∃ kind act, Answerer (.mask tag scope marks) kind act := by
  refine ⟨0x03, fun s => if scope = 0xFF then maskPartAct marks s else onBay scope (maskBayAct marks) s,
    .of_sound (fun _ => rfl) (fun s p hp => ?_)
      fun _ => sound_ite (fun _ => sound_accept _ _) fun _ => sound_onBay fun _ => sound_accept _ _⟩
  have hsum : p ≠ .summary := Part.ne_of_unowned hp rfl
  split
  · exact maskPartAct_same (Part.ne_of_unowned hp rfl) hsum
  · exact onBay_same fun _ _ => maskBayAct_same (Part.ne_of_unowned hp rfl) hsum

/-- STATUS for the part clears the part-level flags alone. -/
theorem statusPartAct_unowned (hp : p.unowned = true) : p.Same s (statusPartAct s).state := by
  cases p <;> first | exact ⟨rfl, rfl⟩ | exact ⟨rfl, rfl, rfl, rfl⟩ | exact rfl | cases hp

/-- Every request but RESTART has an owner that answers it. -/
theorem exists_answerer (i : Instr) (hi : i.isRequest = true) (hr : ∀ tag, i ≠ .restart tag) : ∃ kind act, Answerer i kind act := by
  cases i with
  | ident tag => exact ⟨_, _, .of_sound (fun _ => rfl) (fun s p _ => Part.Same.refl p s) fun s => sound_accept _ _⟩
  | statusBay tag scope =>
    exact ⟨_, _, .of_bay (fun _ => rfl) (fun b s p hp => statusBayAct_same (Part.ne_of_unowned hp rfl) (Part.ne_of_unowned hp rfl))
      fun b s => sound_accept _ _⟩
  | statusPart tag => exact ⟨_, _, .of_sound (fun _ => rfl) (fun s p hp => statusPartAct_unowned hp) fun s => sound_accept _ _⟩
  | mask tag scope marks => exact exists_answerer_mask tag scope marks
  | restart tag => exact absurd rfl (hr tag)
  | lineSet tag line f => exact exists_answerer_lineSet tag line f
  | send tag line drain bytes =>
    exact ⟨_, _, .of_field (fun _ => rfl) (fun _ b s p hp => sendAct_same (Part.sending_of_unowned hp b)) fun _ b s => sendAct_sound⟩
  | sendBreak tag line duration =>
    exact ⟨_, _, .of_bay (fun _ => rfl) (fun b s p hp => joinTx_same (Part.sending_of_unowned hp b)) fun b s => joinTx_sound⟩
  | rts tag line level =>
    exact ⟨_, _, .of_field (fun _ => rfl) (fun _ b s p hp => joinTx_same (Part.sending_of_unowned hp b)) fun _ b s => joinTx_sound⟩
  | rateSet tag line form value =>
    exact ⟨_, _, .of_field (fun _ => rfl) (fun _ b s p hp => rateSetAct_same (Part.ne_of_unowned hp rfl) (Part.ne_of_unowned hp rfl))
      fun _ b s => rateSetAct_sound⟩
  | rateMode tag line mode =>
    exact ⟨_, _, .of_field (fun _ => rfl) (fun _ b s p hp => rateModeAct_same (Part.ne_of_unowned hp rfl)) fun _ b s => rateModeAct_sound⟩
  | rateDetect tag line =>
    exact ⟨_, _, .of_bay (fun _ => rfl) (fun b s p hp => startDetection_same (Part.detecting_of_unowned hp b))
      fun b s => sound_accept _ _⟩
  | quality tag line clear =>
    exact ⟨_, _, .of_field (fun _ => rfl) (fun _ b s p hp => qualityAct_same (Part.ne_of_unowned hp rfl)) fun _ b s => sound_accept _ _⟩
  | historySize tag line pages =>
    exact ⟨_, _, .of_bay (fun _ => rfl) (fun b s p hp => historySizeAct_same (Part.ne_of_unowned hp rfl)) fun b s => historySizeAct_sound⟩
  | historyClear tag line =>
    exact ⟨_, _, .of_bay (fun _ => rfl) (fun b s p hp => modHistory_same (Part.ne_of_unowned hp rfl)) fun b s => sound_accept _ _⟩
  | history tag line start count =>
    exact ⟨_, _, .of_bay (fun _ => rfl) (fun b s p hp => historyAct_same) fun b s => historyAct_sound⟩
  | attach tag line form start credit =>
    exact ⟨_, _, .of_field (fun _ => rfl) (fun _ b s p hp => attachAct_same (Part.ne_of_unowned hp rfl)) fun _ b s => attachAct_sound⟩
  | credit tag line count =>
    exact ⟨_, _, .of_bay (fun _ => rfl) (fun b s p hp => creditAct_same (Part.ne_of_unowned hp rfl)) fun b s => creditAct_sound⟩
  | detach tag line =>
    exact ⟨_, _, .of_bay (fun _ => rfl) (fun b s p hp => detachAct_same (Part.ne_of_unowned hp rfl)) fun b s => sound_accept _ _⟩
  | matchSetHeartbeat tag line pattern =>
    exact ⟨_, _, .of_bay (fun _ => rfl) (fun b s p hp => matchHeartbeatAct_same (Part.ne_of_unowned hp rfl))
      fun b s => matchHeartbeatAct_sound⟩
  | matchSetPrompt tag line enable oneShot window pattern response => exact exists_answerer_matchSetPrompt tag line enable oneShot window pattern response
  | watchSet tag bay f => exact exists_answerer_watchSet tag bay f
  | watchClear tag bay =>
    exact ⟨_, _, .of_bay (fun _ => rfl) (fun b s p hp => watchClearAct_same (Part.ne_of_unowned hp rfl)) fun b s => sound_accept _ _⟩
  | powerOn tag bay =>
    exact ⟨_, _, .of_bay (fun _ => rfl) (fun b s p hp => powerOnAct_same (Part.granting_of_unowned hp) (Part.ne_of_unowned hp rfl))
      fun b s => powerOnAct_sound⟩
  | powerOffSoft tag bay =>
    exact ⟨_, _, .of_bay (fun _ => rfl) (fun b s p hp => powerOffSoftAct_same (Part.granting_of_unowned hp) (Part.ne_of_unowned hp rfl))
      fun b s => powerOffSoftAct_sound⟩
  | powerOffHard tag bay =>
    exact ⟨_, _, .of_bay (fun _ => rfl) (fun b s p hp => powerOffHardAct_same (Part.powering_of_unowned hp b) (Part.ne_of_unowned hp rfl))
      fun b s => powerOffHardAct_sound⟩
  | powerCycle tag bay =>
    exact ⟨_, _, .of_bay (fun _ => rfl) (fun b s p hp => powerCycleAct_same (Part.powering_of_unowned hp b) (Part.ne_of_unowned hp rfl))
      fun b s => powerCycleAct_sound⟩
  | powerReset tag bay =>
    exact ⟨_, _, .of_bay (fun _ => rfl) (fun b s p hp => powerResetAct_same (Part.ne_of_unowned hp rfl) (Part.ne_of_unowned hp rfl)
      (Part.ne_of_unowned hp rfl) (Part.flagging_of_unowned hp b)) fun b s => powerResetAct_sound⟩
  | powerClearFault tag bay =>
    exact ⟨_, _, .of_bay (fun _ => rfl) (fun b s p hp => powerClearFaultAct_same (Part.ne_of_unowned hp rfl) (Part.ne_of_unowned hp rfl)
      (Part.flagging_of_unowned hp b)) fun b s => powerClearFaultAct_sound⟩
  | powerSet tag bay f =>
    exact ⟨_, _, .of_bay (fun _ => rfl) (fun b s p hp => powerSetAct_same (Part.ne_of_unowned hp rfl)) fun b s => powerSetAct_sound⟩
  | budget tag budget delay =>
    exact ⟨_, _, .of_sound (fun _ => rfl) (fun s p hp => budgetAct_same (Part.granting_of_unowned hp)) fun s => budgetAct_sound⟩
  | store tag record f =>
    exact ⟨_, _, .of_sound (fun _ => rfl) (fun s p hp => storeAct_same (Part.ne_of_unowned hp rfl)) fun s => storeAct_sound⟩
  | insert tag bay capacity writable ejectOnPowerOff => exact exists_answerer_insert tag bay capacity writable ejectOnPowerOff
  | eject tag bay force =>
    exact ⟨_, _, .of_field (fun _ => rfl) (fun _ b s p hp => ejectAct_same (Part.moving_of_unowned hp) (Part.ne_of_unowned hp rfl)
      (Part.flagging_of_unowned hp b)) fun _ b s => ejectAct_sound⟩
  | cacheSet tag f =>
    exact ⟨_, _, .of_sound (fun _ => rfl) (fun s p hp => modCache_same (Part.ne_of_unowned hp rfl)) fun s => sound_accept _ _⟩
  | cacheQuery tag => exact ⟨_, _, .of_sound (fun _ => rfl) (fun s p _ => Part.Same.refl p s) fun s => sound_accept _ _⟩
  | fill tag id index generation data =>
    exact ⟨_, _, fun _ => rfl, fun s p hp => fillAct_same (Part.moving_of_unowned hp), fun h _ _ => absurd rfl (h tag id index generation data)⟩
  | fillFail tag id =>
    exact ⟨_, _, fun _ => rfl, fun s p hp => fillFailAct_same (Part.moving_of_unowned hp), fun _ h _ => absurd rfl (h tag id)⟩
  | writeDone tag id outcome =>
    refine ⟨_, _, fun _ => rfl, fun s p hp => withField_same fun _ => ?_, fun _ _ h => absurd rfl (h tag id outcome)⟩
    exact writeDoneAct_same (Part.moving_of_unowned hp) (by cases p <;> first | rfl | cases hp) (by cases p <;> first | rfl | cases hp)
      (Part.ne_of_unowned hp rfl)
  | undefinedRequest tag kind => exact ⟨_, _, .of_sound (fun _ => rfl) (fun s p _ => Part.Same.refl p s) fun s => sound_refuse _⟩
  | _ => exact Bool.noConfusion hi

/-! ## Requests taken, discarded and dropped -/

/-- The reply that a request taken leaves at the tail of the queue (R167). -/
theorem takeRequest_replies {kind tag : Byte} {act : State → Answer} (ht : takesRequest tag s)
    (hr : (act (toHunt s)).state.link.replies = s.link.replies) :
    (takeRequest kind tag act s).link.replies =
      s.link.replies ++ [⟨replyKind kind, tag, (act (toHunt s)).code.byte :: (act (toHunt s)).fields⟩] := by
  rw [takeRequest_taken act ht, pushReply, State.modLink_link, hr]

theorem Answerer.replies {i : Instr} {kind : Byte} {act : State → Answer} (h : Answerer i kind act) :
    (act (toHunt s)).state.link.replies = s.link.replies := h.same (toHunt s) .replies rfl

/-- Settles O8: the owner leaves the queue as it is, and its answer joins the tail. -/
theorem everyRequestIsReplied : Obligations.EveryRequestIsReplied := by
  unfold Obligations.EveryRequestIsReplied
  intro s t i hi hr ht he
  obtain ⟨kind, act, ha⟩ := exists_answerer i hi hr
  rw [exec_request hi] at he
  cases he
  exact ⟨_, _, _, by rw [ha.taken, takeRequest_replies ht ha.replies]⟩

theorem ReplyCode.byte_eq_zero_iff {c : ReplyCode} : c.byte = 0 ↔ c = .ok := by cases c <;> decide

/-- Settles O9: the reply that is seen is the owner's, and an owner that answers with another code than OK refuses the state as it was. -/
theorem refusedRequestChangesNothing : Obligations.RefusedRequestChangesNothing := by
  unfold Obligations.RefusedRequestChangesNothing
  intro s t i hi hr hfill hfail hdone ht he kind code fields hreplies hcode
  obtain ⟨k, act, ha⟩ := exists_answerer i hi hr
  rw [exec_request hi] at he
  cases he
  rw [ha.taken, takeRequest_replies ht ha.replies, List.append_cancel_left_eq] at hreplies
  obtain ⟨rfl, rfl, rfl⟩ : replyKind k = kind ∧ (act (toHunt s)).code.byte = code ∧ (act (toHunt s)).fields = fields := by
    simpa using hreplies
  have hs := ha.sound hfill hfail hdone (toHunt s) fun hok => hcode (ReplyCode.byte_eq_zero_iff.mpr hok)
  rw [ha.taken, takeRequest_refused ht hs]

/-! ## Drops -/

/-- Under the hold or a pending restart every request is discarded (R164, R166). -/
theorem takeAny_discarded {i : Instr} (hi : i.isRequest = true) (h : s.link.hold = true ∨ s.policy.restartPending = true) :
    takeAny i s = toHunt s := by
  by_cases hr : ∀ tag, i ≠ .restart tag
  · obtain ⟨kind, act, ha⟩ := exists_answerer i hi hr
    rw [ha.taken]
    exact judgeFrame_discarded _ h
  · push Not at hr
    obtain ⟨tag, rfl⟩ := hr
    exact if_pos (by simpa using h)

/-- Every request with tag 0 is dropped (R166). -/
theorem takeAny_zero {i : Instr} (hi : i.isRequest = true) (h : s.link.hold = false) (h' : s.policy.restartPending = false)
    (ht : requestTag i = 0) : takeAny i s = dropFrame .tag (toHunt s) := by
  by_cases hr : ∀ tag, i ≠ .restart tag
  · obtain ⟨kind, act, ha⟩ := exists_answerer i hi hr
    rw [ha.taken, ht]
    exact judgeFrame_zero _ h h'
  · push Not at hr
    obtain ⟨tag, rfl⟩ := hr
    change takeRestart tag s = _
    unfold takeRestart
    rw [if_neg (by simp [h, h'])]
    exact if_pos ht

/-- Every request but RESTART that finds four replies queued is dropped (R166). -/
theorem takeAny_full {i : Instr} (hi : i.isRequest = true) (hr : ∀ tag, i ≠ .restart tag) (h : s.link.hold = false)
    (h' : s.policy.restartPending = false) (ht : requestTag i ≠ 0) (hf : 4 ≤ s.link.replies.length) :
    takeAny i s = dropFrame .overflow (toHunt s) := by
  obtain ⟨kind, act, ha⟩ := exists_answerer i hi hr
  rw [ha.taken]
  exact judgeFrame_full _ h h' ht hf

/-- Settles O7: the drops by their causes, and the judgement of R166 for every request through its owner. -/
theorem framesAreDroppedAndJudged : Obligations.FramesAreDroppedAndJudged := by
  unfold Obligations.FramesAreDroppedAndJudged
  refine ⟨fun s hold hrestart => ?_, fun s i hi => ?_⟩
  · have hdrop (c : DropCause) (hc : c = .overflow → 4 ≤ s.link.replies.length) :
        exec (.linkFrameDropped c) s = .next (dropFrame c (toHunt s)) := by
      change execLinkFrameDropped c s = _
      unfold execLinkFrameDropped
      cases c <;> simp_all [Config.replyMax]
    exact ⟨hdrop _ nofun, hdrop _ nofun, hdrop _ nofun, fun hf => hdrop _ fun _ => hf⟩
  · rw [exec_request hi]
    exact ⟨fun h => congrArg _ (takeAny_discarded hi h), fun h h' ht => congrArg _ (takeAny_zero hi h h' ht),
      fun h h' ht hf hr => congrArg _ (takeAny_full hi hr h h' ht hf)⟩

end Sys2Proof.Machine
end

section
/-! PROOFS. The bounds of the link (R169, R177): what requests, drops and resets keep of them, and the byte exchange, in the middle of which
a frame may have been sent to its end. -/

namespace Sys2Proof.Machine

variable {s t : State} {n : Nat}

/-- The link in its bounds, with a frame in flight that may lack up to `n` bytes of having some left: 0 between commands, 1 in the exchange
that sends a frame's last byte. -/
structure Link.Within (n : Nat) (l : Link) : Prop where
  replies : l.replies.length ≤ 4
  counters : l.checkErrors ≤ 65535 ∧ l.lengthErrors ≤ 65535 ∧ l.tagErrors ≤ 65535 ∧ l.overflowErrors ≤ 65535
  unfinished : ∀ o, l.outgoing = some o → o.sent < o.bytes.length + n
  replying : ∀ o, l.outgoing = some o → o.origin = .reply → l.replies ≠ []

theorem Link.within_zero {l : Link} : l.Within 0 ↔ l.Wf :=
  ⟨fun ⟨h1, h2, h3, h4⟩ => ⟨h1, h2, h3, h4⟩, fun ⟨h1, h2, h3, h4⟩ => ⟨h1, h2, h3, h4⟩⟩

theorem Link.Within.of_same (h : s.link.Within n) (hr : (Part.replies).Same s t) (he : (Part.linkErrors).Same s t)
    (ho : (Part.outgoing).Same s t) : t.link.Within n := by
  obtain ⟨h1, h2, h3, h4⟩ := h
  obtain ⟨e1, e2, e3, e4⟩ := he
  obtain ⟨ho, _⟩ := ho
  refine ⟨?_, ?_, ?_, ?_⟩
  · rw [show t.link.replies = s.link.replies from hr]
    exact h1
  · rw [e1, e2, e3, e4]
    exact h2
  · rw [ho]
    exact h3
  · rw [ho, show t.link.replies = s.link.replies from hr]
    exact h4

/-! ## Requests -/

theorem bump_le (n : Nat) : bump n ≤ 65535 := Nat.min_le_right _ _

theorem dropFrame_within (c : DropCause) (h : s.link.Within n) : (dropFrame c s).link.Within n := by
  obtain ⟨h1, ⟨e1, e2, e3, e4⟩, h3, h4⟩ := h
  refine ⟨?_, ?_, ?_, ?_⟩ <;> cases c
  all_goals first | exact h1 | exact h3 | exact h4 | skip
  · exact ⟨e1, bump_le _, e3, e4⟩
  · exact ⟨bump_le _, e2, e3, e4⟩
  · exact ⟨e1, e2, bump_le _, e4⟩
  · exact ⟨e1, e2, e3, bump_le _⟩

theorem receiverKeeps_within : ReceiverKeeps fun s => s.link.Within n where
  set _ _ h := ⟨h.replies, h.counters, h.unfinished, h.replying⟩
  drop c _ h := dropFrame_within c h

theorem toHunt_within (h : s.link.Within n) : (toHunt s).link.Within n := receiverKeeps_within.set .hunt s h

/-- A reply joins a queue that has room. -/
theorem pushReply_within {kind tag : Byte} {a : Answer} (h : a.state.link.Within n) (hroom : a.state.link.replies.length < 4) :
    (pushReply kind tag a).link.Within n where
  replies := by
    simp only [pushReply, State.modLink_link, List.length_append, List.length_singleton]
    omega
  counters := h.counters
  unfinished := h.unfinished
  replying := by simp [pushReply]

theorem softReset_within (h : s.link.Within n) : (softReset s).link.Within n := ⟨Nat.zero_le _, h.counters, nofun, nofun⟩

theorem restartNow_within (h : s.link.Within n) : (restartNow s).link.Within n := by
  unfold restartNow
  split
  · exact softReset_within h
  · exact h

theorem takeRestart_within {tag : Byte} (h : s.link.Within n) : (takeRestart tag s).link.Within n := by
  unfold takeRestart
  split
  · exact toHunt_within h
  · split
    · exact dropFrame_within _ (toHunt_within h)
    · exact restartNow_within (toHunt_within h)

theorem takeAny_within (i : Instr) (hi : i.isRequest = true) (h : s.link.Within n) : (takeAny i s).link.Within n := by
  by_cases hr : ∀ tag, i ≠ .restart tag
  · obtain ⟨kind, act, ha⟩ := exists_answerer i hi hr
    rw [ha.taken]
    unfold takeRequest judgeFrame
    have ht := toHunt_within h
    split
    · exact ht
    · split
      · exact dropFrame_within _ ht
      · split
        · exact dropFrame_within _ ht
        · refine pushReply_within (ht.of_same (ha.same _ _ rfl) (ha.same _ _ rfl) (ha.same _ _ rfl)) ?_
          rw [ha.replies]
          exact Nat.lt_of_not_le ‹_›
  · push Not at hr
    obtain ⟨tag, rfl⟩ := hr
    exact takeRestart_within h

/-! ## The byte exchange -/

theorem wire_length_pos (f : Frame) : 0 < f.wire.length := by simp [Frame.wire]

/-- A frame starts with every byte left, and a reply that starts stands in the queue. -/
theorem startFrame_within {o : Origin} {f : Frame} (h : s.link.Within 0) (hr : o = .reply → s.link.replies ≠ []) :
    (startFrame o f s).link.Within 0 where
  replies := h.replies
  counters := h.counters
  unfinished := by
    rintro _ ⟨⟩
    exact wire_length_pos f
  replying := by
    rintro _ ⟨⟩ ho
    exact hr ho

theorem startRecordNotice_within (h : s.link.Within 0) : (startRecordNotice s).link.Within 0 := by
  unfold startRecordNotice
  split
  · exact startFrame_within h nofun
  · exact startFrame_within h nofun
  · unfold startConsole
    split
    · exact h
    · exact startFrame_within h nofun
  · exact h

theorem arbitrate_within (h : s.link.Within 0) : (arbitrate s).link.Within 0 := by
  unfold arbitrate
  split
  · exact startFrame_within h nofun
  · split
    case h_1 r rest hq => exact startFrame_within h fun _ => by simp [hq]
    case h_2 =>
      split
      · exact startFrame_within ⟨h.replies, h.counters, h.unfinished, h.replying⟩ nofun
      · exact startRecordNotice_within h

theorem sendByte_within (h : s.link.Within 0) : (sendByte s).link.Within 1 := by
  unfold sendByte
  split
  case h_1 hn => exact ⟨h.replies, h.counters, by simp [hn], by simp [hn]⟩
  case h_2 o ho =>
    refine ⟨h.replies, h.counters, ?_, ?_⟩
    · rintro _ ⟨⟩
      have := h.unfinished o ho
      dsimp only
      omega
    · rintro _ ⟨⟩ horigin
      exact h.replying o ho horigin

/-- The end of a frame leaves none in flight that is sent to its end. -/
theorem endFrame_within (h : s.link.Within 1) : (endFrame s).link.Within 0 := by
  unfold endFrame
  split
  case h_1 hn => exact ⟨h.replies, h.counters, by simp [hn], by simp [hn]⟩
  case h_2 o ho =>
    split
    case isTrue =>
      have hdrop : (s.link.replies.drop 1).length ≤ 4 := by
        rw [List.length_drop]
        exact (Nat.sub_le _ _).trans h.replies
      unfold handBack
      cases o.origin <;> first | exact ⟨h.replies, h.counters, nofun, nofun⟩ | exact ⟨hdrop, h.counters, nofun, nofun⟩
    case isFalse hlt =>
      refine ⟨h.replies, h.counters, fun o' ho' => ?_, h.replying⟩
      obtain rfl : o = o' := Option.some_inj.mp (ho.symm.trans ho')
      omega

theorem rxByte_within {x : Byte} (h : s.link.Within n) : (rxByte x s).link.Within n :=
  receiverKeeps_within.rxByte (fun _ _ => takeAny_within _) h

theorem exchange_within {mosi : Byte} (h : s.link.Within 0) : (exchange mosi s).link.Within 0 := by
  unfold exchange
  split
  · exact ⟨h.replies, h.counters, h.unfinished, h.replying⟩
  · have hs : (sendByte (if s.link.outgoing.isNone then arbitrate s else s)).link.Within 1 := by
      split
      · exact sendByte_within (arbitrate_within h)
      · exact sendByte_within h
    dsimp only
    generalize sendByte (if s.link.outgoing.isNone then arbitrate s else s) = u at hs
    split
    · have hf : Link.Within 1 { u with freeIndex := u.freeIndex + 1 }.link := hs
      split
      · exact rxByte_within (endFrame_within hf)
      · exact endFrame_within (rxByte_within hf)
    case isFalse hend =>
      refine rxByte_within ⟨hs.replies, hs.counters, fun o ho => ?_, hs.replying⟩
      simpa [sentToEnd, ho] using hend

/-! ## Steps -/

theorem linkFrameDropped_within {c : DropCause} (h : s.link.Within 0) : Leads (execLinkFrameDropped c s) fun t => t.link.Within 0 := by
  have hd (c : DropCause) : (dropFrame c (toHunt s)).link.Within 0 := dropFrame_within c (toHunt_within h)
  unfold execLinkFrameDropped
  refine Leads.ite (fun _ => leads_next.mpr (toHunt_within h)) fun _ => ?_
  cases c with
  | length => exact leads_next.mpr (hd _)
  | check => exact leads_next.mpr (hd _)
  | tag => exact Leads.ite (fun _ => leads_next.mpr (toHunt_within h)) fun _ => leads_next.mpr (hd _)
  | overflow =>
    exact Leads.ite (fun _ => leads_next.mpr (toHunt_within h)) fun _ =>
      Leads.ite (fun _ => leads_next.mpr (hd _)) fun _ => leads_next.mpr h

theorem coldReset_within (s : State) : (coldReset s).link.Within 0 := by
  have hcold : (coldBlocks s).link.Within 0 := 
    ⟨Nat.zero_le _, ⟨Nat.zero_le _, Nat.zero_le _, Nat.zero_le _, Nat.zero_le _⟩, nofun, nofun⟩
  have h (p : Part) (hp : p.granting = false) : p.Same (coldBlocks s) (startRestoreDelay ((List.finRange 8).foldl restoreBay (coldBlocks s))) :=
    (restoreAll_same hp _ _).trans (startRestoreDelay_same hp)
  obtain ⟨h1, h2, h3, h4⟩ := hcold.of_same (h .replies rfl) (h .linkErrors rfl) (h .outgoing rfl)
  unfold coldReset
  generalize startRestoreDelay ((List.finRange 8).foldl restoreBay (coldBlocks s)) = u at h1 h2 h3 h4
  exact ⟨h1, h2, h3, h4⟩

theorem warmReset_within (h : s.link.Within 0) : (warmReset s).link.Within 0 := ⟨Nat.zero_le _, h.counters, nofun, nofun⟩

theorem storeWriteComplete_within (h : s.link.Within 0) : Leads (execStoreWriteComplete s) fun t => t.link.Within 0 := by
  unfold execStoreWriteComplete
  split
  · exact leads_next.mpr h
  · rw [leads_next]
    have hs (f : PartFlag) (g : PolicyStore → PolicyStore) : (setPartFlag f (s.modPolicy g)).link.Within 0 :=
      ⟨h.replies, h.counters, h.unfinished, h.replying⟩
    split
    · exact softReset_within (hs _ _)
    · exact hs _ _

theorem exec_event_within (i : Instr) (hi : i.isRequest = false) (h : s.link.Within 0) : Leads (exec i s) fun t => t.link.Within 0 := by
  cases i with
  | linkFrameDropped cause => exact linkFrameDropped_within h
  | outgoingFrameStart mosi => exact leads_next_ite (fun _ => exchange_within h) h
  | outgoingFrameEnd mosi => exact leads_next_ite (fun _ => exchange_within h) h
  | byteExchange mosi => exact leads_next.mpr (exchange_within h)
  | storeWriteComplete => exact storeWriteComplete_within h
  | coldReset pinAsserted =>
    refine leads_next.mpr ?_
    split
    · exact warmReset_within (coldReset_within s)
    · exact coldReset_within s
  | warmReset => exact Leads.ite (fun _ => leads_next.mpr h) fun _ => leads_next.mpr (warmReset_within h)
  | _ =>
    first
    | exact Bool.noConfusion hi
    | exact fun t ht => h.of_same (exec_same _ rfl t ht) (exec_same _ rfl t ht) (exec_same _ rfl t ht)

/-- Settles O54: between commands every frame in flight has bytes left, and the exchange that sends its last one also ends it. -/
theorem stepKeepsTheLink : Obligations.StepKeepsTheLink := by
  unfold Obligations.StepKeepsTheLink
  intro s t h ht
  refine Link.within_zero.mp (step_keeps (P := fun s => s.link.Within 0) (fun _ _ h => h) (fun i s h => ?_) s t (Link.within_zero.mpr h) ht)
  by_cases hi : i.isRequest = true
  · rw [exec_request hi]
    exact leads_next.mpr (takeAny_within i hi h)
  · exact exec_event_within i (by simpa using hi) h

end Sys2Proof.Machine
end

section
/-! PROOFS. What the transitions of the sequencers keep (chapters 5 and 6), and what the receiver and its consumers keep (chapters 1 to 4), each
in terms of the changes they are made of. -/

namespace Sys2Proof.Machine

variable {P : State → Prop} {s : State} {b : Bay}

/-! ## Transitions of the sequencers -/

/-- `P` is kept by what a transition of a sequencer is made of (R79, R95 to R98, R104). -/
structure PowerKeeps (P : State → Prop) : Prop where
  seq : ∀ s b f, P s → P (s.modSeq b f)
  grant : ∀ s f, P s → P (s.modGrant f)
  flag : ∀ s b f, P s → P (setFlag b f s)
  responder : ∀ s b f, P s → P (s.modResponder b f)
  suspend : ∀ s own b, P s → P (suspendMonitor own b s)
  reach : ∀ s b, P s → P (s.modMonitor b Monitor.reachOn)
  taken : ∀ s b, P s → P (s.modMonitor b fun m => { m with outstanding := none })
  detect : ∀ s b, P s → P (startDetection b s)
  media : ∀ s b, P s → P (mediaPowerLoss b s)
  policy : ∀ s f, P s → P (s.modPolicy f)

namespace PowerKeeps

theorem changeState (k : PowerKeeps P) {st : SeqState} {tm : Option (SeqTimer × Nat)} (h : P s) : P (changeState b st tm s) :=
  k.flag _ _ _ (k.seq _ _ _ h)

theorem disarm (k : PowerKeeps P) (h : P s) : P (disarmResponder b s) :=
  k.responder s b (fun r => { r with armed := none, j := 0 }) h

theorem leaveOn (k : PowerKeeps P) {own : Bool} (h : P s) : P (leaveOn own b s) := k.suspend _ _ _ (k.disarm h)

theorem setPendingOn (k : PowerKeeps P) {v : Bool} (h : P s) : P (setPendingOn v b s) :=
  k.seq s b (fun q => { q with pendingOn := v }) h

theorem losePower (k : PowerKeeps P) {own : Bool} (h : P s) : P (losePower own b s) := k.leaveOn (k.media _ _ h)

theorem reachOnEffects (k : PowerKeeps P) (h : P s) : P (reachOnEffects b s) := k.reach _ _ (k.responder _ _ _ h)

theorem release (k : PowerKeeps P) (h : P s) : P (release b s) := k.grant _ _ h

theorem reachOn (k : PowerKeeps P) (h : P s) : P (reachOn b s) := by
  have hs : P (Machine.reachOnEffects b (Machine.release b (Machine.changeState b .on none s))) :=
    k.reachOnEffects (k.release (k.changeState h))
  unfold Machine.reachOn
  dsimp only
  split
  · exact k.detect _ _ hs
  · exact hs

theorem grantHead (k : PowerKeeps P) {rest : List Bay} (h : P s) : P (grantHead b rest s) := by
  have hs := k.changeState (b := b) (st := .powering) (tm := some (.powerGood, (s.slice b).sequencer.settings.powerGood))
    (k.grant s (fun g => { g with queue := rest, granted := g.granted.set b (some (effectiveWeight b s)) }) h)
  unfold Machine.grantHead
  dsimp only
  split
  · exact k.reachOn hs
  · exact hs

theorem attemptFrom (k : PowerKeeps P) (q : List Bay) : ∀ s, P s → P (attemptFrom q s) := by
  induction q with
  | nil => exact fun s h => h
  | cons b rest ih =>
    intro s h
    unfold Machine.attemptFrom
    split
    · exact ih _ (k.grantHead h)
    · exact h

theorem attempt (k : PowerKeeps P) (h : P s) : P (attempt s) := k.attemptFrom _ _ h

theorem joinQueue (k : PowerKeeps P) (h : P s) : P (joinQueue b s) := by
  have hs := k.grant _ (fun g => { g with queue := g.queue ++ [b] }) (k.changeState (b := b) (st := .queued) (tm := none) h)
  unfold Machine.joinQueue
  dsimp only
  split
  · exact k.attempt hs
  · exact hs

theorem leaveQueue (k : PowerKeeps P) (h : P s) : P (leaveQueue b s) := by
  have hs := k.suspend _ false b (k.grant _ (fun g => { g with queue := g.queue.filter fun x => x ≠ b })
    (k.changeState (b := b) (st := .off) (tm := none) h))
  unfold Machine.leaveQueue
  dsimp only
  split
  · exact k.attempt hs
  · exact hs

theorem enterHoldOff (k : PowerKeeps P) {own v : Bool} (h : P s) : P (enterHoldOff own v b s) := by
  rw [enterHoldOff_eq]
  have hs := k.losePower (own := own) (b := b) (k.seq _ b (fun q => { q.pressEnd with pendingOn := v })
    (k.changeState (b := b) (st := .holdOff) (tm := some (.holdOff, (s.slice b).sequencer.settings.holdOff)) h))
  split
  · exact k.attempt (k.release hs)
  · exact hs

theorem enterResetting (k : PowerKeeps P) {own : Bool} (h : P s) : P (enterResetting own b s) := k.leaveOn (k.changeState h)

theorem enterSoftStopping (k : PowerKeeps P) (h : P s) : P (enterSoftStopping b s) := k.leaveOn (k.seq _ _ _ (k.changeState h))

theorem serverStopped (k : PowerKeeps P) (h : P s) : P (serverStopped b s) := k.losePower (k.flag _ _ _ (k.changeState h))

theorem powerDone (k : PowerKeeps P) {on : Bool} (h : P s) : P (powerDone on b s).state := by
  show P (setLastCommanded on b s)
  unfold setLastCommanded
  exact k.policy _ _ h

theorem powerOnAct (k : PowerKeeps P) (h : P s) : P (powerOnAct b s).state := by
  unfold Machine.powerOnAct
  split
  · exact k.powerDone (k.joinQueue h)
  · exact k.powerDone h
  · exact k.powerDone h
  · exact k.powerDone h
  · exact h
  · exact h
  · exact k.powerDone (k.setPendingOn h)
  · exact h

theorem powerOffSoftAct (k : PowerKeeps P) (h : P s) : P (powerOffSoftAct b s).state := by
  unfold Machine.powerOffSoftAct
  split
  · exact k.powerDone h
  · exact k.powerDone h
  · exact k.powerDone (k.leaveQueue h)
  · exact h
  · exact h
  · exact k.powerDone (k.enterSoftStopping h)
  · exact k.powerDone (k.setPendingOn h)
  · exact h

theorem powerOffHardAct (k : PowerKeeps P) (h : P s) : P (powerOffHardAct b s).state := by
  unfold Machine.powerOffHardAct
  split
  case h_1 => exact k.powerDone h
  case h_2 => exact k.powerDone (k.leaveQueue h)
  case h_7 => exact k.powerDone (k.setPendingOn h)
  case h_8 => exact k.powerDone (k.suspend _ _ _ (k.changeState h))
  all_goals exact k.powerDone (k.enterHoldOff h)

theorem powerCycleAct (k : PowerKeeps P) (h : P s) : P (powerCycleAct b s).state := by
  unfold Machine.powerCycleAct
  split
  · exact k.powerDone (k.joinQueue h)
  · exact k.powerDone h
  · exact h
  · exact h
  · exact h
  · exact k.powerDone (k.enterHoldOff h)
  · exact k.powerDone (k.setPendingOn h)
  · exact h

theorem powerResetAct (k : PowerKeeps P) (h : P s) : P (powerResetAct b s).state := by
  unfold Machine.powerResetAct
  split
  case h_7 => exact k.enterResetting h
  all_goals exact h

theorem powerClearFaultAct (k : PowerKeeps P) (h : P s) : P (powerClearFaultAct b s).state := by
  unfold Machine.powerClearFaultAct
  split
  · exact k.suspend _ _ _ (k.changeState h)
  · exact h

theorem budgetAct (k : PowerKeeps P) {n d : Nat} (h : P s) : P (budgetAct n d s).state := by
  unfold Machine.budgetAct
  dsimp only
  split
  · exact h
  · exact k.attempt (k.grant _ _ h)

theorem monitorRequestTaken (k : PowerKeeps P) (h : P s) : Leads (execMonitorRequestTaken b s) P := by
  have hs := k.taken _ b h
  unfold execMonitorRequestTaken
  dsimp only
  split
  · exact leads_next.mpr h
  · rw [leads_next]
    split
    · exact k.enterResetting hs
    · exact hs
  · rw [leads_next]
    split
    · exact k.enterHoldOff hs
    · exact hs

theorem flagIf (k : PowerKeeps P) {v : Bool} {f : BayFlag} (h : P s) : P (setFlagIf v b f s) := by
  unfold setFlagIf
  split
  · exact k.flag _ _ _ h
  · exact h

theorem pgoodChange (k : PowerKeeps P) {level : Bool} (h : P s) : Leads (execPgoodChange b level s) P := by
  have hs : P (setFlagIf (level != (s.slice b).sequencer.snapshotPgood) b .senseChanged
      (s.modSeq b fun q => { q with pgood := level })) := k.flagIf (k.seq _ _ _ h)
  unfold execPgoodChange
  refine Leads.ite (fun _ => leads_next.mpr h) fun _ => ?_
  dsimp only
  split
  · exact leads_next.mpr (k.attempt (k.reachOn hs))
  · exact leads_next.mpr (k.enterHoldOff hs)
  · exact leads_next.mpr (k.serverStopped hs)
  · exact leads_next.mpr (k.serverStopped hs)
  · exact leads_next.mpr hs

theorem powerGoodTimerExpiry (k : PowerKeeps P) (h : P s) : Leads (execPowerGoodTimerExpiry b s) P :=
  leads_next_ite (fun _ => k.attempt (k.release (k.losePower (k.flag _ _ _ (k.seq _ _ _ (k.changeState h)))))) h

theorem resetPulseTimerExpiry (k : PowerKeeps P) (h : P s) : Leads (execResetPulseTimerExpiry b s) P :=
  leads_next_ite (fun _ => k.reachOnEffects (k.changeState h)) h

theorem softStopWaitExpiry (k : PowerKeeps P) (h : P s) : Leads (execSoftStopWaitExpiry b s) P :=
  leads_next_ite (fun _ => k.enterHoldOff (k.flag _ _ _ (k.seq _ _ _ h))) h

theorem holdOffTimerExpiry (k : PowerKeeps P) (h : P s) : Leads (execHoldOffTimerExpiry b s) P := by
  unfold execHoldOffTimerExpiry
  refine Leads.ite (fun _ => ?_) fun _ => leads_next.mpr h
  exact Leads.ite (fun _ => leads_next.mpr (k.joinQueue (k.setPendingOn h))) fun _ =>
    leads_next.mpr (k.suspend _ _ _ (k.changeState h))

theorem sagChange (k : PowerKeeps P) (hpart : ∀ s f, P s → P (setPartFlag f s)) {level : Bool} (h : P s) :
    Leads (execSagChange level s) P := by
  have hs : P (setPartFlag .sagChanged (s.modGrant fun g => { g with sag := level })) := hpart _ _ (k.grant _ _ h)
  unfold execSagChange
  refine Leads.ite (fun _ => leads_next.mpr h) fun _ => leads_next.mpr ?_
  split
  · exact hs
  · exact k.attempt hs

theorem restoreDelayEnd (k : PowerKeeps P) (h : P s) : Leads (execRestoreDelayEnd s) P := by
  unfold execRestoreDelayEnd
  split
  · exact leads_next.mpr (k.attempt (k.grant _ _ h))
  · exact leads_next.mpr h

/-- What a cold reset keeps, once its blocks have their cold values (R163). -/
theorem coldReset (k : PowerKeeps P) (hlink : ∀ s v, P s → P (s.modLink fun l => { l with hold := v })) (h : P (coldBlocks s)) :
    P (coldReset s) := by
  have hall (bs : List Bay) : ∀ t, P t → P (bs.foldl restoreBay t) := by
    induction bs with
    | nil => exact fun t ht => ht
    | cons b rest ih =>
      refine fun t ht => ih _ ?_
      unfold restoreBay
      split
      · exact k.grant _ _ (k.changeState ht)
      · exact ht
  refine hlink _ _ ?_
  unfold startRestoreDelay
  split
  · exact k.attempt (k.grant _ _ (hall _ _ h))
  · exact k.grant _ _ (hall _ _ h)

end PowerKeeps

/-! ## The receiver and its consumers -/

/-- `P` is kept by what an entry, a low period and a detection of a line are made of (R5, R6, R26). -/
structure ReceiveKeeps (P : State → Prop) (b : Bay) : Prop where
  line : ∀ s f, (∀ l : Line, (f l).config = l.config ∧ (f l).queue = l.queue ∧ (f l).rate = l.rate) → P s → P (s.modLine b f)
  flag : ∀ s f, P s → P (setFlag b f s)
  append : ∀ s e, P s → P (s.modHistory b fun h => h.append e)
  heartbeat : ∀ s f, P s → P (s.modHeartbeat b f)
  responder : ∀ s f, P s → P (s.modResponder b f)
  respond : ∀ s (bytes : List Byte), bytes.length ≤ (s.slice b).line.free → P s → P (appendTx b (bytes.map .data) s)
  start : ∀ s, P s → P (startTx b s)
  beat : ∀ s, P s → P (heartbeatMatch b s)
  activity : ∀ s, P s → P (outputActivity b s)
  window : ∀ s w, P s → P (s.modRate b fun r => { r with window := w })
  close : ∀ s w, P s → P (closeWindow b w s)
  detect : ∀ s, P s → P (startDetection b s)
  track : ∀ s len c, P s → P (trackingPulse b len c s)
  pulse : ∀ s d, P s → P (s.modRate b fun r => { r with detection := some d })
  conclude : ∀ s w q c, P s → P (evaluateDetection b w q c s)

namespace ReceiveKeeps

theorem disarm (k : ReceiveKeeps P b) (h : P s) : P (disarmResponder b s) :=
  k.responder s (fun r => { r with armed := none, j := 0 }) h

theorem promptMatch (k : ReceiveKeeps P b) (h : P s) : P (promptMatch b s) := by
  unfold Machine.promptMatch
  dsimp only
  refine k.start _ (k.responder _ _ (k.disarm ?_))
  split
  case isTrue hfits => exact k.flag _ _ (k.respond _ _ hfits h)
  case isFalse => exact k.flag _ _ h

theorem presentToPrompt (k : ReceiveKeeps P b) {e : HistoryEntry} (h : P s) : P (presentToPrompt b e s) := by
  unfold Machine.presentToPrompt
  dsimp only
  split
  · split
    · exact k.promptMatch (k.responder _ _ h)
    · exact k.responder _ _ h
  · exact h

theorem presentToHeartbeat (k : ReceiveKeeps P b) {e : HistoryEntry} (h : P s) : P (presentToHeartbeat b e s) := by
  unfold Machine.presentToHeartbeat
  dsimp only
  split
  · exact k.beat _ (k.heartbeat _ _ h)
  · exact k.heartbeat _ _ h

theorem presentToMonitor (k : ReceiveKeeps P b) {e : HistoryEntry} (h : P s) : P (presentToMonitor b e s) := by
  unfold Machine.presentToMonitor
  split
  · exact k.activity _ h
  · exact h

theorem presentToWindow (k : ReceiveKeeps P b) {e : EntryKind} (h : P s) : P (presentToWindow b e s) := by
  unfold Machine.presentToWindow
  dsimp only
  split
  · unfold redetectCheck
    dsimp only
    split
    · exact k.detect _ (k.flag _ _ (k.close _ _ h))
    · exact k.close _ _ h
  · exact k.window _ _ h

theorem handEntry (k : ReceiveKeeps P b) {e : HistoryEntry} (h : P s) : P (handEntry b e s) :=
  k.presentToWindow (k.presentToMonitor (k.presentToPrompt (k.presentToHeartbeat (k.append _ _ h))))

theorem judgeBreak (k : ReceiveKeeps P b) {len c : Nat} {d : Bool} (h : P s) : P (judgeBreak b len c d s) := by
  unfold Machine.judgeBreak
  split
  · exact k.handEntry h
  · split
    · exact k.handEntry h
    · exact h

theorem detectionPulse (k : ReceiveKeeps P b) {len : Nat} {d : Detection} (h : P s) : P (detectionPulse b len d s) := by
  unfold Machine.detectionPulse
  split
  · exact h
  · dsimp only
    split
    · exact k.conclude _ _ _ _ (k.activity _ (k.pulse _ _ h))
    · exact k.activity _ (k.pulse _ _ h)

theorem risePulse (k : ReceiveKeeps P b) {len : Nat} (h : P s) : P (risePulse b len s) := by
  have hs : P (s.modLine b fun l => { l with lowPeriod := none }) := k.line _ _ (fun _ => ⟨rfl, rfl, rfl⟩) h
  have hr : P ((s.modLine b fun l => { l with lowPeriod := none }).modLine b fun l => { l with receiver := l.receiver.rise }) :=
    k.line _ _ (fun _ => ⟨rfl, rfl, rfl⟩) hs
  unfold Machine.risePulse
  dsimp only
  split
  · exact k.detectionPulse hs
  · exact hs
  · split
    · exact hr
    · exact k.judgeBreak (k.track _ _ _ hr)

theorem characterReceived (k : ReceiveKeeps P b) {data : Byte} {parity stop : Bool} (h : P s) :
    Leads (execCharacterReceived b data parity stop s) P := by
  have hr (r : Receiver) : P (s.modLine b fun l => { l with receiver := r }) := k.line _ _ (fun _ => ⟨rfl, rfl, rfl⟩) h
  unfold execCharacterReceived
  split
  · rw [leads_next]
    split
    · exact h
    · unfold takeCharacter
      dsimp only
      split
      · exact k.handEntry (hr _)
      · split
        · exact hr _
        · exact k.handEntry (hr _)
  · exact leads_next.mpr h

theorem lowPulseEnd (k : ReceiveKeeps P b) {internal : Bool} {len : Nat} (h : P s) : Leads (execLowPulseEnd b internal len s) P := by
  have hs : P (if internal then s else s.modLine b fun l => { l with conRx := true }) := by
    split
    · exact h
    · exact k.line _ _ (fun _ => ⟨rfl, rfl, rfl⟩) h
  unfold execLowPulseEnd
  exact Leads.ite (fun _ => leads_next.mpr h) fun _ =>
    Leads.ite (fun _ => leads_next.mpr (k.risePulse hs)) fun _ => leads_next.mpr hs

end ReceiveKeeps

end Sys2Proof.Machine
end

section
/-! PROOFS. Every step keeps the lines, the rate units and the hang monitors in their ranges (chapters 1, 2 and 4). -/

namespace Sys2Proof.Machine

variable {s t : State} {b : Bay} {l m : Line}

/-! ## Lines -/

/-- Every line is in its ranges. -/
def LinesWf (s : State) : Prop := ∀ b, (s.slice b).line.Wf

theorem Line.Wf.congr (h : l.Wf) (hc : m.config = l.config) (hq : m.queue = l.queue) : m.Wf :=
  ⟨hc ▸ h.config, hq ▸ h.queue, hq ▸ h.breaks⟩

/-- A queue within its bounds (R8, R14). -/
def QueueWf (q : List TxElement) : Prop := q.length ≤ 256 ∧ ∀ d, TxElement.brk d ∈ q → 1 ≤ d ∧ d ≤ 255

theorem Line.Wf.queueWf (h : l.Wf) : QueueWf l.queue := ⟨h.queue, h.breaks⟩

theorem QueueWf.tail {e : TxElement} {q : List TxElement} (h : QueueWf (e :: q)) : QueueWf q :=
  ⟨by have := h.1; simp at this; omega, fun d hd => h.2 d (List.mem_cons_of_mem _ hd)⟩

theorem LinesWf.of_same (h : LinesWf s) (hp : ∀ b, (Part.lineConfig b).Same s t ∧ (Part.transmit b).Same s t) : LinesWf t :=
  fun b => (h b).congr (hp b).1 (hp b).2.1

theorem LinesWf.modSlice (h : LinesWf s) {f : Slice → Slice} (hf : (s.slice b).line.Wf → (f (s.slice b)).line.Wf) :
    LinesWf (s.modSlice b f) := by
  intro c
  by_cases hc : c = b
  · subst hc
    rw [State.slice_modSlice_self]
    exact hf (h c)
  · rw [State.slice_modSlice_ne _ _ _ _ hc]
    exact h c

theorem LinesWf.modLine {f : Line → Line} (h : LinesWf s) (hf : (s.slice b).line.Wf → (f (s.slice b).line).Wf) : LinesWf (s.modLine b f) :=
  LinesWf.modSlice (f := fun x => { x with line := f x.line }) h hf

theorem LinesWf.setFlag {f : BayFlag} (h : LinesWf s) : LinesWf (setFlag b f s) :=
  h.of_same fun _ => ⟨setFlag_same rfl, setFlag_same rfl⟩

theorem LinesWf.ctsCheck (h : LinesWf s) : LinesWf (ctsCheck b s) := by
  unfold Machine.ctsCheck setFlagIf
  dsimp only
  have hm : LinesWf (s.modLine b fun l => { l with ctsRef := (s.slice b).line.seenCts }) := h.modLine fun hl => hl.congr rfl rfl
  split
  · exact hm.setFlag
  · exact hm

theorem LinesWf.drainCheck (h : LinesWf s) : LinesWf (drainCheck b s) := by
  unfold Machine.drainCheck
  dsimp only
  split
  · exact LinesWf.setFlag (h.modLine fun hl => hl.congr rfl rfl)
  · exact h

/-- Elements leave a queue within its bounds one by one (R9). -/
theorem LinesWf.startFrom (q : List TxElement) : ∀ s, LinesWf s → QueueWf q → LinesWf (startFrom b q s) := by
  induction q with
  | nil => exact fun _ h _ => h
  | cons e rest ih =>
    intro s h hq
    have hset (f : Line → Line) (hc : ∀ l, (f l).config = l.config) (hqueue : ∀ l, (f l).queue = rest) : LinesWf (s.modLine b f) :=
      h.modLine fun hl => ⟨by rw [hc]; exact hl.config, by rw [hqueue]; exact hq.tail.1, by rw [hqueue]; exact hq.tail.2⟩
    unfold Machine.startFrom
    dsimp only
    split
    · cases e with
      | data v => exact hset _ (fun _ => rfl) fun _ => rfl
      | brk d => exact hset _ (fun _ => rfl) fun _ => rfl
      | rts level =>
        have hm : LinesWf (s.modLine b fun l => { l with queue := rest, rts := level }) := hset _ (fun _ => rfl) fun _ => rfl
        exact ih _ hm.ctsCheck.drainCheck hq.tail
    · exact h

theorem LinesWf.startTx (h : LinesWf s) : LinesWf (startTx b s) := by
  unfold Machine.startTx
  split
  · exact LinesWf.startFrom _ _ h (h b).queueWf
  · exact h

/-- What fits in the queue may join it (R8, R14). -/
theorem LinesWf.appendTx {els : List TxElement} (h : LinesWf s) (hfit : els.length ≤ (s.slice b).line.free)
    (hb : ∀ d, TxElement.brk d ∈ els → 1 ≤ d ∧ d ≤ 255) : LinesWf (appendTx b els s) := by
  refine h.modLine (f := fun l => { l with queue := l.queue ++ els }) fun hl => ⟨hl.config, ?_, fun d hd => ?_⟩
  · have := hl.queue
    simp only [Line.free, Config.txQueueMax] at hfit
    simp only [List.length_append]
    omega
  · rcases List.mem_append.mp hd with hd | hd
    · exact hl.breaks d hd
    · exact hb d hd

theorem brk_not_mem_map_data (bytes : List Byte) (d : Nat) : TxElement.brk d ∉ bytes.map .data := by simp

theorem LinesWf.sendAct {drain : Bool} {bytes : List Byte} (h : LinesWf s) : LinesWf (sendAct drain bytes b s).state := by
  unfold Machine.sendAct
  split
  · exact h
  · have hm : LinesWf (s.modLine b fun l => { l with drainMark := drain }) := h.modLine fun hl => hl.congr rfl rfl
    refine (hm.appendTx ?_ fun d hd => absurd hd (brk_not_mem_map_data _ d)).startTx
    simp [Line.free]

theorem LinesWf.joinTx {e : TxElement} (h : LinesWf s) (he : ∀ d, e = .brk d → 1 ≤ d ∧ d ≤ 255) : LinesWf (joinTx e b s).state := by
  unfold Machine.joinTx
  dsimp only
  split
  case isTrue => exact h
  case isFalse hfree =>
    refine (h.appendTx ?_ fun d hd => he d ?_).startTx
    · rw [List.length_singleton]
      omega
    · simpa using (List.mem_singleton.mp hd).symm

theorem LinesWf.completeTx (h : LinesWf s) : LinesWf (completeTx b s) :=
  LinesWf.startTx (LinesWf.drainCheck (h.modLine fun hl => hl.congr rfl rfl))

theorem LinesWf.lineSetAct {c : LineConfig} (h : LinesWf s) (hc : c.Wf) : LinesWf (lineSetAct c b s).state := by
  unfold Machine.lineSetAct
  refine LinesWf.startTx (LinesWf.ctsCheck (h.modLine fun hl => ?_))
  split <;> exact ⟨hc, hl.queue, hl.breaks⟩

theorem receiveKeeps_linesWf (b : Bay) : ReceiveKeeps LinesWf b where
  line s f hf h := h.modLine fun hl => hl.congr (hf _).1 (hf _).2.1
  flag s f h := h.setFlag
  append s e h := h.modSlice id
  heartbeat s f h := h.modSlice id
  responder s f h := h.modSlice id
  respond s bytes hfit h := h.appendTx (by simpa using hfit) fun d hd => absurd hd (brk_not_mem_map_data _ d)
  start s h := h.startTx
  beat s h := h.of_same fun _ => ⟨heartbeatMatch_same nofun, heartbeatMatch_same nofun⟩
  activity s h := h.of_same fun _ => ⟨outputActivity_same nofun, outputActivity_same nofun⟩
  window s w h := h.modLine fun hl => hl.congr rfl rfl
  close s w h := LinesWf.setFlag (h.modLine fun hl => hl.congr rfl rfl)
  detect s h := h.of_same fun _ => ⟨startDetection_same rfl, startDetection_same rfl⟩
  track s len c h := h.of_same fun _ => ⟨trackingPulse_same nofun rfl, trackingPulse_same nofun rfl⟩
  pulse s d h := h.modLine fun hl => hl.congr rfl rfl
  conclude s w q c h := h.of_same fun _ => ⟨evaluateDetection_same nofun nofun rfl, evaluateDetection_same nofun nofun rfl⟩

theorem linkKeeps_linesWf : LinkKeeps LinesWf := LinkKeeps.of_same fun _ _ hst h => h.of_same fun _ => ⟨hst _ rfl, hst _ rfl⟩

theorem LinesWf.controllerReset {causes : BitVec 4} {v : Bool} (h : LinesWf s) : LinesWf (controllerReset causes v s) := by
  intro b
  rw [controllerReset_slice]
  exact ⟨(h b).config, by simp [Slice.afterReset, Line.afterReset], by simp [Slice.afterReset, Line.afterReset]⟩

theorem LinesWf.warmReset (h : LinesWf s) : LinesWf (warmReset s) :=
  LinesWf.controllerReset (h.of_same fun _ => ⟨rfl, rfl, rfl, rfl, rfl⟩)

theorem coldBlocks_linesWf (s : State) : LinesWf (coldBlocks s) := by
  intro b
  rw [coldBlocks_slice]
  refine ⟨?_, by simp [Line.cold], by simp [Line.cold]⟩
  exact (show LineConfig.Wf {} from ⟨by decide, by decide, by decide, by decide, by decide⟩)

/-- The restore of a cold reset reaches no line's configuration or queue. -/
theorem coldReset_linesWf (s : State) : LinesWf (coldReset s) := by
  have hl (p : Part) (hp : p.granting = false) (hh : p ≠ .hold) : p.Same (coldBlocks s) (coldReset s) := by
    unfold coldReset
    refine ((restoreAll_same hp (List.finRange 8) _).trans (startRestoreDelay_same hp)).trans ?_
    generalize startRestoreDelay _ = u
    cases p <;> simp_all [Part.Same]
  exact (coldBlocks_linesWf s).of_same fun b => ⟨hl _ rfl nofun, hl _ rfl nofun⟩

theorem LinesWf.restartNow (h : LinesWf s) : LinesWf (restartNow s) := by
  unfold Machine.restartNow
  split
  · exact h.controllerReset
  · exact h

theorem LinesWf.takeAny_of_untouched {i : Instr} (h : LinesWf s) (hc : ∀ b, mayTouch i (.lineConfig b) = false)
    (ht : ∀ b, mayTouch i (.transmit b) = false) : LinesWf (takeAny i s) :=
  h.of_same fun b => ⟨takeAny_same i (hc b), takeAny_same i (ht b)⟩

theorem lineSet_linesWf {tag line : Byte} {f : LineFields} (h : LinesWf s) : LinesWf (takeLineSet tag line f s) := by
  refine linkKeeps_linesWf.takeRequest (fun s hs => ?_) h
  iterate 7 refine withField_keeps hs fun _ => ?_
  refine onBay_keeps hs fun b => hs.lineSetAct ?_
  have := f.errorThreshold.isLt
  constructor <;> simp only [clamp] <;> omega

theorem takeAny_linesWf (i : Instr) (hi : i.isRequest = true) (h : LinesWf s) : LinesWf (takeAny i s) := by
  have k := linkKeeps_linesWf
  cases i with
  | lineSet tag line f => exact lineSet_linesWf h
  | send tag line drain bytes =>
    exact k.takeRequest (fun s hs => withField_keeps hs fun _ => onBay_keeps hs fun _ => hs.sendAct) h
  | sendBreak tag line duration =>
    refine k.takeBayRequest (fun b s hs => hs.joinTx fun d hd => ?_) h
    simp only [TxElement.brk.injEq, clamp] at hd
    omega
  | rts tag line level =>
    exact k.takeRequest (fun s hs => withField_keeps hs fun _ => onBay_keeps hs fun _ => hs.joinTx nofun) h
  | restart tag => exact k.takeRestart (fun _ => LinesWf.restartNow) h
  | _ =>
    first
    | exact Bool.noConfusion hi
    | refine h.takeAny_of_untouched (fun b => ?_) fun b => ?_ <;>
      simp [mayTouch, Part.ofBay, Part.accounting, Part.detecting, Part.moving, Part.flagging, Part.granting,
        Part.powering, Option.any_eq_false, Part.isMedium, Part.isFlags]

theorem storeWriteComplete_keeps {P : State → Prop} (hflag : ∀ s f, P s → P (setPartFlag f s)) (hpolicy : ∀ s f, P s → P (s.modPolicy f))
    (hreset : ∀ s, P s → P (softReset s)) (h : P s) : Leads (execStoreWriteComplete s) P := by
  unfold execStoreWriteComplete
  split
  · exact leads_next.mpr h
  · rw [leads_next]
    have hs := fun f => hflag _ PartFlag.storeDone (hpolicy _ f h)
    split
    · exact hreset _ (hs _)
    · exact hpolicy _ _ (hs _)

theorem LinesWf.exec_of_untouched {i : Instr} (h : LinesWf s) (hc : ∀ b, mayTouch i (.lineConfig b) = false)
    (ht : ∀ b, mayTouch i (.transmit b) = false) : Leads (exec i s) LinesWf :=
  fun t hst => h.of_same fun b => ⟨exec_same i (hc b) t hst, exec_same i (ht b) t hst⟩

theorem exec_event_linesWf (i : Instr) (hi : i.isRequest = false) (h : LinesWf s) : Leads (exec i s) LinesWf := by
  have hx (mosi : Byte) : LinesWf (exchange mosi s) := linkKeeps_linesWf.exchange (fun _ _ => takeAny_linesWf _) h
  cases i with
  | outgoingFrameStart mosi => exact leads_next_ite (fun _ => hx mosi) h
  | outgoingFrameEnd mosi => exact leads_next_ite (fun _ => hx mosi) h
  | byteExchange mosi => exact leads_next.mpr (hx mosi)
  | characterReceived bay data parity stop => exact (receiveKeeps_linesWf bay).characterReceived h
  | lowPulseEnd bay internal len => exact (receiveKeeps_linesWf bay).lowPulseEnd h
  | ctsChange bay level => exact leads_next.mpr (LinesWf.startTx (LinesWf.ctsCheck (h.modLine fun hl => hl.congr rfl rfl)))
  | txBreakLowEnd bay =>
    refine fun t ht => ?_
    change execTxBreakLowEnd bay s = _ at ht
    unfold execTxBreakLowEnd at ht
    split at ht <;> cases ht
    · exact h.modLine fun hl => hl.congr rfl rfl
    · exact h
  | txElementComplete bay =>
    refine fun t ht => ?_
    change execTxElementComplete bay s = _ at ht
    unfold execTxElementComplete at ht
    split at ht <;> cases ht
    · exact h.completeTx
    · exact h.completeTx
    · exact h
  | storeWriteComplete =>
    exact storeWriteComplete_keeps (fun _ _ hs => linkKeeps_linesWf.setPartFlag hs) (fun _ _ hs => hs) (fun _ hs => hs.controllerReset) h
  | coldReset pinAsserted =>
    refine leads_next.mpr ?_
    split
    · exact (coldReset_linesWf s).warmReset
    · exact coldReset_linesWf s
  | warmReset => exact Leads.ite (fun _ => leads_next.mpr h) fun _ => leads_next.mpr h.warmReset
  | _ =>
    first
    | exact Bool.noConfusion hi
    | exact h.exec_of_untouched (fun _ => rfl) fun _ => rfl

/-- A property that every request and every event keeps, every command keeps. -/
theorem exec_keeps {P : State → Prop} (hreq : ∀ i s, i.isRequest = true → P s → P (takeAny i s))
    (hev : ∀ i s, i.isRequest = false → P s → Leads (exec i s) P) (i : Instr) (s : State) (h : P s) : Leads (exec i s) P := by
  by_cases hi : i.isRequest = true
  · rw [exec_request hi]
    exact leads_next.mpr (hreq i s hi h)
  · exact hev i s (by simpa using hi) h

theorem step_linesWf : ∀ s t : State, LinesWf s → step s = .next t → LinesWf t :=
  step_keeps (fun _ _ h => h) (exec_keeps (fun i _ hi => takeAny_linesWf i hi) fun i _ hi => exec_event_linesWf i hi)

end Sys2Proof.Machine
end

section
/-! PROOFS. Every step keeps the rate units and the hang monitors in their ranges (chapters 2 and 4). -/

namespace Sys2Proof.Machine

variable {s t : State} {b : Bay} {r u : RateUnit} {m : Monitor}

/-! ## Rate units -/

/-- Every rate unit is in its ranges. -/
def RatesWf (s : State) : Prop := ∀ b, (s.slice b).line.rate.Wf

theorem RatesWf.of_same (h : RatesWf s) (hp : ∀ b, (Part.rate b).Same s t) : RatesWf t := fun b => (hp b).symm ▸ h b

theorem RatesWf.modSlice (h : RatesWf s) {f : Slice → Slice} (hf : (s.slice b).line.rate.Wf → (f (s.slice b)).line.rate.Wf) :
    RatesWf (s.modSlice b f) := by
  intro c
  by_cases hc : c = b
  · subst hc
    rw [State.slice_modSlice_self]
    exact hf (h c)
  · rw [State.slice_modSlice_ne _ _ _ _ hc]
    exact h c

theorem RatesWf.modLine {f : Line → Line} (h : RatesWf s) (hf : (s.slice b).line.rate.Wf → (f (s.slice b).line).rate.Wf) :
    RatesWf (s.modLine b f) :=
  RatesWf.modSlice (f := fun x => { x with line := f x.line }) h hf

theorem RatesWf.modRate {f : RateUnit → RateUnit} (h : RatesWf s) (hf : (s.slice b).line.rate.Wf → (f (s.slice b).line.rate).Wf) :
    RatesWf (s.modRate b f) :=
  RatesWf.modLine (f := fun l => { l with rate := f l.rate }) h hf

theorem RatesWf.setFlag {f : BayFlag} (h : RatesWf s) : RatesWf (setFlag b f s) := h.of_same fun _ => setFlag_same rfl

/-- The lock, its divisor, accumulator, drift mark, mode and index are what the invariant speaks of. -/
theorem RateUnit.Wf.congr (h : r.Wf) (hn : u.divisor = r.divisor) (hl : u.lock = r.lock) (ha : u.acc = r.acc) (hd : u.drift = r.drift)
    (hm : u.mode = r.mode) (hi : u.index = r.index) : u.Wf :=
  ⟨hl ▸ h.lock, hl ▸ hn ▸ h.divisor, ha ▸ h.acc, hl ▸ hd ▸ hn ▸ h.lower, hl ▸ hd ▸ hn ▸ h.upper, hl ▸ hn ▸ hm ▸ ha ▸ hd ▸ h.manual,
    hl ▸ hi ▸ h.index⟩

/-- A unit at its lock, with A 0 and no drift mark (R30, R38). -/
theorem RateUnit.wf_of_lock (hl : 32 ≤ r.lock ∧ r.lock ≤ 1048575) (hn : r.divisor = r.lock) (ha : r.acc = 0) (hd : r.drift = .none)
    (hi : r.index = 255 ∨ (r.index ≤ 10 ∧ Config.divisorTable[r.index]? = some r.lock)) : r.Wf where
  lock := hl
  divisor := by omega
  acc := by omega
  lower := by simp [hd]
  upper := by simp [hd]
  manual := fun _ => ⟨hn, ha, hd⟩
  index := hi

/-- Each table entry is a lock (R22, R24). -/
theorem divisorTable_range (i : Fin 11) : 32 ≤ Config.divisorTable.getD i.val 0 ∧ Config.divisorTable.getD i.val 0 ≤ 1048575 ∧
    Config.divisorTable[i.val]? = some (Config.divisorTable.getD i.val 0) := by
  revert i
  decide

/-- A lock to a table entry is in range, with its index. -/
theorem tableLock {i : Nat} (h : i < Config.divisorTable.length) :
    (32 ≤ Config.divisorTable.getD i 0 ∧ Config.divisorTable.getD i 0 ≤ 1048575) ∧
    (i = 255 ∨ (i ≤ 10 ∧ Config.divisorTable[i]? = some (Config.divisorTable.getD i 0))) := by
  have hi : i < 11 := h
  obtain ⟨hlow, hhigh, hget⟩ := divisorTable_range ⟨i, hi⟩
  exact ⟨⟨hlow, hhigh⟩, .inr ⟨by omega, hget⟩⟩

theorem nearestFrom_fst_lt (w : Nat) (l : List Nat) : ∀ (i : Nat) (best : Nat × Nat), best.1 < i → (nearestFrom w l i best).1 < i + l.length := by
  induction l with
  | nil => exact fun i best h => h
  | cons n rest ih =>
    intro i best h
    rw [nearestFrom_cons]
    have hb : (if ppmDistance w n < best.2 then (i, ppmDistance w n) else best).1 < i + 1 := by
      split
      · exact Nat.lt_succ_self i
      · omega
    have := ih (i + 1) _ hb
    rw [List.length_cons]
    omega

theorem nearestEntry_fst_lt (w : Nat) : (nearestEntry w).1 < Config.divisorTable.length :=
  nearestFrom_fst_lt w _ 1 (0, _) Nat.one_pos

/-! ### Stepping (R33, R34) -/

/-- B within the tracking bounds, the drift mark at the bound it names (R33, R34). -/
structure Stepping.Wf (lo hi : Nat) (x : Stepping) : Prop where
  divisor : lo ≤ x.b ∧ x.b ≤ hi
  lower : x.drift = .lower → x.b = lo
  upper : x.drift = .upper → x.b = hi

/-- A stepping that has ended, with A within its range (R33). -/
def Stepping.Done (lo hi : Nat) (x : Stepping) : Prop := x.Wf lo hi ∧ -255 ≤ x.a ∧ x.a ≤ 255

theorem driftAfter_wf {lo hi n : Nat} {d : DriftMark} :
    (driftAfter lo hi n d = .lower → n = lo) ∧ (driftAfter lo hi n d = .upper → n = hi) := by
  cases d
  · exact ⟨nofun, nofun⟩
  · simp only [driftAfter]
    split <;> simp_all
  · simp only [driftAfter]
    split <;> simp_all

theorem stepUp_done {lo hi : Nat} (n : Nat) : ∀ x : Stepping, x.Wf lo hi → 0 ≤ x.a - 256 * n → x.a - 256 * n ≤ 255 →
    (stepUp lo hi n x).Done lo hi := by
  induction n with
  | zero => exact fun x h h0 h1 => ⟨h, by simp [stepUp] at *; omega, by simp [stepUp] at *; omega⟩
  | succ n ih =>
    intro x h h0 h1
    obtain ⟨hlo, hhi⟩ := h.divisor
    unfold stepUp
    split
    · exact ⟨⟨h.divisor, nofun, fun _ => by dsimp only; omega⟩, by simp⟩
    · refine ih _ ⟨⟨?_, ?_⟩, driftAfter_wf.1, driftAfter_wf.2⟩ ?_ ?_ <;> push_cast at * <;> omega

theorem stepDown_done {lo hi : Nat} (n : Nat) : ∀ x : Stepping, x.Wf lo hi → x.a + 256 * n ≤ 0 → -255 ≤ x.a + 256 * n →
    (stepDown lo hi n x).Done lo hi := by
  induction n with
  | zero => exact fun x h h0 h1 => ⟨h, by simp [stepDown] at *; omega, by simp [stepDown] at *; omega⟩
  | succ n ih =>
    intro x h h0 h1
    obtain ⟨hlo, hhi⟩ := h.divisor
    unfold stepDown
    split
    · exact ⟨⟨h.divisor, fun _ => by dsimp only; omega, nofun⟩, by simp⟩
    · refine ih _ ⟨⟨?_, ?_⟩, driftAfter_wf.1, driftAfter_wf.2⟩ ?_ ?_ <;> push_cast at * <;> omega

theorem stepDivisor_done {lo hi : Nat} {x : Stepping} (h : x.Wf lo hi) : (stepDivisor lo hi x).Done lo hi := by
  unfold stepDivisor
  split
  · exact stepUp_done _ _ h (by omega) (by omega)
  · exact stepDown_done _ _ h (by omega) (by omega)

theorem RatesWf.trackingPulse {len c : Nat} (h : RatesWf s) : RatesWf (trackingPulse b len c s) := by
  unfold Machine.trackingPulse
  dsimp only
  split
  · exact h
  · split
    · exact h.modRate fun hr => hr.congr rfl rfl rfl rfl rfl rfl
    · split
      · exact h
      case isFalse hmanual _ _ =>
        obtain ⟨hlock, hdivisor, _, hlower, hupper, _, hindex⟩ := h b
        have hd := stepDivisor_done (lo := trackMin (s.slice b).line.rate.lock) (hi := trackMax (s.slice b).line.rate.lock)
          (x := ⟨(s.slice b).line.rate.divisor, (s.slice b).line.rate.acc + ((len : Int) -
            (wholeBits len (s.slice b).line.rate.divisor * (s.slice b).line.rate.divisor : Nat)), (s.slice b).line.rate.drift, false⟩)
          ⟨hdivisor, hlower, hupper⟩
        generalize stepDivisor _ _ _ = y at hd
        obtain ⟨⟨hb, hlow, hup⟩, ha⟩ := hd
        have hm : RatesWf (s.modRate b fun r => { r with divisor := y.b, acc := y.a, drift := y.drift }) :=
          h.modRate fun _ => ⟨hlock, hb, ha, hlow, hup, fun hm => absurd hm (by simp_all), hindex⟩
        unfold setFlagIf
        split
        · exact hm.setFlag
        · exact hm

/-! ### Locks (R30, R31, R38) -/

theorem RatesWf.lockLine {n i : Nat} {d : DetectionRecord} (h : RatesWf s) (hn : 32 ≤ n ∧ n ≤ 1048575)
    (hi : i = 255 ∨ (i ≤ 10 ∧ Config.divisorTable[i]? = some n)) : RatesWf (lockLine b n i d s) :=
  RatesWf.setFlag (h.modLine fun _ => RateUnit.wf_of_lock hn rfl rfl rfl hi)

theorem RatesWf.failDetection {d : DetectionRecord} (h : RatesWf s) : RatesWf (failDetection b d s) :=
  RatesWf.setFlag (h.modLine fun hr => hr.congr rfl rfl rfl rfl rfl rfl)

theorem clamp_divisor (n : Nat) : 32 ≤ clamp divisorMin divisorMax n ∧ clamp divisorMin divisorMax n ≤ 1048575 := by
  simp only [clamp, divisorMin, divisorMax]
  omega

theorem RatesWf.evaluateDetection {w q c : Nat} (h : RatesWf s) : RatesWf (evaluateDetection b w q c s) := by
  obtain ⟨hrange, hindex⟩ := tableLock (nearestEntry_fst_lt w)
  unfold Machine.evaluateDetection concludeDetection
  split
  · exact h.lockLine hrange hindex
  · split
    · exact h.lockLine (clamp_divisor w) (.inl rfl)
    · exact h.failDetection

theorem RatesWf.startDetection (h : RatesWf s) : RatesWf (startDetection b s) := by
  have hm : RatesWf (s.modLine b fun l => { l with receiver := .waitHigh, lowPeriod := none, rate := { l.rate with detection := some {} } }) :=
    h.modLine fun hr => hr.congr rfl rfl rfl rfl rfl rfl
  exact hm.of_same fun _ => clearMatchers_same nofun nofun

theorem RatesWf.setRate {n i : Nat} (h : RatesWf s) (hn : 32 ≤ n ∧ n ≤ 1048575)
    (hi : i = 255 ∨ (i ≤ 10 ∧ Config.divisorTable[i]? = some n)) : RatesWf (setRate n i b s).state := by
  simp only [Machine.setRate, accept_state]
  refine h.modLine fun _ => ?_
  split <;> exact RateUnit.wf_of_lock hn rfl rfl rfl hi

theorem RatesWf.rateSetAct {d : Bool} {v : Nat} (h : RatesWf s) : RatesWf (rateSetAct d v b s).state := by
  unfold Machine.rateSetAct
  split
  · exact h.setRate (clamp_divisor v) (.inl rfl)
  · split
    case isTrue hv => exact h.setRate (tableLock hv).1 (tableLock hv).2
    case isFalse => exact h

theorem RatesWf.rateModeAct {p : LoopPolicy} (h : RatesWf s) : RatesWf (rateModeAct p b s).state := by
  unfold Machine.rateModeAct
  dsimp only
  split
  · exact h
  · exact h.modRate (f := fun r => { r with mode := p.mode }) fun hr =>
      ⟨hr.lock, hr.divisor, hr.acc, hr.lower, hr.upper, fun hm => absurd hm (by cases p <;> simp [LoopPolicy.mode]), hr.index⟩

theorem RatesWf.qualityAct {c : Bool} (h : RatesWf s) : RatesWf (qualityAct c b s).state := by
  have hm : RatesWf (s.modRate b fun r => { r with rejected := 0 }) := h.modRate fun hr => hr.congr rfl rfl rfl rfl rfl rfl
  cases c
  · exact h
  · exact hm

/-! ### Steps -/

theorem receiveKeeps_ratesWf (b : Bay) : ReceiveKeeps RatesWf b where
  line s f hf h := h.modLine fun hr => by rw [(hf _).2.2]; exact hr
  flag s f h := h.setFlag
  append s e h := h.modSlice id
  heartbeat s f h := h.modSlice id
  responder s f h := h.modSlice id
  respond s bytes _ h := h.of_same fun _ => appendTx_same nofun
  start s h := h.of_same fun _ => startTx_same rfl
  beat s h := h.of_same fun _ => heartbeatMatch_same nofun
  activity s h := h.of_same fun _ => outputActivity_same nofun
  window s w h := h.modRate fun hr => hr.congr rfl rfl rfl rfl rfl rfl
  close s w h := RatesWf.setFlag (h.modRate fun hr => hr.congr rfl rfl rfl rfl rfl rfl)
  detect s h := h.startDetection
  track s len c h := h.trackingPulse
  pulse s d h := h.modRate fun hr => hr.congr rfl rfl rfl rfl rfl rfl
  conclude s w q c h := h.evaluateDetection

theorem powerKeeps_ratesWf : PowerKeeps RatesWf where
  seq _ _ _ h := h.modSlice id
  grant _ _ h := h
  flag _ _ _ h := h.setFlag
  responder _ _ _ h := h.modSlice id
  suspend _ _ _ h := h.of_same fun _ => suspendMonitor_same nofun
  reach _ _ h := h.modSlice id
  taken _ _ h := h.modSlice id
  detect _ _ h := h.startDetection
  media _ _ h := h.of_same fun _ => mediaPowerLoss_same rfl nofun rfl
  policy _ _ h := h

theorem linkKeeps_ratesWf : LinkKeeps RatesWf := LinkKeeps.of_same fun _ _ hst h => h.of_same fun _ => hst _ rfl

theorem RatesWf.controllerReset {causes : BitVec 4} {v : Bool} (h : RatesWf s) : RatesWf (controllerReset causes v s) := by
  intro b
  rw [controllerReset_slice]
  obtain ⟨hlock, hdivisor, hacc, _, _, hmanual, hindex⟩ := h b
  exact ⟨hlock, hdivisor, hacc, nofun, nofun, fun hm => ⟨(hmanual hm).1, (hmanual hm).2.1, rfl⟩, hindex⟩

theorem RatesWf.warmReset (h : RatesWf s) : RatesWf (warmReset s) := RatesWf.controllerReset (h.of_same fun _ => rfl)

theorem coldBlocks_ratesWf (s : State) : RatesWf (coldBlocks s) := by
  intro b
  rw [coldBlocks_slice]
  exact (show RateUnit.Wf {} from RateUnit.wf_of_lock (by decide) rfl rfl rfl (by decide))

theorem coldReset_ratesWf (s : State) : RatesWf (coldReset s) := powerKeeps_ratesWf.coldReset (fun _ _ h => h) (coldBlocks_ratesWf s)

theorem RatesWf.restartNow (h : RatesWf s) : RatesWf (restartNow s) := by
  unfold Machine.restartNow
  split
  · exact h.controllerReset
  · exact h

theorem takeAny_ratesWf (i : Instr) (hi : i.isRequest = true) (h : RatesWf s) : RatesWf (takeAny i s) := by
  have k := linkKeeps_ratesWf
  have p := powerKeeps_ratesWf
  cases i with
  | rateSet tag line form value =>
    exact k.takeRequest (fun s hs => withField_keeps hs fun _ => onBay_keeps hs fun _ => hs.rateSetAct) h
  | rateMode tag line mode =>
    exact k.takeRequest (fun s hs => withField_keeps hs fun _ => onBay_keeps hs fun _ => hs.rateModeAct) h
  | rateDetect tag line => exact k.takeBayRequest (fun _ _ hs => hs.startDetection) h
  | quality tag line clear =>
    exact k.takeRequest (fun s hs => withField_keeps hs fun _ => onBay_keeps hs fun _ => hs.qualityAct) h
  | restart tag => exact k.takeRestart (fun _ => RatesWf.restartNow) h
  | powerOn tag bay => exact k.takeBayRequest (fun _ _ => p.powerOnAct) h
  | powerOffSoft tag bay => exact k.takeBayRequest (fun _ _ => p.powerOffSoftAct) h
  | powerOffHard tag bay => exact k.takeBayRequest (fun _ _ => p.powerOffHardAct) h
  | powerCycle tag bay => exact k.takeBayRequest (fun _ _ => p.powerCycleAct) h
  | budget tag budget delay => exact k.takeRequest (fun _ => p.budgetAct) h
  | _ =>
    first
    | exact Bool.noConfusion hi
    | refine h.of_same fun b => takeAny_same _ ?_
      simp [mayTouch, Part.ofBay, Part.accounting, Part.sending, Part.moving, Part.flagging,
        Option.any_eq_false, Part.isMedium, Part.isFlags]

theorem detectionWindowExpiry_ratesWf (h : RatesWf s) : Leads (execDetectionWindowExpiry b s) RatesWf := by
  unfold execDetectionWindowExpiry
  split
  · exact leads_next.mpr h
  · split
    · rw [leads_next]
      split
      · exact h.evaluateDetection
      · exact h.failDetection
    · exact leads_next.mpr h.failDetection

theorem RatesWf.exec_of_untouched {i : Instr} (h : RatesWf s) (hr : ∀ b, mayTouch i (.rate b) = false) : Leads (exec i s) RatesWf :=
  fun t hst => h.of_same fun b => exec_same i (hr b) t hst

theorem exec_event_ratesWf (i : Instr) (hi : i.isRequest = false) (h : RatesWf s) : Leads (exec i s) RatesWf := by
  have hx (mosi : Byte) : RatesWf (exchange mosi s) := linkKeeps_ratesWf.exchange (fun _ _ => takeAny_ratesWf _) h
  have p := powerKeeps_ratesWf
  cases i with
  | outgoingFrameStart mosi => exact leads_next_ite (fun _ => hx mosi) h
  | outgoingFrameEnd mosi => exact leads_next_ite (fun _ => hx mosi) h
  | byteExchange mosi => exact leads_next.mpr (hx mosi)
  | characterReceived bay data parity stop => exact (receiveKeeps_ratesWf bay).characterReceived h
  | lowPulseEnd bay internal len => exact (receiveKeeps_ratesWf bay).lowPulseEnd h
  | detectionWindowExpiry bay => exact detectionWindowExpiry_ratesWf h
  | monitorRequestTaken bay => exact p.monitorRequestTaken h
  | pgoodChange bay level => exact p.pgoodChange h
  | powerGoodTimerExpiry bay => exact p.powerGoodTimerExpiry h
  | softStopWaitExpiry bay => exact p.softStopWaitExpiry h
  | holdOffTimerExpiry bay => exact p.holdOffTimerExpiry h
  | sagChange level => exact p.sagChange (fun _ _ hs => linkKeeps_ratesWf.setPartFlag hs) h
  | restoreDelayEnd => exact p.restoreDelayEnd h
  | storeWriteComplete =>
    exact storeWriteComplete_keeps (fun _ _ hs => linkKeeps_ratesWf.setPartFlag hs) (fun _ _ hs => hs) (fun _ hs => hs.controllerReset) h
  | coldReset pinAsserted =>
    refine leads_next.mpr ?_
    split
    · exact (coldReset_ratesWf s).warmReset
    · exact coldReset_ratesWf s
  | warmReset => exact Leads.ite (fun _ => leads_next.mpr h) fun _ => leads_next.mpr h.warmReset
  | _ =>
    first
    | exact Bool.noConfusion hi
    | exact h.exec_of_untouched fun _ => rfl

theorem step_ratesWf : ∀ s t : State, RatesWf s → step s = .next t → RatesWf t :=
  step_keeps (fun _ _ h => h) (exec_keeps (fun i _ hi => takeAny_ratesWf i hi) fun i _ hi => exec_event_ratesWf i hi)

end Sys2Proof.Machine
end

section
/-! PROOFS. Every step keeps the hang monitors in their ranges (chapter 4). -/

namespace Sys2Proof.Machine

variable {s t : State} {b : Bay} {m : Monitor}

/-! ## Monitors -/

/-- Every monitor is in its ranges. -/
def MonitorsWf (s : State) : Prop := ∀ b, (s.slice b).monitor.Wf

theorem MonitorsWf.of_same (h : MonitorsWf s) (hp : ∀ b, (Part.monitor b).Same s t) : MonitorsWf t := fun b => (hp b).symm ▸ h b

theorem MonitorsWf.modSlice (h : MonitorsWf s) {f : Slice → Slice} (hf : (s.slice b).monitor.Wf → (f (s.slice b)).monitor.Wf) :
    MonitorsWf (s.modSlice b f) := by
  intro c
  by_cases hc : c = b
  · subst hc
    rw [State.slice_modSlice_self]
    exact hf (h c)
  · rw [State.slice_modSlice_ne _ _ _ _ hc]
    exact h c

theorem MonitorsWf.modMonitor {f : Monitor → Monitor} (h : MonitorsWf s) (hf : (s.slice b).monitor.Wf → (f (s.slice b).monitor).Wf) :
    MonitorsWf (s.modMonitor b f) :=
  MonitorsWf.modSlice (f := fun x => { x with monitor := f x.monitor }) h hf

theorem MonitorsWf.setFlag {f : BayFlag} (h : MonitorsWf s) : MonitorsWf (setFlag b f s) := h.of_same fun _ => setFlag_same rfl

/-- A monitor moves to a state other than DISABLED with the timer of that state (Table 4-4). -/
theorem Monitor.Wf.enter (h : m.Wf) {st : MonitorState} {tm : Option Nat} (hst : st ≠ .disabled) (hold : m.state ≠ .disabled)
    (htm : tm.isSome ↔ st = .grace ∨ st = .watching) : Monitor.Wf { m with state := st, timer := tm } :=
  ⟨h.settings, h.count, htm, ⟨fun hs => absurd hs hst, fun he => absurd (h.disabled.mpr he) hold⟩⟩

theorem Monitor.Wf.outstanding (h : m.Wf) (r : Option WatchRequest) : Monitor.Wf { m with outstanding := r } :=
  ⟨h.settings, h.count, h.timer, h.disabled⟩

theorem Monitor.Wf.activity (h : m.Wf) : m.activity.Wf := by
  unfold Monitor.activity
  split
  case h_1 hs => exact h.enter nofun (by simp [hs]) (by simp)
  case h_2 hs => exact h.enter nofun (by simp [hs]) (by simp)
  case h_3 hs => exact h.enter nofun (by simp [hs]) (by simp)
  all_goals exact h

theorem Monitor.Wf.suspend (h : m.Wf) : m.suspend.Wf := by
  unfold Monitor.suspend
  split
  · exact h
  · exact h.enter nofun ‹_› (by simp)

theorem Monitor.Wf.reachOn (h : m.Wf) : m.reachOn.Wf := by
  unfold Monitor.reachOn
  split
  case isTrue hs => exact h.enter nofun (by rcases hs with hs | hs <;> simp [hs]) (by simp)
  case isFalse => exact h

/-- A monitor placed by its enable (R70, R78). -/
theorem Monitor.place_wf (on : Bool) (hs : 5 ≤ m.settings.period ∧ 10 ≤ m.settings.grace ∧ m.settings.limit ≤ 15)
    (hc : m.count ≤ m.settings.limit) : (m.place on).Wf := by
  unfold Monitor.place
  cases he : m.settings.enable <;> cases on
  · exact ⟨hs, hc, by simp, by simp [he]⟩
  · exact ⟨hs, hc, by simp, by simp [he]⟩
  · exact ⟨hs, hc, by simp, by simp [he]⟩
  · exact ⟨hs, hc, by simp, by simp [he]⟩

theorem MonitorsWf.outputActivity (h : MonitorsWf s) : MonitorsWf (outputActivity b s) := by
  refine h.modMonitor fun hm => ?_
  split
  · exact hm.activity
  · exact hm

theorem MonitorsWf.heartbeatMatch (h : MonitorsWf s) : MonitorsWf (heartbeatMatch b s) := by
  unfold Machine.heartbeatMatch
  refine h.modMonitor fun hm => ?_
  have hz : Monitor.Wf { (s.slice b).monitor with count := 0 } := ⟨hm.settings, Nat.zero_le _, hm.timer, hm.disabled⟩
  dsimp only
  split
  · exact hz.activity
  · exact hz

theorem MonitorsWf.suspendMonitor {own : Bool} (h : MonitorsWf s) : MonitorsWf (suspendMonitor own b s) := by
  unfold Machine.suspendMonitor
  refine h.modMonitor fun hm => ?_
  split
  · exact hm
  · exact hm.suspend

theorem MonitorsWf.reachOn (h : MonitorsWf s) : MonitorsWf (s.modMonitor b Monitor.reachOn) := h.modMonitor Monitor.Wf.reachOn

theorem MonitorsWf.taken (h : MonitorsWf s) : MonitorsWf (s.modMonitor b fun m => { m with outstanding := none }) :=
  h.modMonitor fun hm => hm.outstanding none

theorem MonitorsWf.watchSetAct {src : WatchSource} {act : WatchAction} {en : Bool} {f : WatchFields} (h : MonitorsWf s) :
    MonitorsWf (watchSetAct src act en f b s).state := by
  simp only [Machine.watchSetAct, accept_state]
  refine h.modMonitor fun _ => Monitor.place_wf _ ?_ ?_
  · dsimp only
    omega
  · exact Nat.zero_le _

theorem MonitorsWf.watchClearAct (h : MonitorsWf s) : MonitorsWf (watchClearAct b s).state :=
  h.modMonitor (f := fun m => { m with count := 0 }) fun hm => ⟨hm.settings, Nat.zero_le _, hm.timer, hm.disabled⟩

/-- The action check leaves the monitor with its timer stopped, and its count within the limit (R72, R75). -/
theorem MonitorsWf.actionCheck (h : MonitorsWf s) (hst : (s.slice b).monitor.state ≠ .disabled) : MonitorsWf (actionCheck b s) := by
  have hstop : MonitorsWf (s.modMonitor b fun m => { m with state := .expired, timer := none }) :=
    h.modMonitor fun hm => hm.enter nofun hst (by simp)
  have hrequest (r : WatchRequest) : MonitorsWf (if (s.slice b).monitor.count < (s.slice b).monitor.settings.limit then
      s.modMonitor b fun m => { m with state := .acting, timer := none, count := m.count + 1, outstanding := some r }
      else Machine.setFlag b .hangLimit (s.modMonitor b fun m => { m with state := .expired, timer := none })) := by
    split
    case isTrue hc =>
      refine h.modMonitor fun hm => ?_
      have he := hm.enter (st := .acting) (tm := none) nofun hst (by simp)
      exact ⟨he.settings, hc, he.timer, he.disabled⟩
    case isFalse => exact hstop.setFlag
  unfold Machine.actionCheck
  dsimp only
  split
  · exact hrequest .reset
  · exact hrequest .cycle
  · exact hstop

/-! ## Steps -/

theorem receiveKeeps_monitorsWf (b : Bay) : ReceiveKeeps MonitorsWf b where
  line _ _ _ h := h.modSlice id
  flag _ _ h := h.setFlag
  append _ _ h := h.modSlice id
  heartbeat _ _ h := h.modSlice id
  responder _ _ h := h.modSlice id
  respond _ _ _ h := h.of_same fun _ => appendTx_same nofun
  start _ h := h.of_same fun _ => startTx_same rfl
  beat _ h := h.heartbeatMatch
  activity _ h := h.outputActivity
  window _ _ h := h.modSlice id
  close _ _ h := h.of_same fun _ => closeWindow_same nofun rfl
  detect _ h := h.of_same fun _ => startDetection_same rfl
  track _ _ _ h := h.of_same fun _ => trackingPulse_same nofun rfl
  pulse _ _ h := h.modSlice id
  conclude _ _ _ _ h := h.of_same fun _ => evaluateDetection_same nofun nofun rfl

theorem powerKeeps_monitorsWf : PowerKeeps MonitorsWf where
  seq _ _ _ h := h.modSlice id
  grant _ _ h := h
  flag _ _ _ h := h.setFlag
  responder _ _ _ h := h.modSlice id
  suspend _ _ _ h := h.suspendMonitor
  reach _ _ h := h.reachOn
  taken _ _ h := h.taken
  detect _ _ h := h.of_same fun _ => startDetection_same rfl
  media _ _ h := h.of_same fun _ => mediaPowerLoss_same rfl nofun rfl
  policy _ _ h := h

theorem linkKeeps_monitorsWf : LinkKeeps MonitorsWf := LinkKeeps.of_same fun _ _ hst h => h.of_same fun _ => hst _ rfl

theorem MonitorsWf.controllerReset {causes : BitVec 4} {v : Bool} (h : MonitorsWf s) : MonitorsWf (controllerReset causes v s) := by
  intro b
  rw [controllerReset_slice]
  exact Monitor.place_wf (m := { (s.slice b).monitor with count := 0, outstanding := none }) _ (h b).settings (Nat.zero_le _)

theorem MonitorsWf.warmReset (h : MonitorsWf s) : MonitorsWf (warmReset s) := MonitorsWf.controllerReset (h.of_same fun _ => rfl)

theorem coldBlocks_monitorsWf (s : State) : MonitorsWf (coldBlocks s) := by
  intro b
  rw [coldBlocks_slice]
  exact (show Monitor.Wf {} from ⟨by decide, by decide, by decide, by decide⟩)

theorem coldReset_monitorsWf (s : State) : MonitorsWf (coldReset s) :=
  powerKeeps_monitorsWf.coldReset (fun _ _ h => h) (coldBlocks_monitorsWf s)

theorem MonitorsWf.restartNow (h : MonitorsWf s) : MonitorsWf (restartNow s) := by
  unfold Machine.restartNow
  split
  · exact h.controllerReset
  · exact h

theorem takeAny_monitorsWf (i : Instr) (hi : i.isRequest = true) (h : MonitorsWf s) : MonitorsWf (takeAny i s) := by
  have k := linkKeeps_monitorsWf
  have p := powerKeeps_monitorsWf
  cases i with
  | watchSet tag bay f =>
    refine k.takeRequest (fun s hs => ?_) h
    iterate 3 refine withField_keeps hs fun _ => ?_
    exact onBay_keeps hs fun _ => hs.watchSetAct
  | watchClear tag bay => exact k.takeBayRequest (fun _ _ hs => hs.watchClearAct) h
  | restart tag => exact k.takeRestart (fun _ => MonitorsWf.restartNow) h
  | powerOn tag bay => exact k.takeBayRequest (fun _ _ => p.powerOnAct) h
  | powerOffSoft tag bay => exact k.takeBayRequest (fun _ _ => p.powerOffSoftAct) h
  | powerOffHard tag bay => exact k.takeBayRequest (fun _ _ => p.powerOffHardAct) h
  | powerCycle tag bay => exact k.takeBayRequest (fun _ _ => p.powerCycleAct) h
  | powerReset tag bay => exact k.takeBayRequest (fun _ _ => p.powerResetAct) h
  | powerClearFault tag bay => exact k.takeBayRequest (fun _ _ => p.powerClearFaultAct) h
  | budget tag budget delay => exact k.takeRequest (fun _ => p.budgetAct) h
  | _ =>
    first
    | exact Bool.noConfusion hi
    | refine h.of_same fun b => takeAny_same _ ?_
      simp [mayTouch, Part.ofBay, Part.accounting, Part.sending, Part.detecting, Part.moving, Part.flagging,
        Option.any_eq_false, Part.isMedium, Part.isFlags]

theorem watchTimerExpiry_monitorsWf (h : MonitorsWf s) : Leads (execWatchTimerExpiry b s) MonitorsWf := by
  refine leads_next_ite (fun ht => h.setFlag.actionCheck ?_) h
  have hm : ((setFlag b .hang s).slice b).monitor = (s.slice b).monitor := setFlag_same (p := .monitor b) rfl
  rw [hm]
  rcases ht.2 with hs | hs <;> simp [hs]

theorem MonitorsWf.exec_of_untouched {i : Instr} (h : MonitorsWf s) (hr : ∀ b, mayTouch i (.monitor b) = false) :
    Leads (exec i s) MonitorsWf :=
  fun t hst => h.of_same fun b => exec_same i (hr b) t hst

theorem exec_event_monitorsWf (i : Instr) (hi : i.isRequest = false) (h : MonitorsWf s) : Leads (exec i s) MonitorsWf := by
  have hx (mosi : Byte) : MonitorsWf (exchange mosi s) := linkKeeps_monitorsWf.exchange (fun _ _ => takeAny_monitorsWf _) h
  have p := powerKeeps_monitorsWf
  cases i with
  | outgoingFrameStart mosi => exact leads_next_ite (fun _ => hx mosi) h
  | outgoingFrameEnd mosi => exact leads_next_ite (fun _ => hx mosi) h
  | byteExchange mosi => exact leads_next.mpr (hx mosi)
  | characterReceived bay data parity stop => exact (receiveKeeps_monitorsWf bay).characterReceived h
  | lowPulseEnd bay internal len => exact (receiveKeeps_monitorsWf bay).lowPulseEnd h
  | watchTimerExpiry bay => exact watchTimerExpiry_monitorsWf h
  | monitorRequestTaken bay => exact p.monitorRequestTaken h
  | pgoodChange bay level => exact p.pgoodChange h
  | powerGoodTimerExpiry bay => exact p.powerGoodTimerExpiry h
  | resetPulseTimerExpiry bay => exact p.resetPulseTimerExpiry h
  | softStopWaitExpiry bay => exact p.softStopWaitExpiry h
  | holdOffTimerExpiry bay => exact p.holdOffTimerExpiry h
  | sagChange level => exact p.sagChange (fun _ _ hs => linkKeeps_monitorsWf.setPartFlag hs) h
  | restoreDelayEnd => exact p.restoreDelayEnd h
  | storeWriteComplete =>
    exact storeWriteComplete_keeps (fun _ _ hs => linkKeeps_monitorsWf.setPartFlag hs) (fun _ _ hs => hs) (fun _ hs => hs.controllerReset) h
  | coldReset pinAsserted =>
    refine leads_next.mpr ?_
    split
    · exact (coldReset_monitorsWf s).warmReset
    · exact coldReset_monitorsWf s
  | warmReset => exact Leads.ite (fun _ => leads_next.mpr h) fun _ => leads_next.mpr h.warmReset
  | _ =>
    first
    | exact Bool.noConfusion hi
    | exact h.exec_of_untouched fun _ => rfl

theorem step_monitorsWf : ∀ s t : State, MonitorsWf s → step s = .next t → MonitorsWf t :=
  step_keeps (fun _ _ h => h) (exec_keeps (fun i _ hi => takeAny_monitorsWf i hi) fun i _ hi => exec_event_monitorsWf i hi)

/-- Settles O55: the queue and the record of a line, B and A under tracking, and a monitor's timer with its state, each kept by what an
entry, a low period and a transition do to them. -/
theorem stepKeepsTheLinesAndMonitors : Obligations.StepKeepsTheLinesAndMonitors := by
  unfold Obligations.StepKeepsTheLinesAndMonitors
  exact ⟨step_linesWf, step_ratesWf, step_monitorsWf⟩

end Sys2Proof.Machine
end

section
/-! PROOFS. Every step keeps each ring within its pages, each stream within its ring and the pool within 128 pages (chapter 3). -/

namespace Sys2Proof.Machine

variable {s t : State} {b : Bay} {h : History}

/-! ## One ring -/

theorem History.Wf.entries_lt (hw : h.Wf) : h.entries.length ≤ 65536 := by
  have := hw.entries
  have := hw.pages
  omega

/-- A ring whose stream is DETACHED has only its pages to be in (R53). -/
theorem History.Wf.detached (hw : h.Wf) : History.Wf { h with stream := none } := ⟨hw.pages, hw.entries, nofun, nofun⟩

theorem History.Wf.idle (hw : h.Wf) (v : Bool) : History.Wf { h with idleExpired := v } := ⟨hw.pages, hw.entries, hw.unsent, hw.stream⟩

/-- A stream whose cursor stands within the ring (R50, R52). -/
theorem History.Wf.attached (hw : h.Wf) {st : Stream} (hu : (h.next - st.cursor).toNat ≤ h.entries.length) (hc : st.credit ≤ 65535)
    (hg : st.gap ≤ 4294967295) : History.Wf { h with stream := some st } :=
  ⟨hw.pages, hw.entries, by rintro _ ⟨⟩; exact hu, by rintro _ ⟨⟩; exact ⟨hc, hg⟩⟩

/-- An emptied ring of an allowed size (R47, R48). -/
theorem History.Wf.clear (hw : h.Wf) {n : Nat} (hn : 2 ≤ n ∧ n ≤ 64) : History.Wf { h.clear with pages := n } := by
  refine ⟨hn, Nat.zero_le _, fun st hst => ?_, fun st hst => ?_⟩ <;> simp only [History.clear, Option.map_eq_some_iff] at hst <;>
    obtain ⟨u, hu, rfl⟩ := hst
  · simp [History.clear]
  · exact ⟨(hw.stream u hu).1, Nat.zero_le _⟩

theorem Stream.overwrite_bounds (gone : SeqNo) {st : Stream} (hs : st.credit ≤ 65535 ∧ st.gap ≤ 4294967295) :
    (st.overwrite gone).credit ≤ 65535 ∧ (st.overwrite gone).gap ≤ 4294967295 := by
  unfold Stream.overwrite
  split
  · exact ⟨hs.1, Nat.min_le_right _ _⟩
  · exact hs

/-- A cursor that is not overwritten stands past the oldest entry, and one that is moves there (R46). -/
theorem Stream.overwrite_unsent (hl : 0 < h.entries.length ∧ h.entries.length ≤ 65536) {st : Stream}
    (hu : (h.next - st.cursor).toNat ≤ h.entries.length) : (h.next + 1 - (st.overwrite h.oldest).cursor).toNat ≤ h.entries.length := by
  unfold Stream.overwrite History.oldest
  split <;> bv_omega

theorem History.append_of_full (hf : h.capacity ≤ h.entries.length) (e : HistoryEntry) :
    h.append e = { h with
      entries := h.entries.drop 1 ++ [e], next := h.next + 1, idleExpired := false
      stream := h.stream.map (Stream.overwrite h.oldest) } := by
  simp only [History.append, History.dropOldest, if_pos hf]

theorem History.append_of_room (hf : h.entries.length < h.capacity) (e : HistoryEntry) :
    h.append e = { h with entries := h.entries ++ [e], next := h.next + 1, idleExpired := false } := by
  simp only [History.append, History.dropOldest, if_neg hf.not_ge]

@[simp] theorem History.append_pages (h : History) (e : HistoryEntry) : (h.append e).pages = h.pages := by
  rcases Nat.lt_or_ge h.entries.length h.capacity with hf | hf
  · rw [h.append_of_room hf]
  · rw [h.append_of_full hf]

theorem History.Wf.append (hw : h.Wf) (e : HistoryEntry) : (h.append e).Wf := by
  have hl := hw.entries_lt
  have hp := hw.pages
  have he := hw.entries
  have hcap : h.capacity = h.pages * 1024 := rfl
  rcases Nat.lt_or_ge h.entries.length h.capacity with hf | hf
  · rw [h.append_of_room hf]
    refine ⟨hp, ?_, fun st hst => ?_, hw.stream⟩
    · simp only [List.length_append, List.length_singleton]
      omega
    · have := hw.unsent st hst
      simp only [List.length_append, List.length_singleton]
      bv_omega
  · rw [h.append_of_full hf]
    refine ⟨hp, ?_, fun st hst => ?_, fun st hst => ?_⟩
    · simp only [List.length_append, List.length_drop, List.length_singleton]
      omega
    · obtain ⟨u, hu, rfl⟩ := Option.map_eq_some_iff.mp hst
      have := Stream.overwrite_unsent (h := h) ⟨by omega, hl⟩ (hw.unsent u hu)
      simp only [List.length_append, List.length_drop, List.length_singleton]
      omega
    · obtain ⟨u, hu, rfl⟩ := Option.map_eq_some_iff.mp hst
      exact Stream.overwrite_bounds _ (hw.stream u hu)

/-- A notice takes no more than is unsent (R58). -/
theorem History.noticeEntries_length_le (st : Stream) : (h.noticeEntries st).length ≤ h.unsent st := by
  simp only [History.noticeEntries, History.unsentEntries, List.length_take, List.length_drop]
  omega

theorem History.Wf.consume (hw : h.Wf) {st : Stream} (hst : h.stream = some st) :
    History.Wf { h with stream := some (st.consume (h.noticeEntries st).length) } := by
  have hl := hw.entries_lt
  have hu := hw.unsent st hst
  have hn := History.noticeEntries_length_le (h := h) st
  unfold History.unsent at hn
  refine hw.attached ?_ ((Nat.sub_le _ _).trans (hw.stream st hst).1) (Nat.zero_le _)
  simp only [Stream.consume]
  bv_omega

/-! ## The pool -/

/-- The pages the rings take of the pool (R43). -/
def State.poolPages (s : State) : Nat := ((List.finRange 8).map fun b => (s.slice b).history.pages).sum

theorem poolPages_eq (s : State) : (s.slices.toList.map fun x => x.history.pages).sum = s.poolPages := by
  have hl : s.slices.toList = (List.finRange 8).map s.slice := by
    apply List.ext_getElem <;> simp [State.slice, Vector.get_eq_getElem]
  rw [hl, List.map_map]
  rfl

theorem historyWf_iff : s.HistoryWf ↔ (∀ b, (s.slice b).history.Wf) ∧ s.poolPages ≤ 128 :=
  ⟨fun h => ⟨h.rings, poolPages_eq s ▸ h.pool⟩, fun h => ⟨h.1, (poolPages_eq s).trans_le h.2⟩⟩

/-- Rings in range, of the sizes they had. -/
theorem State.HistoryWf.congr (hw : s.HistoryWf) (hr : ∀ b, (s.slice b).history.Wf → (t.slice b).history.Wf)
    (hp : ∀ b, (t.slice b).history.pages = (s.slice b).history.pages) : t.HistoryWf := by
  obtain ⟨hrings, hpool⟩ := historyWf_iff.mp hw
  refine historyWf_iff.mpr ⟨fun b => hr b (hrings b), ?_⟩
  unfold State.poolPages at hpool ⊢
  simpa only [hp] using hpool

theorem State.HistoryWf.of_same (hw : s.HistoryWf) (hp : ∀ b, (Part.history b).Same s t) : t.HistoryWf :=
  hw.congr (fun b hb => (hp b).symm ▸ hb) fun b => congrArg History.pages (hp b)

theorem State.HistoryWf.modHistory {f : History → History} (hw : s.HistoryWf)
    (hf : (s.slice b).history.Wf → (f (s.slice b).history).Wf) (hp : (f (s.slice b).history).pages = (s.slice b).history.pages) :
    (s.modHistory b f).HistoryWf := by
  refine hw.congr (fun c hc => ?_) fun c => ?_ <;> by_cases hcb : c = b
  · subst hcb
    rw [State.slice_modSlice_self]
    exact hf hc
  · rw [State.slice_modSlice_ne _ _ _ _ hcb]
    exact hc
  · subst hcb
    rw [State.slice_modSlice_self]
    exact hp
  · rw [State.slice_modSlice_ne _ _ _ _ hcb]

/-- The pages of one ring change against what is free (R47). -/
theorem poolPages_modHistory (s : State) (b : Bay) (f : History → History) :
    (s.modHistory b f).poolPages + (s.slice b).history.pages = s.poolPages + (f (s.slice b).history).pages := by
  rw [← poolPages_eq, ← poolPages_eq]
  have hset : (s.modHistory b f).slices.toList.map (fun x => x.history.pages) =
      (s.slices.toList.map fun x => x.history.pages).set b.val (f (s.slice b).history).pages := by
    simp [State.modSlice, Vector.toList_set, List.map_set]
  have hget : (s.slices.toList.map fun x => x.history.pages)[b.val]'(by simp) = (s.slice b).history.pages := by
    simp [State.slice, Vector.get_eq_getElem]
  have hsum := list_sum_set (s.slices.toList.map fun x => x.history.pages) b.val (by simp) (f (s.slice b).history).pages
  rw [hget] at hsum
  rw [hset]
  exact hsum

theorem State.HistoryWf.historySizeAct {n : Nat} (hw : s.HistoryWf) : (historySizeAct n b s).state.HistoryWf := by
  unfold Machine.historySizeAct
  split
  · exact hw
  · split
    · exact hw
    case isFalse hn hfree =>
      obtain ⟨hrings, hpool⟩ := historyWf_iff.mp hw
      have hsum := poolPages_modHistory s b fun h => { h.clear with pages := n }
      simp only [freePages, poolPages_eq, Config.historyPages] at hfree
      have hclear := (hrings b).clear (n := n) (by omega)
      simp only [accept_state]
      refine historyWf_iff.mpr ⟨fun c => ?_, ?_⟩
      · by_cases hcb : c = b
        · subst hcb
          rw [State.slice_modSlice_self]
          exact hclear
        · rw [State.slice_modSlice_ne _ _ _ _ hcb]
          exact hrings c
      · simp only at hsum
        omega

/-! ## Requests -/

theorem State.HistoryWf.historyClearAct (hw : s.HistoryWf) : (historyClearAct b s).state.HistoryWf :=
  hw.modHistory (f := History.clear) (fun hb => hb.clear (n := (s.slice b).history.pages) hb.pages) rfl

theorem State.HistoryWf.attachAct {form : StartForm} {start : SeqNo} {credit : BitVec 16} (hw : s.HistoryWf) :
    (attachAct form start credit.toNat b s).state.HistoryWf := by
  have hb := hw.rings b
  have hl := hb.entries_lt
  have hc : credit.toNat ≤ 65535 := by omega
  have hat (cursor : SeqNo) (gap : Nat) (hu : (s.slice b).history.behind cursor ≤ (s.slice b).history.entries.length)
      (hg : gap ≤ 4294967295) : (attachAt cursor gap credit.toNat b s).state.HistoryWf :=
    hw.modHistory (f := fun h => { h with stream := some ⟨cursor, gap, credit.toNat⟩ })
      (fun hb => hb.attached (st := ⟨cursor, gap, credit.toNat⟩) hu hc hg) rfl
  have hnext : (s.slice b).history.behind (s.slice b).history.next ≤ (s.slice b).history.entries.length := by simp [History.behind]
  have holdest : (s.slice b).history.behind (s.slice b).history.oldest ≤ (s.slice b).history.entries.length :=
    (History.behind_oldest (by omega)).le
  unfold Machine.attachAct
  dsimp only
  split
  · exact hat _ _ hnext (by omega)
  · exact hat _ _ holdest (by omega)
  · split
    case h_1 hp =>
      refine hat _ _ ?_ (by omega)
      unfold History.place at hp
      split at hp
      · assumption
      · split at hp <;> cases hp
    case h_2 => exact hat _ _ holdest (by omega)
    case h_3 => exact hw

theorem State.HistoryWf.creditAct {n : Nat} (hw : s.HistoryWf) : (creditAct n b s).state.HistoryWf := by
  unfold Machine.creditAct
  split
  · exact hw
  case h_2 st hst =>
    simp only [accept_state]
    refine hw.modHistory (fun hb => ?_) rfl
    exact hb.attached (st := { st with credit := _ }) (hb.unsent st hst) (Nat.min_le_right _ _) (hb.stream st hst).2

theorem State.HistoryWf.detachAct (hw : s.HistoryWf) : (detachAct b s).state.HistoryWf :=
  hw.modHistory (f := fun h => { h with stream := none }) History.Wf.detached rfl

theorem State.HistoryWf.startConsole (hw : s.HistoryWf) : (startConsole b s).HistoryWf := by
  unfold Machine.startConsole
  split
  · exact hw
  case h_2 st hst =>
    have hm : (s.modHistory b fun h => { h with stream := some (st.consume ((s.slice b).history.noticeEntries st).length) }).HistoryWf :=
      hw.modHistory (fun hb => hb.consume hst) rfl
    exact hm.of_same fun _ => rfl

theorem linkKeeps_historyWf : LinkKeeps State.HistoryWf where
  link _ _ _ h := h.of_same fun _ => rfl
  free _ _ h := h.of_same fun _ => rfl
  report _ h := h.of_same fun _ => rfl
  sendFetch _ _ h := h.of_same fun _ => rfl
  sendWriteback _ _ h := h.of_same fun _ => rfl
  fetchSent _ _ h := h.of_same fun _ => rfl
  writebackSent _ _ h := h.of_same fun _ => rfl
  console _ _ h := h.startConsole

theorem receiveKeeps_historyWf (b : Bay) : ReceiveKeeps State.HistoryWf b where
  line _ _ _ h := h.of_same fun _ => modSlice_same fun _ => rfl
  flag _ _ h := h.of_same fun _ => setFlag_same rfl
  append _ e h := h.modHistory (fun hb => hb.append e) (History.append_pages _ _)
  heartbeat _ _ h := h.of_same fun _ => modSlice_same fun _ => rfl
  responder _ _ h := h.of_same fun _ => modSlice_same fun _ => rfl
  respond _ _ _ h := h.of_same fun _ => appendTx_same nofun
  start _ h := h.of_same fun _ => startTx_same rfl
  beat _ h := h.of_same fun _ => heartbeatMatch_same nofun
  activity _ h := h.of_same fun _ => outputActivity_same nofun
  window _ _ h := h.of_same fun _ => modSlice_same fun _ => rfl
  close _ _ h := h.of_same fun _ => closeWindow_same nofun rfl
  detect _ h := h.of_same fun _ => startDetection_same rfl
  track _ _ _ h := h.of_same fun _ => trackingPulse_same nofun rfl
  pulse _ _ h := h.of_same fun _ => modSlice_same fun _ => rfl
  conclude _ _ _ _ h := h.of_same fun _ => evaluateDetection_same nofun nofun rfl

/-! ## Resets -/

theorem State.HistoryWf.controllerReset {causes : BitVec 4} {v : Bool} (hw : s.HistoryWf) : (controllerReset causes v s).HistoryWf := by
  refine hw.congr (fun b hb => ?_) fun b => ?_
  · rw [controllerReset_slice]
    exact hb.detached.idle false
  · rw [controllerReset_slice]
    rfl

theorem State.HistoryWf.warmReset (hw : s.HistoryWf) : (warmReset s).HistoryWf := State.HistoryWf.controllerReset (hw.of_same fun _ => rfl)

theorem coldBlocks_historyWf (s : State) : (coldBlocks s).HistoryWf := by
  refine historyWf_iff.mpr ⟨fun b => ?_, ?_⟩
  · rw [coldBlocks_slice]
    exact (show History.Wf {} from ⟨by decide, by decide, nofun, nofun⟩)
  · simp only [State.poolPages, coldBlocks_slice]
    decide

theorem coldReset_historyWf (s : State) : (coldReset s).HistoryWf := by
  refine (coldBlocks_historyWf s).of_same fun b => ?_
  have hs := (restoreAll_same (p := .history b) rfl (List.finRange 8) (coldBlocks s)).trans (startRestoreDelay_same (p := .history b) rfl)
  unfold coldReset
  generalize startRestoreDelay _ = u at hs ⊢
  exact hs

theorem State.HistoryWf.restartNow (hw : s.HistoryWf) : (restartNow s).HistoryWf := by
  unfold Machine.restartNow
  split
  · exact hw.controllerReset
  · exact hw.of_same fun _ => rfl

/-! ## Steps -/

theorem takeAny_historyWf (i : Instr) (hi : i.isRequest = true) (hw : s.HistoryWf) : (takeAny i s).HistoryWf := by
  have k := linkKeeps_historyWf
  cases i with
  | historySize tag line pages => exact k.takeBayRequest (fun _ _ hs => hs.historySizeAct) hw
  | historyClear tag line => exact k.takeBayRequest (fun _ _ hs => hs.historyClearAct) hw
  | attach tag line form start credit =>
    exact k.takeRequest (fun s hs => withField_keeps hs fun _ => onBay_keeps hs fun _ => hs.attachAct) hw
  | credit tag line count => exact k.takeBayRequest (fun _ _ hs => hs.creditAct) hw
  | detach tag line => exact k.takeBayRequest (fun _ _ hs => hs.detachAct) hw
  | restart tag => exact k.takeRestart (fun _ => State.HistoryWf.restartNow) hw
  | _ =>
    first
    | exact Bool.noConfusion hi
    | refine hw.of_same fun b => takeAny_same _ ?_
      simp [mayTouch, Part.ofBay, Part.accounting, Part.sending, Part.detecting, Part.moving, Part.flagging, Part.granting, Part.powering,
        Option.any_eq_false, Part.isMedium, Part.isFlags]

theorem State.HistoryWf.exec_of_untouched {i : Instr} (hw : s.HistoryWf) (hr : ∀ b, mayTouch i (.history b) = false) :
    Leads (exec i s) State.HistoryWf :=
  fun t hst => hw.of_same fun b => exec_same i (hr b) t hst

theorem exec_event_historyWf (i : Instr) (hi : i.isRequest = false) (hw : s.HistoryWf) : Leads (exec i s) State.HistoryWf := by
  have hx (mosi : Byte) : (exchange mosi s).HistoryWf := linkKeeps_historyWf.exchange (fun _ _ => takeAny_historyWf _) hw
  cases i with
  | outgoingFrameStart mosi => exact leads_next_ite (fun _ => hx mosi) hw
  | outgoingFrameEnd mosi => exact leads_next_ite (fun _ => hx mosi) hw
  | byteExchange mosi => exact leads_next.mpr (hx mosi)
  | characterReceived bay data parity stop => exact (receiveKeeps_historyWf bay).characterReceived hw
  | lowPulseEnd bay internal len => exact (receiveKeeps_historyWf bay).lowPulseEnd hw
  | idleFlushExpiry bay => exact leads_next.mpr (hw.modHistory (f := fun h => { h with idleExpired := true }) (fun hb => hb.idle true) rfl)
  | storeWriteComplete =>
    exact storeWriteComplete_keeps (fun _ _ hs => linkKeeps_historyWf.setPartFlag hs) (fun _ _ hs => hs.of_same fun _ => rfl)
      (fun _ hs => hs.controllerReset) hw
  | coldReset pinAsserted =>
    refine leads_next.mpr ?_
    split
    · exact (coldReset_historyWf s).warmReset
    · exact coldReset_historyWf s
  | warmReset => exact Leads.ite (fun _ => leads_next.mpr hw) fun _ => leads_next.mpr hw.warmReset
  | _ =>
    first
    | exact Bool.noConfusion hi
    | exact hw.exec_of_untouched fun _ => rfl

/-- Settles O56: an append, a notice, an attach and a resize each keep a ring and its stream, and the pool gives a ring no more than is
free. -/
theorem stepKeepsTheHistory : Obligations.StepKeepsTheHistory := by
  unfold Obligations.StepKeepsTheHistory
  exact step_keeps (fun _ _ hw => hw.of_same fun _ => rfl)
    (exec_keeps (fun i _ hi => takeAny_historyWf i hi) fun i _ hi => exec_event_historyWf i hi)

end Sys2Proof.Machine
end

section
/-! PROOFS. A step can leave a media link UP in POWERING: the statement that every step keeps the media side does not hold of every state
(O58), since it says nothing of which bays wait in the grant queue. -/

namespace Sys2Proof.Machine

/-- A bay that is ON with its link UP, yet stands in the grant queue, with the restore delay about to end. -/
def waitingWhileOn : State :=
  { State.reset.modSlice 0 fun x => { x with sequencer := { state := .on }, port := { up := true } } with
    grant := { queue := [0], timer := .running 1 }, pending := [.restoreDelayEnd] }

theorem waitingWhileOn_mediaWf : waitingWhileOn.MediaWf where
  media b := ⟨by revert b; decide, by revert b; decide⟩
  ports b := ⟨by revert b; decide, by revert b; decide, by revert b; decide⟩
  fresh := by decide
  powered := by decide
  present := by decide

/-- The grant attempt at the end of the delay takes the bay to POWERING (R105, R107). -/
theorem step_waitingWhileOn : ∃ t, step waitingWhileOn = .next t ∧ (t.slice 0).port.up = true ∧ (t.slice 0).sequencer.state = .powering :=
  ⟨_, rfl, rfl, rfl⟩

/-- Refutes O58: the media invariant does not say that the bays in the grant queue are QUEUED (R103), and a bay granted out of ON is
POWERING with its link still UP. -/
theorem not_stepKeepsTheMedia : ¬ Obligations.StepKeepsTheMedia := by
  unfold Obligations.StepKeepsTheMedia
  intro h
  obtain ⟨t, hstep, hup, hstate⟩ := step_waitingWhileOn
  have hpowered := (h _ t waitingWhileOn_mediaWf hstep).powered 0 hup
  simp [hstate] at hpowered

end Sys2Proof.Machine
end

section
/-! PROOFS. What the media side keeps (chapters 7 and 8), in terms of the changes its commands are made of. -/

namespace Sys2Proof.Machine

variable {P : State → Prop} {s t : State} {b : Bay}

/-! ## The transfer engine -/

theorem Port.request_mem {p : Port} {n : Nat} {r : ServerRequest} (h : p.request n = some r) : r ∈ p.queue ∧ r.serial = n :=
  ⟨List.mem_of_find?_eq_some h, by simpa using List.find?_some h⟩

/-- `P` is kept by what the engine of a port starts for a request of its queue (R121 to R124, R136). -/
structure EngineKeeps (P : State → Prop) : Prop where
  /-- A transfer on the entry that holds the next block. -/
  transfer : ∀ s b r i, r ∈ (s.slice b).port.queue → (s.slice b).port.transfer = none → s.cache.find (s.key b r.next) = some i →
    (s.cache.entry i).state = .valid ∨ (s.cache.entry i).state = .dirty ∧ r.write = false →
    (r.write = true → (s.cache.entry i).pinned = false ∧ r.transferred < r.count ∧ usedPlaces s < 16) → P s → P (startTransfer b r i s)
  /-- A WRITE's transfer on a victim, where the block is missing. -/
  victim : ∀ s b r i, r ∈ (s.slice b).port.queue → (s.slice b).port.transfer = none → s.cache.find (s.key b r.next) = none →
    s.cache.victim b = some i → r.write = true → r.transferred < r.count → usedPlaces s < 16 → P s →
    P (startTransfer b r i (s.modCache fun c => c.take i (s.key b r.next) .valid none))
  ask : ∀ s b block last, (s.slice b).port.queue ≠ [] → P s → P (askFetch b block last s).1

namespace EngineKeeps

theorem lookRead (k : EngineKeeps P) {ask : Bool} {r : ServerRequest} (hr : r ∈ (s.slice b).port.queue) (hw : r.write = false) (h : P s) :
    P (lookRead ask b r s).1 := by
  unfold Machine.lookRead
  split
  case h_1 i hf =>
    split
    case isTrue hc =>
      simp only [Bool.and_eq_true, Option.isNone_iff_eq_none, Bool.or_eq_true, decide_eq_true_eq] at hc
      obtain ⟨ht, hst⟩ := hc
      exact k.transfer s b r i hr ht hf (hst.imp_right fun hd => ⟨hd, hw⟩) (by simp [hw]) h
    case isFalse => exact h
  case h_2 hf =>
    split
    · exact k.ask _ _ _ _ (List.ne_nil_of_mem hr) h
    · exact h

theorem lookWrite (k : EngineKeeps P) {r : ServerRequest} (hr : r ∈ (s.slice b).port.queue) (hw : r.write = true) (h : P s) :
    P (lookWrite b r s).1 := by
  unfold Machine.lookWrite
  split
  · exact h
  case isFalse hc =>
    simp only [Bool.or_eq_true, Option.isSome_iff_ne_none, decide_eq_true_eq, not_or, not_le, Config.writebackMax, ne_eq, not_not] at hc
    obtain ⟨⟨ht, hleft⟩, hplaces⟩ := hc
    replace hplaces : usedPlaces s < 16 := Nat.lt_of_not_le fun hle => hplaces (decide_eq_true hle)
    split
    case h_1 i hf =>
      split
      case isTrue hv =>
        simp only [Bool.and_eq_true, decide_eq_true_eq, Bool.not_eq_true'] at hv
        exact k.transfer s b r i hr ht hf (.inl hv.1) (fun _ => ⟨hv.2, hleft, hplaces⟩) h
      case isFalse => exact h
    case h_2 hf =>
      split
      · exact h
      case h_2 i hv => exact k.victim s b r i hr ht hf hv hw hleft hplaces h

theorem lookRequest (k : EngineKeeps P) {ask : Bool} {n : Nat} (h : P s) : P (lookRequest ask b n s).1 := by
  unfold Machine.lookRequest
  split
  · exact h
  case h_2 r hr =>
    obtain ⟨hmem, _⟩ := Port.request_mem hr
    split
    case isTrue hw => exact k.lookWrite hmem hw h
    case isFalse hw => exact k.lookRead hmem (by simpa using hw) h

theorem lookAll (k : EngineKeeps P) {ask : Bool} (ns : List Nat) : ∀ s, P s → P (lookAll ask b ns s).1 := by
  induction ns with
  | nil => exact fun _ h => h
  | cons n rest ih => exact fun _ h => ih _ (k.lookRequest h)

theorem judgePorts (k : EngineKeeps P) {ask : Bool} (bs : List Bay) : ∀ s, P s → P (judgePorts ask bs s).1 := by
  induction bs with
  | nil => exact fun _ h => h
  | cons b rest ih => exact fun _ h => ih _ (k.lookAll _ _ h)

theorem serve (k : EngineKeeps P) (n : Nat) : ∀ rs s, P s → P (serve n rs s) := by
  induction n with
  | zero => exact fun rs s h => by cases rs <;> exact h
  | succ n ih =>
    intro rs s h
    cases rs with
    | nil => exact h
    | cons r rest => exact ih _ _ (k.judgePorts _ _ h)

theorem settle (k : EngineKeeps P) (h : P t) : P (settle b s t) := k.serve _ _ _ h

end EngineKeeps

/-! ## Ports, media, records and their answers -/

/-- `P` is kept by what the media side's commands are made of, beside its engine. -/
structure MediaKeeps (P : State → Prop) : Prop extends EngineKeeps P where
  /-- `P` reads the ports, the media, the cache and the serials alone. -/
  congr : ∀ s t, (∀ b, (t.slice b).port = (s.slice b).port ∧ (t.slice b).medium = (s.slice b).medium) → t.cache = s.cache →
    t.nextSerial = s.nextSerial → P s → P t
  port : ∀ s b f, (∀ p : Port, (f p).queue = p.queue ∧ (f p).transfer = p.transfer) → P s → P (s.modPort b f)
  changed : ∀ s b v, P s → P (s.modMedium b fun m => { m with changed := v })
  down : ∀ s b, P s → P ((forgetRequests b (abandon b s)).modPort b fun p => { p with up := false, queue := [] })
  eject : ∀ s b force, P s → P (ejectMedium force b s)
  insert : ∀ s b m, (s.slice b).medium.state = .empty → m.state = .present → P s → P (s.modMedium b fun _ => m)
  admitted : ∀ s b r, (s.slice b).medium.state = .present → r.serial = s.nextSerial → P s → P (enqueue b r s)
  unpin : ∀ s b t, (s.slice b).port.transfer = some t → P s → P (unpin b t s)
  complete : ∀ s b r st, (s.slice b).port.transfer = none → P s → P (complete b r st s)
  advance : ∀ s b n, (s.slice b).port.transfer = none → P s → P (modRequest b n (fun r => { r with next := r.next + 1 }) s)
  written : ∀ s b t r data, (s.slice b).port.transfer = some t → t.write = true → (s.slice b).port.request t.serial = some r → P s →
    P (modRequest b r.serial (fun r => { r with next := r.next + 1, transferred := r.transferred + 1 })
      ((Machine.unpin b t s).modCache fun c => c.makeDirty b (s.slice b).medium.generation t.entry r.next r.serial data))
  cache : ∀ s f, (∀ c : Cache, (f c).entries = c.entries ∧ (f c).fetches = c.fetches ∧ (f c).writebacks = c.writebacks ∧
    (f c).lastFetchId = c.lastFetchId ∧ (f c).lastWritebackId = c.lastWritebackId) → P s → P (s.modCache f)
  fetchNotice : ∀ s f, (∀ r : FetchRecord, (f r).id = r.id ∧ (f r).bay = r.bay ∧ (f r).generation = r.generation ∧
    (f r).first = r.first ∧ (f r).marks = r.marks ∧ (f r).orphan = r.orphan) → P s →
    P (s.modCache fun c => { c with fetches := c.fetches.map f })
  writebackNotice : ∀ s f, (∀ r : WritebackRecord, (f r).id = r.id ∧ (f r).bay = r.bay ∧ (f r).generation = r.generation ∧
    (f r).block = r.block ∧ (f r).entry = r.entry ∧ (f r).orphan = r.orphan) → P s →
    P (s.modCache fun c => { c with writebacks := c.writebacks.map f })
  fill : ∀ s r index data, s.cache.fetchOf r.id = some r → r.orphan = false → r.marks[index]? = some false → P s →
    P (s.modCache fun c => (c.mapEntries (fillEntry r.id index data)).markFetch r index)
  fillOrphan : ∀ s r index, s.cache.fetchOf r.id = some r → r.orphan = true → P s → P (s.modCache fun c => c.markFetch r index)
  fail : ∀ s r, s.cache.fetchOf r.id = some r → r.orphan = false → P s →
    P (failReads r.bay r.unfilled (s.modCache fun c => (c.mapEntries fun e => if e.ofFetch r.id then e.release else e).dropFetch r.id))
  dropFetch : ∀ s r, s.cache.fetchOf r.id = some r → r.orphan = true → P s → P (s.modCache fun c => c.dropFetch r.id)
  resolve : ∀ s r keep failed, s.cache.writebackOf r.id = some r → r.orphan = false →
    (keep = true → (s.slice r.bay).medium.state ≠ .ejectPending) → P s →
    P (finishEject r.bay (r.request.elim
      (s.modCache fun c => (r.entry.elim c fun i => resolveEntry keep i c).dropWriteback r.id)
      fun serial => resolveBlock r.bay failed serial
        (s.modCache fun c => (r.entry.elim c fun i => resolveEntry keep i c).dropWriteback r.id)))
  dropWriteback : ∀ s r, s.cache.writebackOf r.id = some r → r.orphan = true → P s → P (s.modCache fun c => c.dropWriteback r.id)
  reset : ∀ s causes v, P s → P (controllerReset causes v s)
  cold : ∀ s, P (coldBlocks s)

theorem fetchOf_id {c : Cache} {n : Nat} {r : FetchRecord} (h : c.fetchOf n = some r) : r.id = n := by simpa using List.find?_some h

theorem writebackOf_id {c : Cache} {n : Nat} {r : WritebackRecord} (h : c.writebackOf n = some r) : r.id = n := by
  simpa using List.find?_some h

namespace MediaKeeps

variable (k : MediaKeeps P)
include k

theorem same {f : Slice → Slice} (hf : ∀ x, (f x).port = x.port ∧ (f x).medium = x.medium) (h : P s) : P (s.modSlice b f) :=
  k.congr _ _ (fun c => ⟨State.slice_modSlice_of Slice.port s b c f fun x => (hf x).1,
    State.slice_modSlice_of Slice.medium s b c f fun x => (hf x).2⟩) rfl rfl h

theorem of_same (hp : ∀ p : Part, p.moving = true ∨ p.isMedium = true ∨ p = .serials → p.Same s t) (h : P s) : P t :=
  k.congr _ _ (fun c => ⟨hp (.port c) (.inl rfl), hp (.medium c) (.inr (.inl rfl))⟩) (hp .cache (.inl rfl)) (hp .serials (.inr (.inr rfl))) h

theorem flag {f : BayFlag} (h : P s) : P (setFlag b f s) :=
  k.of_same (fun p hp => setFlag_same (by cases p <;> simp_all [Part.flagging, Part.moving, Part.isMedium])) h

theorem tell {m : PortMessage} (h : P s) : P (tell b m s) := k.port s b (fun p => { p with sent := p.sent ++ [m] }) (fun _ => ⟨rfl, rfl⟩) h

theorem linkDown (h : P s) : P (linkDown b s) := by
  unfold Machine.linkDown
  split
  · exact k.flag (k.down _ _ h)
  · exact h

theorem powerOffEject (h : P s) : P (powerOffEject b s) := by
  unfold Machine.powerOffEject
  split
  case isTrue hp =>
    have he := k.eject s b false h
    unfold ejectMedium at he
    simpa only [hp.1] using he
  case isFalse => exact h

theorem mediaPowerLoss (h : P s) : P (mediaPowerLoss b s) := k.settle (k.powerOffEject (k.linkDown h))

/-! ### Events of the port -/

theorem mediaOpen (h : P s) : Leads (execMediaOpen b s) P := by
  unfold execMediaOpen
  refine Leads.ite (fun _ => leads_next.mpr (k.tell h)) fun _ => Leads.ite (fun _ => leads_next.mpr ?_) fun _ => leads_next.mpr (k.tell h)
  exact k.flag (k.tell (k.port s b (fun p => { p with up := true }) (fun _ => ⟨rfl, rfl⟩) h))

theorem mediaClose (h : P s) : Leads (execMediaClose b s) P := leads_next_ite (fun _ => k.settle (k.linkDown h)) h

theorem arrive {tag : Byte} {pass : State → State} (hpass : (s.slice b).medium.state = .present → P (pass s)) (h : P s) :
    P (arrive b tag pass s) := by
  unfold Machine.arrive
  dsimp only
  split
  · exact h
  · split
    · exact k.tell h
    · split
      · exact k.tell h
      case isFalse hp =>
        split
        · exact k.tell (k.changed _ _ _ h)
        · exact hpass (by simpa using hp)

theorem admitAndServe {r : ServerRequest} (hp : (s.slice b).medium.state = .present) (hr : r.serial = s.nextSerial) (h : P s) :
    P (admitAndServe b r s) := by
  have hs := k.admitted s b r hp hr h
  have hq : ((enqueue b r s).slice b).port.queue ≠ [] := by
    have : (enqueue b r s).slice b = (s.modPort b fun p => { p with queue := p.queue ++ [r] }).slice b := rfl
    simp [this]
  unfold Machine.admitAndServe
  dsimp only
  split
  · exact k.serve _ _ _ (k.ask _ _ _ _ hq hs)
  · exact k.serve _ _ _ hs

theorem read {tag : Byte} {start : BitVec 32} {count : Nat} (h : P s) : Leads (execRead b tag start count s) P := by
  refine leads_next.mpr (k.arrive (fun hp => ?_) h)
  split
  · exact k.admitAndServe hp rfl h
  · exact k.tell h

theorem write {tag : Byte} {start : BitVec 32} {count : Nat} (h : P s) : Leads (execWrite b tag start count s) P := by
  refine leads_next.mpr (k.arrive (fun hp => ?_) h)
  split
  · exact k.tell h
  · split
    · exact k.admitAndServe hp rfl h
    · exact k.tell h

theorem capacity {tag : Byte} (h : P s) : Leads (execCapacity b tag s) P := leads_next.mpr (k.arrive (fun _ => k.tell h) h)

theorem ready {tag : Byte} (h : P s) : Leads (execReady b tag s) P := leads_next.mpr (k.arrive (fun _ => k.tell h) h)

theorem serverRequestInvalid {tag : Byte} (h : P s) : Leads (execServerRequestInvalid b tag s) P := by
  unfold execServerRequestInvalid
  exact Leads.ite (fun _ => leads_next.mpr h) fun _ =>
    Leads.ite (fun _ => leads_next.mpr (k.tell h)) fun _ => leads_next.mpr (k.tell h)

omit k in
@[simp] theorem unpin_transfer (b : Bay) (t : Transfer) (s : State) : ((Machine.unpin b t s).slice b).port.transfer = none := by
  simp [Machine.unpin]

omit k in
@[simp] theorem unpin_queue (b c : Bay) (t : Transfer) (s : State) : ((Machine.unpin b t s).slice c).port.queue = (s.slice c).port.queue := by
  exact State.slice_modSlice_of (fun x => x.port.queue) _ b c (fun x => { x with port := { x.port with transfer := none } }) fun _ => rfl

theorem endRead {t : Transfer} {r : ServerRequest} (ht : (s.slice b).port.transfer = some t)
    (hr : (s.slice b).port.request t.serial = some r) (h : P s) : P (endRead b t r s) := by
  have hq : (s.slice b).port.queue ≠ [] := List.ne_nil_of_mem (Port.request_mem hr).1
  have h1 : P (Machine.tell b (.block r.tag r.next (s.cache.entry t.entry).data) (Machine.unpin b t s)) := k.tell (k.unpin s b t ht h)
  have h1t : ((Machine.tell b (.block r.tag r.next (s.cache.entry t.entry).data) (Machine.unpin b t s)).slice b).port.transfer = none := by
    simp [Machine.tell]
  have h1q : ((Machine.tell b (.block r.tag r.next (s.cache.entry t.entry).data) (Machine.unpin b t s)).slice b).port.queue ≠ [] := by
    simpa [Machine.tell] using hq
  unfold Machine.endRead
  dsimp only
  generalize Machine.tell b (.block r.tag r.next (s.cache.entry t.entry).data) (Machine.unpin b t s) = u at h1 h1t h1q
  split
  · exact k.settle (k.complete u b r .good h1t h1)
  · have h2 := k.advance u b r.serial h1t h1
    split
    · refine k.serve _ _ _ (k.ask _ _ _ _ ?_ h2)
      simpa [modRequest] using h1q
    · exact k.serve _ _ _ h2

theorem transferEnd {data : Block} (h : P s) : Leads (execTransferEnd b data s) P := by
  unfold execTransferEnd
  split
  · exact leads_next.mpr h
  case h_2 t ht =>
    split
    · exact leads_next.mpr (k.settle (k.unpin s b t ht h))
    case h_2 r hr =>
      rw [leads_next]
      split
      case isTrue hw => exact k.settle (k.written s b t r data ht hw hr h)
      case isFalse => exact k.endRead ht hr h

/-! ### Requests of the management processor and deadlines -/

theorem insertAct {n : Nat} {w e : Bool} (h : P s) : P (insertAct n w e b s).state := by
  unfold Machine.insertAct
  split
  · exact h
  · split
    · exact h
    case isFalse hm => exact k.insert s b _ (by simpa using hm) rfl h

theorem ejectAct {force : Bool} (h : P s) : P (ejectAct force b s).state := by
  unfold Machine.ejectAct
  split
  · exact h
  · exact k.settle (k.eject s b force h)

omit k in
theorem countAnswer_keeps (code : ReplyCode) (c : Cache) : (countAnswer code c).entries = c.entries ∧ (countAnswer code c).fetches = c.fetches ∧
    (countAnswer code c).writebacks = c.writebacks ∧ (countAnswer code c).lastFetchId = c.lastFetchId ∧
    (countAnswer code c).lastWritebackId = c.lastWritebackId := by
  cases code <;> exact ⟨rfl, rfl, rfl, rfl, rfl⟩

theorem answerCounted {code : ReplyCode} (h : P s) : P (answerCounted code s).state := k.cache s _ (countAnswer_keeps code) h

theorem countTimeout (h : P s) : P (countTimeout s) :=
  k.cache s (fun c => { c with counters := { c.counters with timeout := bump c.counters.timeout } }) (fun _ => ⟨rfl, rfl, rfl, rfl, rfl⟩) h

theorem cacheSetAct {f : CacheFields} (h : P s) : P (cacheSetAct f s).state := by
  simp only [Machine.cacheSetAct, accept_state]
  exact k.cache s _ (fun _ => ⟨rfl, rfl, rfl, rfl, rfl⟩) h

theorem fillAct {id i g : Nat} {data : Block} (h : P s) : P (fillAct id i g data s).state := by
  unfold Machine.fillAct
  split
  · exact k.answerCounted h
  case h_2 r hr =>
    obtain rfl := fetchOf_id hr
    split
    case isTrue ho =>
      have ht : P (if i < r.marks.length then s.modCache fun c => c.markFetch r i else s) := by
        split
        · exact k.fillOrphan s r i hr ho h
        · exact h
      dsimp only
      generalize (if i < r.marks.length then s.modCache fun c => c.markFetch r i else s) = u at ht
      refine k.answerCounted ?_
      split
      · exact k.settle ht
      · exact ht
    case isFalse ho =>
      split
      · exact k.answerCounted h
      · split
        · exact k.answerCounted h
        · split
          · exact k.answerCounted h
          case isFalse hlen hmark =>
            refine k.settle (k.fill s r i data hr (by simpa using ho) ?_ h)
            rw [List.getElem?_eq_getElem (by omega)]
            simpa [List.getD_eq_getElem?_getD, List.getElem?_eq_getElem (Nat.lt_of_not_le hlen)] using hmark

theorem fillFailAct {id : Nat} (h : P s) : P (fillFailAct id s).state := by
  unfold Machine.fillFailAct
  split
  · exact k.answerCounted h
  case h_2 r hr =>
    obtain rfl := fetchOf_id hr
    split
    case isTrue ho => exact k.answerCounted (k.settle (k.dropFetch s r hr ho h))
    case isFalse ho => exact k.settle (k.fail s r hr (by simpa using ho) h)

theorem fetchDeadlineExpiry {id : Byte} (h : P s) : Leads (execFetchDeadlineExpiry id s) P := by
  unfold execFetchDeadlineExpiry
  split
  · exact leads_next.mpr h
  case h_2 r hr =>
    have hid := fetchOf_id hr
    rw [← hid] at hr
    refine Leads.ite (fun _ => leads_next.mpr h) fun _ => Leads.ite (fun ho => leads_next.mpr ?_) fun ho => leads_next.mpr ?_
    · exact k.settle (k.countTimeout (k.dropFetch s r hr ho h))
    · exact k.settle (k.fail (Machine.countTimeout s) r hr (by simpa using ho) (k.countTimeout h))

theorem resolveWriteback {r : WritebackRecord} {ok : Bool} (hr : s.cache.writebackOf r.id = some r) (ho : r.orphan = false) (h : P s) :
    P (resolveWriteback r ok s) := by
  refine k.settle (k.resolve s r _ _ hr ho (fun hk => ?_) h)
  simp only [Bool.and_eq_true, decide_eq_true_eq] at hk
  exact hk.2

theorem writeDoneAct {id : Nat} {ok : Bool} (h : P s) : P (writeDoneAct id ok s).state := by
  unfold Machine.writeDoneAct
  split
  · exact k.answerCounted h
  case h_2 r hr =>
    obtain rfl := writebackOf_id hr
    split
    case isTrue ho => exact k.answerCounted (k.settle (k.dropWriteback s r hr ho h))
    case isFalse ho => exact k.resolveWriteback hr (by simpa using ho) h

theorem writebackDeadlineExpiry {id : Byte} (h : P s) : Leads (execWritebackDeadlineExpiry id s) P := by
  unfold execWritebackDeadlineExpiry
  split
  · exact leads_next.mpr h
  case h_2 r hr =>
    have hid := writebackOf_id hr
    rw [← hid] at hr
    refine Leads.ite (fun _ => leads_next.mpr h) fun _ => Leads.ite (fun ho => leads_next.mpr ?_) fun ho => leads_next.mpr ?_
    · exact k.settle (k.countTimeout (k.dropWriteback s r hr ho h))
    · exact k.resolveWriteback (s := Machine.countTimeout s) hr (by simpa using ho) (k.countTimeout h)

/-! ### Steps -/

theorem powerKeeps : PowerKeeps P where
  seq _ _ _ h := k.same (fun _ => ⟨rfl, rfl⟩) h
  grant s _ h := k.congr s _ (fun _ => ⟨rfl, rfl⟩) rfl rfl h
  flag _ _ _ h := k.flag h
  responder _ _ _ h := k.same (fun _ => ⟨rfl, rfl⟩) h
  suspend _ _ _ h := k.of_same (fun p hp => suspendMonitor_same (by rintro rfl; simp [Part.moving, Part.isMedium] at hp)) h
  reach _ _ h := k.same (fun _ => ⟨rfl, rfl⟩) h
  taken _ _ h := k.same (fun _ => ⟨rfl, rfl⟩) h
  detect _ _ h := k.of_same (fun p hp => startDetection_same (by cases p <;> simp_all [Part.moving, Part.isMedium, Part.detecting])) h
  media _ _ h := k.mediaPowerLoss h
  policy s _ h := k.congr s _ (fun _ => ⟨rfl, rfl⟩) rfl rfl h

theorem linkKeeps : LinkKeeps P where
  link s _ _ h := k.congr s _ (fun _ => ⟨rfl, rfl⟩) rfl rfl h
  free s _ h := k.congr s _ (fun _ => ⟨rfl, rfl⟩) rfl rfl h
  report s h := k.congr s _ (fun _ => ⟨rfl, rfl⟩) rfl rfl h
  sendFetch s id h := k.fetchNotice s _ (fun r => by split <;> exact ⟨rfl, rfl, rfl, rfl, rfl, rfl⟩) h
  sendWriteback s id h := k.writebackNotice s _ (fun r => by split <;> exact ⟨rfl, rfl, rfl, rfl, rfl, rfl⟩) h
  fetchSent s id h := by
    refine k.fetchNotice s (fun r => if r.id = id then
      (if r.notice = .sending then { r with notice := .sent, deadline := some s.cache.fetchTimeout } else r) else r) (fun r => ?_) h
    split
    · split <;> exact ⟨rfl, rfl, rfl, rfl, rfl, rfl⟩
    · exact ⟨rfl, rfl, rfl, rfl, rfl, rfl⟩
  writebackSent s id h := by
    refine k.writebackNotice s (fun r => if r.id = id then
      (if r.notice = .sending then { r with notice := .sent, deadline := some s.cache.writebackTimeout } else r) else r) (fun r => ?_) h
    split
    · split <;> exact ⟨rfl, rfl, rfl, rfl, rfl, rfl⟩
    · exact ⟨rfl, rfl, rfl, rfl, rfl, rfl⟩
  console s b h := by
    unfold startConsole
    split
    · exact h
    case h_2 st _ =>
      have hm : P (s.modHistory b fun h => { h with stream := some (st.consume ((s.slice b).history.noticeEntries st).length) }) :=
        k.same (fun _ => ⟨rfl, rfl⟩) h
      exact k.congr (s.modHistory b fun h => { h with stream := some (st.consume ((s.slice b).history.noticeEntries st).length) }) _
        (fun _ => ⟨rfl, rfl⟩) rfl rfl hm

theorem restartNow (h : P s) : P (restartNow s) := by
  unfold Machine.restartNow
  split
  · exact k.reset _ _ _ h
  · exact k.powerKeeps.policy _ _ h

/-- What the media side neither reads nor writes. -/
theorem takeAny_of_untouched {i : Instr} (hi : ∀ p : Part, p.moving = true ∨ p.isMedium = true ∨ p = .serials → mayTouch i p = false)
    (h : P s) : P (takeAny i s) :=
  k.of_same (fun p hp => takeAny_same i (hi p hp)) h

theorem takeAny (i : Instr) (hi : i.isRequest = true) (h : P s) : P (takeAny i s) := by
  have l := k.linkKeeps
  have p := k.powerKeeps
  cases i with
  | restart tag => exact l.takeRestart (fun _ => k.restartNow) h
  | powerOffHard tag bay => exact l.takeBayRequest (fun _ _ => p.powerOffHardAct) h
  | powerCycle tag bay => exact l.takeBayRequest (fun _ _ => p.powerCycleAct) h
  | insert tag bay capacity writable eject =>
    exact l.takeRequest (fun s hs => withField_keeps hs fun _ => withField_keeps hs fun _ => onBay_keeps hs fun _ => k.insertAct hs) h
  | eject tag bay force => exact l.takeRequest (fun s hs => withField_keeps hs fun _ => onBay_keeps hs fun _ => k.ejectAct hs) h
  | cacheSet tag f => exact l.takeRequest (fun _ => k.cacheSetAct) h
  | fill tag id index generation data => exact l.takeRequest (fun _ => k.fillAct) h
  | fillFail tag id => exact l.takeRequest (fun _ => k.fillFailAct) h
  | writeDone tag id outcome => exact l.takeRequest (fun s hs => withField_keeps hs fun _ => k.writeDoneAct hs) h
  | _ =>
    first
    | exact Bool.noConfusion hi
    | refine k.takeAny_of_untouched (fun p hp => ?_) h
      cases p <;> simp_all [mayTouch, Part.ofBay, Part.accounting, Part.sending, Part.detecting, Part.moving, Part.flagging,
        Part.granting, Option.any_eq_false, Part.isMedium]

theorem exec_of_untouched {i : Instr} (hport : ∀ b, mayTouch i (.port b) = false) (hmedium : ∀ b, mayTouch i (.medium b) = false)
    (hcache : mayTouch i .cache = false) (hserials : mayTouch i .serials = false) (h : P s) : Leads (exec i s) P :=
  fun t ht => k.congr s t (fun b => ⟨exec_same i (hport b) t ht, exec_same i (hmedium b) t ht⟩) (exec_same i hcache t ht)
    (exec_same i hserials t ht) h

theorem warmReset (h : P s) : P (warmReset s) :=
  k.reset _ _ _ (k.congr s _ (fun _ => ⟨rfl, rfl⟩) rfl rfl h)

theorem coldReset (s : State) : P (coldReset s) :=
  k.powerKeeps.coldReset (fun s _ h => k.congr s _ (fun _ => ⟨rfl, rfl⟩) rfl rfl h) (k.cold s)

theorem exec_event (i : Instr) (hi : i.isRequest = false) (h : P s) : Leads (exec i s) P := by
  have hx (mosi : Byte) : P (exchange mosi s) := k.linkKeeps.exchange (fun _ _ => k.takeAny _) h
  have p := k.powerKeeps
  cases i with
  | outgoingFrameStart mosi => exact leads_next_ite (fun _ => hx mosi) h
  | outgoingFrameEnd mosi => exact leads_next_ite (fun _ => hx mosi) h
  | byteExchange mosi => exact leads_next.mpr (hx mosi)
  | monitorRequestTaken bay => exact p.monitorRequestTaken h
  | pgoodChange bay level => exact p.pgoodChange h
  | powerGoodTimerExpiry bay => exact p.powerGoodTimerExpiry h
  | softStopWaitExpiry bay => exact p.softStopWaitExpiry h
  | mediaOpen bay => exact k.mediaOpen h
  | mediaClose bay => exact k.mediaClose h
  | read bay tag start count => exact k.read h
  | write bay tag start count => exact k.write h
  | capacity bay tag => exact k.capacity h
  | ready bay tag => exact k.ready h
  | serverRequestInvalid bay tag => exact k.serverRequestInvalid h
  | transferEnd bay data => exact k.transferEnd h
  | fetchDeadlineExpiry id => exact k.fetchDeadlineExpiry h
  | writebackDeadlineExpiry id => exact k.writebackDeadlineExpiry h
  | storeWriteComplete =>
    exact storeWriteComplete_keeps (fun _ _ hs => k.linkKeeps.setPartFlag hs) (fun _ _ hs => p.policy _ _ hs) (fun _ hs => k.reset _ _ _ hs) h
  | coldReset pinAsserted =>
    refine leads_next.mpr ?_
    split
    · exact k.warmReset (k.coldReset s)
    · exact k.coldReset s
  | warmReset => exact Leads.ite (fun _ => leads_next.mpr h) fun _ => leads_next.mpr (k.warmReset h)
  | _ =>
    first
    | exact Bool.noConfusion hi
    | exact k.exec_of_untouched (fun _ => rfl) (fun _ => rfl) rfl rfl h

theorem step (hpending : ∀ s q, P s → P { s with pending := q }) : ∀ s t : State, P s → step s = .next t → P t :=
  step_keeps hpending (exec_keeps (fun i _ hi => k.takeAny i hi) fun i _ hi => k.exec_event i hi)

end MediaKeeps

end Sys2Proof.Machine
end

section
/-! PROOFS. Every step keeps the cache free of a block held twice and its tables within their sizes (chapter 8). -/

namespace Sys2Proof.Machine

variable {s t u : State} {b : Bay} {c : Cache} {i j : Fin 256} {k : BlockKey}

/-! ## Entries -/

@[simp] theorem Cache.entry_modEntry (c : Cache) (i j : Fin 256) (f : CacheEntry → CacheEntry) :
    (c.modEntry i f).entry j = if j = i then f (c.entry i) else c.entry j := by
  unfold Cache.modEntry Cache.entry
  split
  case isTrue h => rw [h, get_set_self]
  case isFalse h => exact get_set_ne _ h _

@[simp] theorem Cache.entry_mapEntries (c : Cache) (j : Fin 256) (f : CacheEntry → CacheEntry) :
    (c.mapEntries f).entry j = f (c.entry j) := by
  simp [Cache.mapEntries, Cache.entry, Vector.get_eq_getElem]

theorem Cache.entry_use (c : Cache) (i j : Fin 256) :
    (c.use i).entry j = if j = i then { c.entry i with stamp := c.useCounter + 1 } else c.entry j := by
  unfold Cache.use
  rw [Cache.entry_modEntry]
  rfl

/-- The entry taken as a victim holds its new block and has recorded a use; the others stay (R131, R134). -/
theorem Cache.entry_take (c : Cache) (i j : Fin 256) (k : BlockKey) (st : EntryState) (o : Option Owner) :
    (c.take i k st o).entry j =
      if j = i then { c.entry i with state := st, key := some k, owner := o, stamp := c.useCounter + 1 } else c.entry j := by
  have hm := Cache.entry_modEntry c i (f := fun e => { e with state := st, key := some k, owner := o })
  unfold Cache.take
  rw [Cache.entry_use, hm, hm]
  split
  · rw [if_pos rfl]
    rfl
  · rfl

/-- The entry that a transfer starts on is pinned and has recorded a use; the others stay (R130, R131). -/
theorem Cache.entry_pin (c : Cache) (i j : Fin 256) :
    ((c.modEntry i fun e => { e with pinned := true }).use i).entry j =
      if j = i then { c.entry i with pinned := true, stamp := c.useCounter + 1 } else c.entry j := by
  have hm := Cache.entry_modEntry c i (f := fun e => { e with pinned := true })
  rw [Cache.entry_use, hm, hm]
  split
  · rw [if_pos rfl]
    rfl
  · rfl

theorem Cache.find_spec (h : c.find k = some i) : (c.entry i).state ≠ .free ∧ (c.entry i).key = some k := by
  simpa using List.find?_some h

theorem Cache.find_none (h : c.find k = none) (j : Fin 256) : (c.entry j).state ≠ .free → (c.entry j).key ≠ some k := by
  have := List.find?_eq_none.mp h j (List.mem_finRange j)
  simpa using this

theorem Cache.oldest_mem {l : List (Fin 256)} : ∀ {i}, c.oldest l = some i → i ∈ l := by
  induction l with
  | nil => exact nofun
  | cons a rest ih =>
    intro i h
    unfold Cache.oldest at h
    split at h
    · cases h
      exact List.mem_cons_self
    case h_2 j hj =>
      split at h <;> cases h
      · exact List.mem_cons_of_mem _ (ih hj)
      · exact List.mem_cons_self

/-- A victim is not pinned, and FREE or VALID (R133). -/
theorem Cache.victim_spec (h : c.victim b = some i) :
    (c.entry i).pinned = false ∧ ((c.entry i).state = .free ∨ (c.entry i).state = .valid) := by
  unfold Cache.victim at h
  split at h
  case h_1 j hj =>
    cases h
    have := List.find?_some hj
    simp only [Cache.freeVictim, Bool.and_eq_true, decide_eq_true_eq, Bool.not_eq_true'] at this
    exact ⟨this.2, .inl this.1⟩
  case h_2 =>
    have := (List.mem_filter.mp (Cache.oldest_mem h)).2
    simp only [Cache.validVictim, Bool.and_eq_true, decide_eq_true_eq, Bool.not_eq_true'] at this
    exact ⟨this.1.2, .inr this.1.1⟩

/-! ## Places of the writeback table (R142) -/

/-- The place a transfer reserves. -/
def placeOf (t : Option Transfer) : Nat := if t.any fun t => t.write then 1 else 0

theorem countP_eq_sum {α : Type} (p : α → Bool) (l : List α) : l.countP p = (l.map fun x => if p x then 1 else 0).sum := by
  induction l with
  | nil => rfl
  | cons x rest ih =>
    rw [List.countP_cons, ih, List.map_cons, List.sum_cons]
    omega

theorem reservedPlaces_eq_sum (s : State) : reservedPlaces s = (s.slices.toList.map fun x => placeOf x.port.transfer).sum :=
  countP_eq_sum _ _

theorem reservedPlaces_eq (s : State) : reservedPlaces s = ((List.finRange 8).map fun b => placeOf (s.slice b).port.transfer).sum := by
  have hl : s.slices.toList = (List.finRange 8).map s.slice := by
    apply List.ext_getElem <;> simp [State.slice, Vector.get_eq_getElem]
  rw [reservedPlaces_eq_sum, hl, List.map_map]
  rfl

theorem reservedPlaces_congr (h : ∀ b, (t.slice b).port.transfer = (s.slice b).port.transfer) : reservedPlaces t = reservedPlaces s := by
  simp only [reservedPlaces_eq, h]

/-- The places reserved, as the transfer of one bay changes. -/
theorem reservedPlaces_modPort (s : State) (b : Bay) (f : Port → Port) :
    reservedPlaces (s.modPort b f) + placeOf (s.slice b).port.transfer = reservedPlaces s + placeOf (f (s.slice b).port).transfer := by
  have hset : (s.modPort b f).slices.toList.map (fun x => placeOf x.port.transfer) =
      (s.slices.toList.map fun x => placeOf x.port.transfer).set b.val (placeOf (f (s.slice b).port).transfer) := by
    simp [State.modSlice, Vector.toList_set, List.map_set]
  have hget : (s.slices.toList.map fun x => placeOf x.port.transfer)[b.val]'(by simp) = placeOf (s.slice b).port.transfer := by
    simp [State.slice, Vector.get_eq_getElem]
  have hsum := list_sum_set (s.slices.toList.map fun x => placeOf x.port.transfer) b.val (by simp) (placeOf (f (s.slice b).port).transfer)
  rw [hget] at hsum
  rw [reservedPlaces_eq_sum, reservedPlaces_eq_sum, hset]
  exact hsum

/-! ## Blocks held once (R129) -/

/-- No block is held twice, and a FREE entry holds none. -/
structure EntriesWf (e : Fin 256 → CacheEntry) : Prop where
  free : ∀ i, (e i).state = .free → (e i).key = none
  unique : ∀ i j, (e i).key ≠ none → (e i).key = (e j).key → i = j

theorem cacheWf_iff : s.CacheWf ↔ EntriesWf s.cache.entry ∧ s.cache.fetches.length ≤ 32 ∧ usedPlaces s ≤ 16 :=
  ⟨fun ⟨h1, h2, h3, h4⟩ => ⟨⟨h1, h2⟩, h3, h4⟩, fun ⟨⟨h1, h2⟩, h3, h4⟩ => ⟨h1, h2, h3, h4⟩⟩

/-- An entry that holds what it held, or nothing. -/
def CacheEntry.Less (x y : CacheEntry) : Prop := y.key = none ∨ y.key = x.key ∧ (y.state = .free → x.state = .free)

theorem CacheEntry.Less.refl (x : CacheEntry) : x.Less x := .inr ⟨rfl, id⟩

theorem CacheEntry.Less.trans {x y z : CacheEntry} (h₁ : x.Less y) (h₂ : y.Less z) : x.Less z := by
  rcases h₂ with hz | ⟨hk, hs⟩
  · exact .inl hz
  · rcases h₁ with hy | ⟨hk', hs'⟩
    · exact .inl (hk.trans hy)
    · exact .inr ⟨hk.trans hk', fun hz => hs' (hs hz)⟩

theorem CacheEntry.release_less (x : CacheEntry) : x.Less x.release := .inl rfl

theorem EntriesWf.less {e f : Fin 256 → CacheEntry} (h : EntriesWf e) (hl : ∀ i, (e i).Less (f i)) : EntriesWf f where
  free i hs := by
    rcases hl i with hk | ⟨hk, hst⟩
    · exact hk
    · exact hk.trans (h.free i (hst hs))
  unique i j hi hij := by
    rcases hl i with hk | ⟨hk, _⟩
    · exact absurd hk hi
    · rcases hl j with hk' | ⟨hk', _⟩
      · exact absurd (hij.trans hk') hi
      · exact h.unique i j (hk ▸ hi) (hk.symm.trans (hij.trans hk'))

/-- A block that is missing is held by no entry. -/
theorem EntriesWf.missing (h : EntriesWf c.entry) (hf : c.find k = none) (j : Fin 256) : (c.entry j).key ≠ some k := by
  by_cases hs : (c.entry j).state = .free
  · rw [h.free j hs]
    exact nofun
  · exact Cache.find_none hf j hs

/-- An entry takes a block that no entry holds. -/
theorem EntriesWf.take (h : EntriesWf c.entry) (hk : ∀ j, (c.entry j).key ≠ some k) {st : EntryState} (hst : st ≠ .free)
    (o : Option Owner) : EntriesWf (c.take i k st o).entry where
  free j hs := by
    rw [Cache.entry_take] at hs ⊢
    split at hs
    · exact absurd hs hst
    · rw [if_neg ‹_›]
      exact h.free j hs
  unique j l hj hjl := by
    rw [Cache.entry_take] at hj hjl
    rw [Cache.entry_take] at hjl
    split at hjl
    case isTrue hji =>
      split at hjl
      case isTrue hli => exact hji.trans hli.symm
      case isFalse => exact absurd hjl.symm (hk l)
    case isFalse hji =>
      split at hjl
      case isTrue => exact absurd hjl (hk j)
      case isFalse => exact h.unique j l (by rwa [if_neg hji] at hj) hjl

/-! ## What only frees -/

/-- `t` holds no more than `s`: each entry what it held or nothing, and no more records and places taken. -/
structure CacheLess (s t : State) : Prop where
  entries : ∀ i, (s.cache.entry i).Less (t.cache.entry i)
  fetches : t.cache.fetches.length ≤ s.cache.fetches.length
  places : usedPlaces t ≤ usedPlaces s

theorem CacheLess.trans (h₁ : CacheLess s t) (h₂ : CacheLess t u) : CacheLess s u :=
  ⟨fun i => (h₁.entries i).trans (h₂.entries i), h₂.fetches.trans h₁.fetches, h₂.places.trans h₁.places⟩

theorem State.CacheWf.less (h : s.CacheWf) (hl : CacheLess s t) : t.CacheWf := by
  obtain ⟨he, hf, hp⟩ := cacheWf_iff.mp h
  exact cacheWf_iff.mpr ⟨he.less hl.entries, hl.fetches.trans hf, hl.places.trans hp⟩

theorem CacheLess.of_eq (hc : t.cache = s.cache) (ht : ∀ b, (t.slice b).port.transfer = (s.slice b).port.transfer) : CacheLess s t := by
  refine ⟨fun i => ?_, by rw [hc], ?_⟩
  · rw [hc]
    exact .refl _
  · rw [usedPlaces, usedPlaces, hc, reservedPlaces_congr ht]

theorem CacheLess.refl (s : State) : CacheLess s s := .of_eq rfl fun _ => rfl

theorem CacheLess.modSlice {f : Slice → Slice} (hf : ∀ x, (f x).port.transfer = x.port.transfer) : CacheLess s (s.modSlice b f) :=
  .of_eq rfl fun c => State.slice_modSlice_of (fun x => x.port.transfer) s b c f hf

theorem CacheLess.modPort {f : Port → Port} (hf : ∀ p, (f p).transfer = p.transfer) : CacheLess s (s.modPort b f) :=
  .modSlice fun _ => hf _

theorem CacheLess.modMedium {f : Medium → Medium} : CacheLess s (s.modMedium b f) :=
  .modSlice (f := fun x => { x with medium := f x.medium }) fun _ => rfl

theorem CacheLess.setFlag {f : BayFlag} : CacheLess s (setFlag b f s) :=
  .of_eq (setFlag_same (p := .cache) rfl) fun c => congrArg Port.transfer (setFlag_same (p := .port c) rfl)

theorem CacheLess.modCache {f : Cache → Cache} (he : ∀ i, (s.cache.entry i).Less ((f s.cache).entry i))
    (hf : (f s.cache).fetches.length ≤ s.cache.fetches.length) (hw : (f s.cache).writebacks.length ≤ s.cache.writebacks.length) :
    CacheLess s (s.modCache f) :=
  ⟨he, hf, Nat.add_le_add_right hw _⟩

theorem CacheLess.tell {m : PortMessage} : CacheLess s (tell b m s) := .modPort (f := fun p => { p with sent := p.sent ++ [m] }) fun _ => rfl

theorem CacheLess.complete {r : ServerRequest} {st : ServerStatus} : CacheLess s (complete b r st s) :=
  (CacheLess.modPort (f := fun p => { p with queue := p.queue.filter fun q => q.serial ≠ r.serial }) fun _ => rfl).trans .tell

theorem CacheLess.modRequest {n : Nat} {f : ServerRequest → ServerRequest} : CacheLess s (modRequest b n f s) :=
  .modPort (f := fun p => { p with queue := p.queue.map fun r => if r.serial = n then f r else r }) fun _ => rfl

/-- The transfer of a bay ends, with its entry as it was or FREE. -/
theorem CacheLess.endTransfer {tr : Transfer} {f : CacheEntry → CacheEntry} (hf : ∀ e : CacheEntry, e.Less (f e)) :
    CacheLess s ((s.modCache fun c => c.modEntry tr.entry f).modPort b fun p => { p with transfer := none }) := by
  have hsum := reservedPlaces_modPort (s.modCache fun c => c.modEntry tr.entry f) b fun p => { p with transfer := none }
  refine ⟨fun i => ?_, Nat.le_refl _, ?_⟩
  · simp only [State.modSlice_cache, State.modCache_cache, Cache.entry_modEntry]
    split
    case isTrue h => exact h ▸ hf _
    case isFalse => exact .refl _
  · have hr : reservedPlaces (s.modCache fun c => c.modEntry tr.entry f) = reservedPlaces s := reservedPlaces_congr fun _ => rfl
    have hw : (s.cache.modEntry tr.entry f).writebacks = s.cache.writebacks := rfl
    have hz : placeOf none = 0 := rfl
    simp only [usedPlaces, State.modSlice_cache, State.modCache_cache, hw]
    simp only [hz, hr] at hsum
    omega

theorem CacheLess.unpin {tr : Transfer} : CacheLess s (unpin b tr s) := CacheLess.endTransfer fun _ => .inr ⟨rfl, id⟩

theorem CacheLess.abandon : CacheLess s (abandon b s) := by
  unfold Machine.abandon
  split
  · exact .refl s
  · refine CacheLess.endTransfer fun e => ?_
    dsimp only
    split
    · exact .inl rfl
    · exact .inr ⟨rfl, id⟩

theorem CacheLess.forgetRequests : CacheLess s (forgetRequests b s) :=
  .modCache (fun _ => .refl _) (Nat.le_refl _) (by simp)

theorem CacheLess.freeHeld {st : EntryState} : CacheLess s (freeHeld b st s) := by
  refine .modCache (fun i => ?_) (Nat.le_refl _) (Nat.le_refl _)
  rw [Cache.entry_mapEntries]
  split
  · exact CacheEntry.release_less _
  · exact .refl _

theorem CacheLess.emptyMedium : CacheLess s (emptyMedium b s) := CacheLess.modMedium.trans .setFlag

theorem orphanFetches_length_le (b : Bay) (rs : List FetchRecord) : (orphanFetches b rs).length ≤ rs.length := by
  rw [orphanFetches, List.length_map]
  exact List.length_filter_le _ _

theorem orphanWritebacks_length_le (b : Bay) (rs : List WritebackRecord) : (orphanWritebacks b rs).length ≤ rs.length := by
  rw [orphanWritebacks, List.length_map]
  exact List.length_filter_le _ _

theorem CacheLess.forceEject : CacheLess s (forceEject b s) :=
  (CacheLess.modCache (f := fun c => { c with writebacks := orphanWritebacks b c.writebacks }) (fun _ => .refl _) (Nat.le_refl _)
    (orphanWritebacks_length_le _ _)).trans (CacheLess.freeHeld.trans .emptyMedium)

theorem CacheLess.endRequests : CacheLess s (endRequests b s) :=
  CacheLess.forgetRequests.trans (.modPort
    (f := fun p => { p with queue := [], sent := p.sent ++ p.queue.map fun r => .status r.tag .notReady }) fun _ => rfl)

theorem CacheLess.orphanFetches : CacheLess s (s.modCache fun c => { c with fetches := orphanFetches b c.fetches }) :=
  .modCache (f := fun c => { c with fetches := Machine.orphanFetches b c.fetches }) (fun _ => .refl _) (orphanFetches_length_le _ _)
    (Nat.le_refl _)

theorem CacheLess.ejectPresent {force : Bool} : CacheLess s (ejectPresent force b s) := by
  have h3 : CacheLess s (Machine.freeHeld b .valid ((Machine.freeHeld b .filling (Machine.endRequests b (Machine.abandon b s))).modCache
      fun c => { c with fetches := Machine.orphanFetches b c.fetches })) :=
    CacheLess.abandon.trans (CacheLess.endRequests.trans (CacheLess.freeHeld.trans (CacheLess.orphanFetches.trans .freeHeld)))
  unfold Machine.ejectPresent
  refine h3.trans ?_
  dsimp only
  split
  · exact .emptyMedium
  · split
    · exact .forceEject
    · exact .modMedium

theorem CacheLess.ejectMedium {force : Bool} : CacheLess s (ejectMedium force b s) := by
  unfold Machine.ejectMedium
  split
  · exact .ejectPresent
  · split
    · exact .forceEject
    · exact .refl s
  · exact .refl s

theorem CacheLess.foldl_complete {st : ServerStatus} (rs : List ServerRequest) :
    ∀ s, CacheLess s (rs.foldl (fun s r => Machine.complete b r st s) s) := by
  induction rs with
  | nil => exact fun s => .refl s
  | cons r rest ih => exact fun s => CacheLess.complete.trans (ih _)

theorem CacheLess.dropFetch {id : Nat} : CacheLess s (s.modCache fun c => c.dropFetch id) :=
  .modCache (fun _ => .refl _) (List.length_filter_le _ _) (Nat.le_refl _)

theorem CacheLess.dropWriteback {id : Nat} : CacheLess s (s.modCache fun c => c.dropWriteback id) :=
  .modCache (fun _ => .refl _) (Nat.le_refl _) (List.length_filter_le _ _)

theorem CacheLess.mapEntries {f : CacheEntry → CacheEntry} (hf : ∀ e : CacheEntry, e.Less (f e)) : CacheLess s (s.modCache fun c => c.mapEntries f) :=
  .modCache (fun i => by rw [Cache.entry_mapEntries]; exact hf _) (Nat.le_refl _) (Nat.le_refl _)

theorem CacheLess.markFetch {r : FetchRecord} {n : Nat} : CacheLess s (s.modCache fun c => c.markFetch r n) := by
  unfold Cache.markFetch
  split
  · exact .dropFetch
  · exact .modCache (fun _ => .refl _) (by simp [Cache.modFetch]) (Nat.le_refl _)

theorem CacheLess.resolveBlock {failed : Bool} {n : Nat} : CacheLess s (resolveBlock b failed n s) := by
  have hm : CacheLess s (Machine.modRequest b n (fun r => { r with resolved := r.resolved + 1, failed := r.failed || failed }) s) :=
    .modRequest
  unfold Machine.resolveBlock
  refine hm.trans ?_
  dsimp only
  split
  · exact .refl _
  · split
    · split
      · exact CacheLess.complete.trans .setFlag
      · exact .complete
    · exact .refl _

theorem CacheLess.finishEject : CacheLess s (finishEject b s) := by
  unfold Machine.finishEject
  split
  · exact .emptyMedium
  · exact .refl s

theorem CacheLess.resolveEntry {keep : Bool} {id : Nat} {o : Option (Fin 256)} :
    CacheLess s (s.modCache fun c => (o.elim c fun i => resolveEntry keep i c).dropWriteback id) := by
  cases o with
  | none => exact .dropWriteback
  | some i =>
    refine .modCache (fun j => ?_) (Nat.le_refl _) (List.length_filter_le _ _)
    change (s.cache.entry j).Less ((Machine.resolveEntry keep i s.cache).entry j)
    unfold Machine.resolveEntry
    rw [Cache.entry_modEntry]
    split
    case isTrue h =>
      subst h
      split
      · exact .inr ⟨rfl, nofun⟩
      · exact CacheEntry.release_less _
    case isFalse => exact .refl _

/-! ## What is taken -/

/-- A transfer starts, with a place left for it where it is a WRITE's (R142). -/
theorem State.CacheWf.startTransfer {r : ServerRequest} (h : s.CacheWf) (ht : (s.slice b).port.transfer = none)
    (hw : r.write = true → usedPlaces s < 16) : (startTransfer b r i s).CacheWf := by
  obtain ⟨he, hf, hp⟩ := cacheWf_iff.mp h
  have hsum := reservedPlaces_modPort (s.modCache fun c => (c.modEntry i fun e => { e with pinned := true }).use i) b
    fun p => { p with transfer := some ⟨r.serial, r.write, i⟩ }
  have hr : reservedPlaces (s.modCache fun c => (c.modEntry i fun e => { e with pinned := true }).use i) = reservedPlaces s :=
    reservedPlaces_congr fun _ => rfl
  have hz : placeOf ((s.modCache fun c => (c.modEntry i fun e => { e with pinned := true }).use i).slice b).port.transfer = 0 := by
    rw [State.modCache_slice, ht]
    rfl
  have ho : placeOf (some ⟨r.serial, r.write, i⟩) = if r.write = true then 1 else 0 := rfl
  simp only [hr, hz, ho] at hsum
  refine cacheWf_iff.mpr ⟨he.less fun j => ?_, hf, ?_⟩
  · change (s.cache.entry j).Less (((s.cache.modEntry i fun e => { e with pinned := true }).use i).entry j)
    rw [Cache.entry_pin]
    split
    case isTrue h => exact h ▸ .inr ⟨rfl, id⟩
    case isFalse => exact .refl _
  · have hused : usedPlaces (Machine.startTransfer b r i s) = s.cache.writebacks.length + reservedPlaces (Machine.startTransfer b r i s) := rfl
    unfold usedPlaces at hp hw
    unfold Machine.startTransfer at hused ⊢
    rw [hused]
    split at hsum
    case isTrue h =>
      have := hw h
      omega
    case isFalse => omega

theorem State.CacheWf.take (h : s.CacheWf) {st : EntryState} (hst : st ≠ .free) {o : Option Owner} (hf : s.cache.find k = none) :
    (s.modCache fun c => c.take i k st o).CacheWf := by
  obtain ⟨he, hfe, hp⟩ := cacheWf_iff.mp h
  exact cacheWf_iff.mpr ⟨he.take (he.missing hf) hst o, hfe, hp⟩

/-! ## Fetches (R136) -/

/-- What each victim taken for a block keeps, the taking of victims for an extent keeps; `Q n rest c` speaks of the cache once `n` blocks
have theirs and `rest` is left. -/
theorem takeVictims_keeps {key : Nat → BlockKey} {id : Nat} (Q : Nat → List Nat → Cache → Prop)
    (hstep : ∀ n block rest c i, Q n (block :: rest) c → c.victim b = some i →
      Q (n + 1) rest (c.take i (key block) .filling (some (.fetch id n)))) :
    ∀ (l : List Nat) (n : Nat) (c : Cache), Q n l c → ∃ rest, Q (takeVictims key b id l n c).2.1 rest (takeVictims key b id l n c).1 := by
  intro l
  induction l with
  | nil => exact fun n c h => ⟨[], h⟩
  | cons block rest ih =>
    intro n c h
    unfold takeVictims
    split
    · exact ⟨_, h⟩
    case h_2 i hi => exact ih _ _ (hstep _ _ _ _ _ h hi)

/-- An extent is a run of blocks from its first on, all of them missing (R136). -/
theorem fetchExtent_run (s : State) (b : Bay) (last n : Nat) : ∀ block, ∃ m, fetchExtent s b last n block = List.range' block m ∧
    ∀ x ∈ List.range' block m, s.cache.find (s.key b x) = none := by
  induction n with
  | zero => exact fun block => ⟨0, rfl, nofun⟩
  | succ n ih =>
    intro block
    unfold fetchExtent
    split
    case isTrue h =>
      obtain ⟨m, hm, hall⟩ := ih (block + 1)
      simp only [Bool.and_eq_true, Option.isNone_iff_eq_none] at h
      refine ⟨m + 1, by rw [hm, List.range'_succ], fun x hx => ?_⟩
      rw [List.range'_succ] at hx
      rcases List.mem_cons.mp hx with rfl | hx
      · exact h.1.1
      · exact hall x hx
    case isFalse => exact ⟨0, rfl, nofun⟩

/-- The cache while an extent's victims are taken: no block held twice, the blocks left missing, the tables as they were. -/
structure Taking (c₀ : Cache) (key : Nat → BlockKey) (rest : List Nat) (c : Cache) : Prop where
  entries : EntriesWf c.entry
  missing : ∀ x ∈ rest, ∀ j, (c.entry j).key ≠ some (key x)
  once : rest.Nodup
  tables : c.fetches = c₀.fetches ∧ c.writebacks = c₀.writebacks ∧ c.lastFetchId = c₀.lastFetchId ∧ c.lastWritebackId = c₀.lastWritebackId

theorem Taking.take {c₀ : Cache} {key : Nat → BlockKey} (hkey : ∀ x y, key x = key y → x = y) {x : Nat} {rest : List Nat}
    (h : Taking c₀ key (x :: rest) c) {o : Option Owner} : Taking c₀ key rest (c.take i (key x) .filling o) where
  entries := h.entries.take (h.missing x List.mem_cons_self) (st := .filling) (by decide) o
  missing y hy j := by
    rw [Cache.entry_take]
    split
    · intro heq
      obtain rfl : x = y := hkey _ _ (Option.some.inj heq)
      exact (List.nodup_cons.mp h.once).1 hy
    · exact h.missing y (List.mem_cons_of_mem _ hy) j
  once := (List.nodup_cons.mp h.once).2
  tables := h.tables

theorem State.key_inj (s : State) (b : Bay) (x y : Nat) (h : s.key b x = s.key b y) : x = y := by
  simpa [State.key] using h

theorem State.CacheWf.taking (h : s.CacheWf) (last n block : Nat) :
    Taking s.cache (s.key b) (fetchExtent s b last n block) s.cache := by
  obtain ⟨m, hm, hall⟩ := fetchExtent_run s b last n block
  obtain ⟨he, _, _⟩ := cacheWf_iff.mp h
  rw [hm]
  exact ⟨he, fun x hx => he.missing (hall x hx), List.nodup_range', rfl, rfl, rfl, rfl⟩

theorem State.CacheWf.askFetch {block last : Nat} (h : s.CacheWf) : (askFetch b block last s).1.CacheWf := by
  unfold Machine.askFetch
  split
  · exact h
  case isFalse hroom =>
    dsimp only
    split
    · exact h
    · obtain ⟨_, _, hp⟩ := cacheWf_iff.mp h
      obtain ⟨rest, ht⟩ := takeVictims_keeps (b := b) (key := s.key b) (id := s.cache.nextFetchId)
        (fun _ rest c => Taking s.cache (s.key b) rest c) (fun n x rest c i hq _ => hq.take (s.key_inj b)) _ 0 _
        (h.taking (b := b) (last + s.cache.readAhead) 8 block)
      obtain ⟨hfetches, hwritebacks, _⟩ := ht.tables
      refine cacheWf_iff.mpr ⟨ht.entries, ?_, ?_⟩
      · simp only [State.modCache_cache, List.length_append, List.length_singleton, hfetches]
        have : Config.fetchMax = 32 := rfl
        omega
      · simp only [usedPlaces, State.modCache_cache, hwritebacks]
        exact hp

/-! ## Steps -/

/-- The record of a WRITE's block takes the place that its transfer held (R125, R142). -/
theorem State.CacheWf.written {tr : Transfer} {data : Block} (h : s.CacheWf)
    (ht : (s.slice b).port.transfer = some tr) (hw : tr.write = true) (g n m : Nat) :
    ((unpin b tr s).modCache fun c => c.makeDirty b g tr.entry n m data).CacheWf := by
  obtain ⟨he, hf, hp⟩ := cacheWf_iff.mp (h.less (CacheLess.unpin (b := b) (tr := tr)))
  obtain ⟨_, _, hp₀⟩ := cacheWf_iff.mp h
  have hsum := reservedPlaces_modPort (s.modCache fun c => c.modEntry tr.entry fun e => { e with pinned := false }) b
    fun p => { p with transfer := none }
  have hr : reservedPlaces (s.modCache fun c => c.modEntry tr.entry fun e => { e with pinned := false }) = reservedPlaces s :=
    reservedPlaces_congr fun _ => rfl
  have hold : placeOf ((s.modCache fun c => c.modEntry tr.entry fun e => { e with pinned := false }).slice b).port.transfer = 1 := by
    rw [State.modCache_slice, ht]
    simp [placeOf, hw]
  have hnew : placeOf none = 0 := rfl
  simp only [hr, hold, hnew] at hsum
  refine cacheWf_iff.mpr ⟨he.less fun j => ?_, hf, ?_⟩
  · have hm := Cache.entry_modEntry (unpin b tr s).cache tr.entry j fun e =>
      { e with state := .dirty, data := data, owner := some (.writeback (unpin b tr s).cache.nextWritebackId) }
    have hd : ((unpin b tr s).modCache fun c => c.makeDirty b g tr.entry n m data).cache.entry j =
      ((unpin b tr s).cache.modEntry tr.entry fun e =>
        { e with state := .dirty, data := data, owner := some (.writeback (unpin b tr s).cache.nextWritebackId) }).entry j := rfl
    rw [hd, hm]
    split
    case isTrue h => exact h ▸ .inr ⟨rfl, nofun⟩
    case isFalse => exact .refl _
  · have hplaces : usedPlaces ((unpin b tr s).modCache fun c => c.makeDirty b g tr.entry n m data) =
        s.cache.writebacks.length + 1 + reservedPlaces (unpin b tr s) := by
      simp only [usedPlaces, State.modCache_cache, Cache.makeDirty, List.length_append, List.length_singleton]
      rfl
    unfold usedPlaces at hp₀
    unfold unpin at hplaces ⊢
    omega

theorem State.CacheWf.controllerReset (causes : BitVec 4) (v : Bool) (s : State) : (controllerReset causes v s).CacheWf := by
  have he (i : Fin 256) : ((Machine.controllerReset causes v s).cache.entry i).key = none := by
    simp [Machine.controllerReset, Cache.afterReset, Cache.entry, Vector.get_eq_getElem, CacheEntry.release]
  refine cacheWf_iff.mpr ⟨⟨fun i _ => he i, fun i j hi => absurd (he i) hi⟩, Nat.zero_le _, ?_⟩
  rw [usedPlaces, reservedPlaces_eq]
  simp only [controllerReset_slice]
  exact (by decide : 0 + ((List.finRange 8).map fun _ => placeOf none).sum ≤ 16)

theorem coldBlocks_cacheWf (s : State) : (coldBlocks s).CacheWf := by
  have he (i : Fin 256) : ((coldBlocks s).cache.entry i).key = none := by
    simp [coldBlocks, Cache.entry, Vector.get_eq_getElem]
  refine cacheWf_iff.mpr ⟨⟨fun i _ => he i, fun i j hi => absurd (he i) hi⟩, Nat.zero_le _, ?_⟩
  rw [usedPlaces, reservedPlaces_eq]
  simp only [coldBlocks_slice]
  exact (by decide : 0 + ((List.finRange 8).map fun _ => placeOf none).sum ≤ 16)

theorem fillEntry_less (id n : Nat) (data : Block) (e : CacheEntry) : e.Less (fillEntry id n data e) := by
  unfold fillEntry
  split
  · exact .inr ⟨rfl, nofun⟩
  · exact .refl e

theorem mediaKeeps_cacheWf : MediaKeeps State.CacheWf where
  transfer s b r i _ ht _ _ hw h := h.startTransfer ht fun hr => (hw hr).2.2
  victim s b r i _ ht hf _ _ _ hp h := State.CacheWf.startTransfer (h.take (st := .valid) (by decide) hf) ht fun _ => hp
  ask s b block last _ h := h.askFetch
  congr s t hs hc _ h := h.less (.of_eq hc fun b => congrArg Port.transfer (hs b).1)
  port s b f hf h := h.less (.modSlice fun x => (hf x.port).2)
  changed s b v h := h.less (.modSlice fun _ => rfl)
  down s b h := h.less (CacheLess.abandon.trans (CacheLess.forgetRequests.trans (.modSlice fun _ => rfl)))
  eject s b force h := h.less .ejectMedium
  insert s b m _ _ h := h.less (.modSlice fun _ => rfl)
  admitted s b r _ _ h := (h.less (CacheLess.modSlice (b := b) (f := fun x => { x with port := { x.port with queue := x.port.queue ++ [r] } })
    fun _ => rfl)).less (.of_eq rfl fun _ => rfl)
  unpin s b t _ h := h.less .unpin
  complete s b r st _ h := h.less .complete
  advance s b n _ h := h.less .modRequest
  written s b t r data ht hw _ h := (h.written ht hw _ _ _).less .modRequest
  cache s f hf h := by
    obtain ⟨he, hfe, hwe, _⟩ := hf s.cache
    exact h.less (.modCache (fun i => by rw [Cache.entry, Cache.entry, he]; exact .refl _) (by rw [hfe]) (by rw [hwe]))
  fetchNotice s f _ h := h.less (.modCache (fun _ => .refl _) (by simp) (Nat.le_refl _))
  writebackNotice s f _ h := h.less (.modCache (fun _ => .refl _) (Nat.le_refl _) (by simp))
  fill s r n data _ _ _ h := h.less ((CacheLess.mapEntries (fillEntry_less r.id n data)).trans .markFetch)
  fillOrphan s r n _ _ h := h.less .markFetch
  fail s r _ _ h := by
    refine h.less (CacheLess.trans ?_ (.foldl_complete _ _))
    refine (CacheLess.mapEntries (f := fun e => if e.ofFetch r.id then e.release else e) fun e => ?_).trans .dropFetch
    split
    · exact e.release_less
    · exact .refl e
  dropFetch s r _ _ h := h.less .dropFetch
  resolve s r keep failed _ _ _ h := by
    refine State.CacheWf.less (State.CacheWf.less h (CacheLess.resolveEntry (keep := keep) (id := r.id) (o := r.entry))) ?_
    generalize (s.modCache fun c => (r.entry.elim c fun i => Machine.resolveEntry keep i c).dropWriteback r.id) = u
    refine CacheLess.trans ?_ .finishEject
    cases r.request with
    | none => exact .refl _
    | some n => exact .resolveBlock
  dropWriteback s r _ _ h := h.less .dropWriteback
  reset s causes v _ := .controllerReset causes v s
  cold s := coldBlocks_cacheWf s

theorem step_cacheWf : ∀ s t : State, s.CacheWf → step s = .next t → t.CacheWf :=
  mediaKeeps_cacheWf.step fun _ _ h => h.less (.of_eq rfl fun _ => rfl)

end Sys2Proof.Machine
end

section
/-! PROOFS. The cache tied to its tables, the media and the transfers, as a property of these alone: what each change to an entry, a record,
a queue or a medium keeps of it (chapters 7 and 8). -/

namespace Sys2Proof.Machine

variable {c d : Cache} {p q : Bay → Port} {m w : Bay → Medium} {n : Nat} {b : Bay} {i j : Fin 256} {e f : Fin 256 → CacheEntry}

/-! ## Ids (R135, R142) -/

theorem followingId_eq {last : Nat} (h : last ≤ 255) : followingId last = last % 255 + 1 := by
  unfold followingId
  split <;> omega

theorem followingId_range {last : Nat} (h : last ≤ 255) : 1 ≤ followingId last ∧ followingId last ≤ 255 := by
  rw [followingId_eq h]
  omega

theorem freshId_range (held : List Nat) (k : Nat) : ∀ last, last ≤ 255 → 1 ≤ freshId held k last ∧ freshId held k last ≤ 255 := by
  induction k with
  | zero => exact fun last h => followingId_range h
  | succ k ih =>
    intro last h
    unfold freshId
    split
    · exact ih _ (followingId_range h).2
    · exact followingId_range h

/-- The id found is the first that is not held, or every one of the ids tried is. -/
theorem freshId_spec (held : List Nat) (k : Nat) : ∀ last, last ≤ 255 →
    IdAfter held last (freshId held k last) ∨ ∀ j < k, (last + j) % 255 + 1 ∈ held := by
  induction k with
  | zero => exact fun last _ => .inr nofun
  | succ k ih =>
    intro last h
    have hf := followingId_eq h
    unfold freshId
    split
    case isTrue hheld =>
      have hmem : last % 255 + 1 ∈ held := by simpa [hf] using hheld
      have hshift (j : Nat) : (last % 255 + 1 + j) % 255 + 1 = (last + (j + 1)) % 255 + 1 := by omega
      rcases ih _ (followingId_range h).2 with ⟨x, hx, hnot, hall⟩ | hall
      · refine .inl ⟨x + 1, by rw [hx, hf, hshift], hnot, fun j hj => ?_⟩
        cases j with
        | zero => exact hmem
        | succ j => rw [← hshift, ← hf]; exact hall j (by omega)
      · refine .inr fun j hj => ?_
        cases j with
        | zero => exact hmem
        | succ j => rw [← hshift, ← hf]; exact hall j (by omega)
    case isFalse hfree => exact .inl ⟨0, hf, by simpa [hf] using hfree, nofun⟩

/-- With fewer than 255 ids held the id found is the first after the last that none holds (R135, R142). -/
theorem freshId_idAfter {held : List Nat} (hl : held.length < 255) {last : Nat} (h : last ≤ 255) : IdAfter held last (freshId held 255 last) := by
  refine (freshId_spec held 255 last h).resolve_right fun hall => ?_
  have hsub : (List.range 255).map (· + 1) ⊆ held := by
    intro v hv
    obtain ⟨x, hx, rfl⟩ := List.mem_map.mp hv
    have hx := List.mem_range.mp hx
    have hj := hall ((x + 255 - last % 255) % 255) (Nat.mod_lt _ (by decide))
    have : (last + (x + 255 - last % 255) % 255) % 255 = x := by omega
    rwa [this] at hj
  have hnodup : ((List.range 255).map (· + 1)).Nodup := List.nodup_range.map fun _ _ => by simp
  have := (hnodup.subperm hsub).length_le
  simp at this
  omega

/-! ## The parts of the tie -/

/-- An entry against the media: outside FREE it holds a block of a present generation, DIRTY where its medium is EJECT_PENDING, and it has
an owner while FILLING or DIRTY only (R115, R129). -/
structure CacheEntry.Tied (m : Bay → Medium) (x : CacheEntry) : Prop where
  current : x.state ≠ .free → ∃ k, x.key = some k ∧ (m k.bay).state ≠ .empty ∧ k.generation = (m k.bay).generation ∧
    ((m k.bay).state = .ejectPending → x.state = .dirty)
  unowned : x.state = .free ∨ x.state = .valid → x.owner = none

/-- FILLING entries and the unfilled blocks of the live fetch records are one to one (R137). -/
structure FetchesTied (e : Fin 256 → CacheEntry) (fs : List FetchRecord) : Prop where
  ids : (fs.map FetchRecord.id).Nodup ∧ ∀ r ∈ fs, 1 ≤ r.id ∧ r.id ≤ 255
  filling : ∀ i, (e i).state = .filling → ∃ r ∈ fs, ∃ x, r.orphan = false ∧ r.marks[x]? = some false ∧
    (e i).owner = some (.fetch r.id x) ∧ (e i).key = some ⟨r.bay, r.generation, r.first + x⟩
  unfilled : ∀ r ∈ fs, r.orphan = false → ∀ x, r.marks[x]? = some false →
    ∃ i, (e i).state = .filling ∧ (e i).owner = some (.fetch r.id x)

/-- DIRTY entries and the live writeback records are one to one (R143). -/
structure WritebacksTied (e : Fin 256 → CacheEntry) (ws : List WritebackRecord) : Prop where
  ids : (ws.map WritebackRecord.id).Nodup ∧ ∀ r ∈ ws, 1 ≤ r.id ∧ r.id ≤ 255
  dirty : ∀ i, (e i).state = .dirty → ∃ r ∈ ws, r.orphan = false ∧ r.entry = some i ∧
    (e i).owner = some (.writeback r.id) ∧ (e i).key = some ⟨r.bay, r.generation, r.block⟩
  unconfirmed : ∀ r ∈ ws, r.orphan = false → ∃ i, r.entry = some i ∧ (e i).state = .dirty ∧ (e i).owner = some (.writeback r.id)

/-- An entry is pinned exactly while the transfer of one bay uses it (R130). -/
structure PinsTied (e : Fin 256 → CacheEntry) (p : Bay → Port) : Prop where
  pinned : ∀ i, (e i).pinned = true ↔ ∃ b t, (p b).transfer = some t ∧ t.entry = i
  own : ∀ b c t u, (p b).transfer = some t → (p c).transfer = some u → t.entry = u.entry → b = c

/-- A transfer of bay `b` with its entry, the bay's queue and the present generation (R123 to R125). -/
structure Transfer.Tied (b : Bay) (queue : List ServerRequest) (g n : Nat) (x : CacheEntry) (t : Transfer) : Prop where
  serial : t.serial < n
  reading : t.write = false → (∀ r ∈ queue, r.serial = t.serial → r.write = false) ∧ (x.state = .free ∨ ∃ k, x.key = some k ∧ k.bay = b)
  writing : t.write = true → ∃ r ∈ queue, r.serial = t.serial ∧ r.write = true ∧ r.transferred < r.count ∧ x.state = .valid ∧
    x.key = some ⟨b, g, r.next⟩

/-- A queue told apart by its serials, on a PRESENT medium (R113, R120). -/
structure QueueTied (n : Nat) (queue : List ServerRequest) (st : MediumState) : Prop where
  serials : (queue.map ServerRequest.serial).Nodup
  fresh : ∀ r ∈ queue, r.serial < n
  present : queue ≠ [] → st = .present

/-- The cache, its tables, the ports, the media and the serials agree. -/
structure Tied (c : Cache) (p : Bay → Port) (m : Bay → Medium) (n : Nat) : Prop where
  queues : ∀ b, QueueTied n (p b).queue (m b).state
  entries : ∀ i, (c.entry i).Tied m
  fetches : FetchesTied c.entry c.fetches
  writebacks : WritebacksTied c.entry c.writebacks
  issued : c.lastFetchId ≤ 255 ∧ c.lastWritebackId ≤ 255
  pins : PinsTied c.entry p
  transfers : ∀ b t, (p b).transfer = some t → t.Tied b (p b).queue (m b).generation n (c.entry t.entry)

/-! ## One entry, one transfer -/

theorem CacheEntry.Tied.congr {x y : CacheEntry} (h : x.Tied m) (hs : y.state = x.state) (hk : y.key = x.key) (ho : y.owner = x.owner) :
    y.Tied m :=
  ⟨hs ▸ hk ▸ h.current, hs ▸ ho ▸ h.unowned⟩

theorem CacheEntry.tied_of_free {x : CacheEntry} (hs : x.state = .free) (ho : x.owner = none) : x.Tied m :=
  ⟨fun h => absurd hs h, fun _ => ho⟩

/-- A VALID entry of a PRESENT medium. -/
theorem CacheEntry.tied_of_present {x : CacheEntry} {k : BlockKey} (hk : x.key = some k) (hp : (m k.bay).state = .present)
    (hg : k.generation = (m k.bay).generation) (ho : x.state = .free ∨ x.state = .valid → x.owner = none) : x.Tied m :=
  ⟨fun _ => ⟨k, hk, by simp [hp], hg, by simp [hp]⟩, ho⟩

theorem Transfer.Tied.congr {l : List ServerRequest} {g : Nat} {x y : CacheEntry} {t : Transfer} (h : t.Tied b l g n x)
    (hs : y.state = x.state) (hk : y.key = x.key) : t.Tied b l g n y :=
  ⟨h.serial, hs ▸ hk ▸ h.reading, hs ▸ hk ▸ h.writing⟩

/-- A transfer whose entry is freed is a READ's. -/
theorem Transfer.Tied.freed {l : List ServerRequest} {g : Nat} {x y : CacheEntry} {t : Transfer} (h : t.Tied b l g n x)
    (hs : y.state = .free) (hr : t.write = false) : t.Tied b l g n y :=
  ⟨h.serial, fun hw => ⟨(h.reading hw).1, .inl hs⟩, fun hw => by simp [hr] at hw⟩

/-- A queue changes its requests in place, or lets some go, but not the one whose WRITE is in transfer. -/
theorem Transfer.Tied.queue {l k : List ServerRequest} {g : Nat} {x : CacheEntry} {t : Transfer} (h : t.Tied b l g n x)
    (hread : ∀ r ∈ k, ∃ r' ∈ l, r.serial = r'.serial ∧ r.write = r'.write)
    (hwrite : t.write = true → ∀ r ∈ l, r.serial = t.serial → ∃ r' ∈ k, r'.serial = r.serial ∧ r'.write = r.write ∧
      r'.transferred = r.transferred ∧ r'.count = r.count ∧ r'.next = r.next) : t.Tied b k g n x := by
  refine ⟨h.serial, fun hw => ⟨fun r hr hs => ?_, (h.reading hw).2⟩, fun hw => ?_⟩
  · obtain ⟨r', hr', hser, hwr⟩ := hread r hr
    exact hwr.trans ((h.reading hw).1 r' hr' (hser.symm.trans hs))
  · obtain ⟨r, hr, hs, hwr, hlt, hst, hk⟩ := h.writing hw
    obtain ⟨r', hr', e1, e2, e3, e4, e5⟩ := hwrite hw r hr hs
    exact ⟨r', hr', e1.trans hs, e2.trans hwr, by omega, hst, e5 ▸ hk⟩

/-! ## Tables -/

/-- The fetch table is tied to the FILLING entries alone. -/
theorem FetchesTied.congr {fs : List FetchRecord} (h : FetchesTied e fs)
    (hs : ∀ i, (e i).state = .filling ∨ (f i).state = .filling → (f i).state = (e i).state ∧ (f i).key = (e i).key ∧ (f i).owner = (e i).owner) :
    FetchesTied f fs where
  ids := h.ids
  filling i hi := by
    obtain ⟨hst, hk, ho⟩ := hs i (.inr hi)
    rw [hk, ho]
    exact h.filling i (hst ▸ hi)
  unfilled r hr hor x hx := by
    obtain ⟨i, hi, hown⟩ := h.unfilled r hr hor x hx
    obtain ⟨hst, _, ho⟩ := hs i (.inl hi)
    exact ⟨i, hst.trans hi, ho.trans hown⟩

/-- The writeback table is tied to the DIRTY entries alone. -/
theorem WritebacksTied.congr {ws : List WritebackRecord} (h : WritebacksTied e ws)
    (hs : ∀ i, (e i).state = .dirty ∨ (f i).state = .dirty → (f i).state = (e i).state ∧ (f i).key = (e i).key ∧ (f i).owner = (e i).owner) :
    WritebacksTied f ws where
  ids := h.ids
  dirty i hi := by
    obtain ⟨hst, hk, ho⟩ := hs i (.inr hi)
    rw [hk, ho]
    exact h.dirty i (hst ▸ hi)
  unconfirmed r hr hor := by
    obtain ⟨i, hent, hi, hown⟩ := h.unconfirmed r hr hor
    obtain ⟨hst, _, ho⟩ := hs i (.inl hi)
    exact ⟨i, hent, hst.trans hi, ho.trans hown⟩

theorem eq_of_id_eq {α : Type} {g : α → Nat} {l : List α} (h : (l.map g).Nodup) {x y : α} (hx : x ∈ l) (hy : y ∈ l) (hid : g x = g y) :
    x = y := List.inj_on_of_nodup_map h hx hy hid

/-- Records go whose entries are no longer FILLING, and change in what the tie does not read, or become orphans. -/
theorem FetchesTied.records {fs gs : List FetchRecord} {g : FetchRecord → FetchRecord} (h : FetchesTied e fs) (keep : FetchRecord → Bool)
    (hgs : gs = (fs.filter keep).map g) (hg : ∀ r ∈ fs, (g r).id = r.id ∧ ((g r).orphan = false → r.orphan = false ∧ (g r).bay = r.bay ∧
      (g r).generation = r.generation ∧ (g r).first = r.first ∧ (g r).marks = r.marks))
    (hf : ∀ i, (f i).state = .filling → (e i).state = .filling ∧ (f i).key = (e i).key ∧ (f i).owner = (e i).owner ∧
      ∀ r ∈ fs, (∃ x, (e i).owner = some (.fetch r.id x)) → keep r = true ∧ (g r).orphan = r.orphan)
    (hu : ∀ r ∈ fs, keep r = true → (g r).orphan = false → ∀ i, (e i).state = .filling → (∃ x, (e i).owner = some (.fetch r.id x)) →
      (f i).state = .filling ∧ (f i).owner = (e i).owner) : FetchesTied f gs := by
  subst hgs
  have hids : (((fs.filter keep).map g).map FetchRecord.id) = (fs.filter keep).map FetchRecord.id := by
    rw [List.map_map]
    exact List.map_congr_left fun r hr => (hg r (List.mem_filter.mp hr).1).1
  refine ⟨⟨?_, fun r hr => ?_⟩, fun i hi => ?_, fun r hr hor x hx => ?_⟩
  · rw [hids]
    exact h.ids.1.sublist (List.filter_sublist.map _)
  · obtain ⟨r', hr', rfl⟩ := List.mem_map.mp hr
    have hmem := (List.mem_filter.mp hr').1
    rw [(hg r' hmem).1]
    exact h.ids.2 r' hmem
  · obtain ⟨hst, hk, ho, hkeep⟩ := hf i hi
    obtain ⟨r, hr, x, hor, hx, hown, hkey⟩ := h.filling i hst
    obtain ⟨hk', ho'⟩ := hkeep r hr ⟨x, hown⟩
    obtain ⟨e1, hlive⟩ := hg r hr
    obtain ⟨_, e2, e3, e4, e5⟩ := hlive (ho'.trans hor)
    refine ⟨g r, List.mem_map_of_mem (List.mem_filter.mpr ⟨hr, hk'⟩), x, ho'.trans hor, e5 ▸ hx, ?_, ?_⟩
    · rw [ho, hown, e1]
    · rw [hk, hkey, e2, e3, e4]
  · obtain ⟨r', hr', rfl⟩ := List.mem_map.mp hr
    obtain ⟨hmem, hkeep⟩ := List.mem_filter.mp hr'
    obtain ⟨e1, hlive⟩ := hg r' hmem
    obtain ⟨e6, _, _, _, e5⟩ := hlive hor
    obtain ⟨i, hi, hown⟩ := h.unfilled r' hmem e6 x (e5 ▸ hx)
    obtain ⟨hst, ho⟩ := hu r' hmem hkeep hor i hi ⟨x, hown⟩
    exact ⟨i, hst, by rw [ho, hown, e1]⟩

/-- Records go whose entries are no longer DIRTY, and change in what the tie does not read, or become orphans. -/
theorem WritebacksTied.records {ws vs : List WritebackRecord} {g : WritebackRecord → WritebackRecord} (h : WritebacksTied e ws)
    (keep : WritebackRecord → Bool) (hvs : vs = (ws.filter keep).map g)
    (hg : ∀ r, (g r).id = r.id ∧ ((g r).orphan = false → r.orphan = false ∧ (g r).bay = r.bay ∧ (g r).generation = r.generation ∧
      (g r).block = r.block ∧ (g r).entry = r.entry))
    (hf : ∀ i, (f i).state = .dirty → (e i).state = .dirty ∧ (f i).key = (e i).key ∧ (f i).owner = (e i).owner ∧
      ∀ r ∈ ws, (e i).owner = some (.writeback r.id) → keep r = true ∧ (g r).orphan = r.orphan)
    (hu : ∀ r ∈ ws, keep r = true → (g r).orphan = false → ∀ i, r.entry = some i → (e i).state = .dirty →
      (e i).owner = some (.writeback r.id) → (f i).state = .dirty ∧ (f i).owner = (e i).owner) : WritebacksTied f vs := by
  subst hvs
  have hids : (((ws.filter keep).map g).map WritebackRecord.id) = (ws.filter keep).map WritebackRecord.id := by
    rw [List.map_map]
    exact List.map_congr_left fun r _ => (hg r).1
  refine ⟨⟨?_, fun r hr => ?_⟩, fun i hi => ?_, fun r hr hor => ?_⟩
  · rw [hids]
    exact h.ids.1.sublist (List.filter_sublist.map _)
  · obtain ⟨r', hr', rfl⟩ := List.mem_map.mp hr
    rw [(hg r').1]
    exact h.ids.2 r' (List.mem_filter.mp hr').1
  · obtain ⟨hst, hk, ho, hkeep⟩ := hf i hi
    obtain ⟨r, hr, hor, hent, hown, hkey⟩ := h.dirty i hst
    obtain ⟨hk', ho'⟩ := hkeep r hr hown
    obtain ⟨_, e2, e3, e4, e5⟩ := (hg r).2 (ho'.trans hor)
    refine ⟨g r, List.mem_map_of_mem (List.mem_filter.mpr ⟨hr, hk'⟩), ho'.trans hor, e5.trans hent, ?_, ?_⟩
    · rw [ho, hown, (hg r).1]
    · rw [hk, hkey, e2, e3, e4]
  · obtain ⟨r', hr', rfl⟩ := List.mem_map.mp hr
    obtain ⟨hmem, hkeep⟩ := List.mem_filter.mp hr'
    obtain ⟨horig, _, _, _, e5⟩ := (hg r').2 hor
    obtain ⟨i, hent, hi, hown⟩ := h.unconfirmed r' hmem horig
    obtain ⟨hst, ho⟩ := hu r' hmem hkeep hor i hent hi hown
    exact ⟨i, e5.trans hent, hst, by rw [ho, hown, (hg r').1]⟩

/-! ## Changes of the cache alone -/

/-- Entries are freed, or change in what no transfer reads, and the tables stay tied to them. -/
theorem Tied.cache (h : Tied c p m n) (hentries : ∀ i, (d.entry i).Tied m) (hf : FetchesTied d.entry d.fetches)
    (hw : WritebacksTied d.entry d.writebacks) (hi : d.lastFetchId ≤ 255 ∧ d.lastWritebackId ≤ 255)
    (hpin : ∀ i, (d.entry i).pinned = (c.entry i).pinned)
    (ht : ∀ i, (c.entry i).pinned = true → ((d.entry i).state = (c.entry i).state ∧ (d.entry i).key = (c.entry i).key) ∨
      ((c.entry i).state ≠ .free ∧ (c.entry i).state ≠ .valid) ∧ (d.entry i).key = (c.entry i).key ∨
      (d.entry i).state = .free ∧ ∀ b t, (p b).transfer = some t → t.entry = i → t.write = false) : Tied d p m n := by
  refine ⟨h.queues, hentries, hf, hw, hi, ⟨fun i => by rw [hpin]; exact h.pins.pinned i, h.pins.own⟩, fun b t hbt => ?_⟩
  have hx := h.transfers b t hbt
  have hpinned := (h.pins.pinned t.entry).mpr ⟨b, t, hbt, rfl⟩
  rcases ht t.entry hpinned with ⟨hs, hk⟩ | ⟨hd, hk⟩ | ⟨hs, hr⟩
  · exact hx.congr hs hk
  · cases hw : t.write with
    | false =>
      refine ⟨hx.serial, fun _ => ⟨(hx.reading hw).1, .inr ?_⟩, fun hw' => by simp [hw] at hw'⟩
      rcases (hx.reading hw).2 with hfree | hk'
      · exact absurd hfree hd.1
      · rw [hk]; exact hk'
    | true =>
      obtain ⟨_, _, _, _, _, hst, _⟩ := hx.writing hw
      exact absurd hst hd.2
  · exact hx.freed hs (hr b t hbt rfl)

/-- Changes to the cache beside its entries' states, blocks, owners and pins. -/
theorem Tied.congr (h : Tied c p m n) (he : ∀ i, (d.entry i).state = (c.entry i).state ∧ (d.entry i).key = (c.entry i).key ∧
      (d.entry i).owner = (c.entry i).owner ∧ (d.entry i).pinned = (c.entry i).pinned) (hf : d.fetches = c.fetches)
    (hw : d.writebacks = c.writebacks) (hi : d.lastFetchId = c.lastFetchId ∧ d.lastWritebackId = c.lastWritebackId) : Tied d p m n := by
  refine h.cache (fun i => (h.entries i).congr (he i).1 (he i).2.1 (he i).2.2.1) ?_ ?_ ?_ (fun i => (he i).2.2.2)
    fun i _ => .inl ⟨(he i).1, (he i).2.1⟩
  · rw [hf]
    exact h.fetches.congr fun i _ => ⟨(he i).1, (he i).2.1, (he i).2.2.1⟩
  · rw [hw]
    exact h.writebacks.congr fun i _ => ⟨(he i).1, (he i).2.1, (he i).2.2.1⟩
  · rw [hi.1, hi.2]
    exact h.issued

/-- Fetch records change in what the tie does not read. -/
theorem Tied.fetchNotice (h : Tied c p m n) {g : FetchRecord → FetchRecord} (hg : ∀ r : FetchRecord, (g r).id = r.id ∧ (g r).bay = r.bay ∧
    (g r).generation = r.generation ∧ (g r).first = r.first ∧ (g r).marks = r.marks ∧ (g r).orphan = r.orphan) :
    Tied { c with fetches := c.fetches.map g } p m n := by
  refine h.cache h.entries ?_ h.writebacks h.issued (fun _ => rfl) fun _ _ => .inl ⟨rfl, rfl⟩
  refine h.fetches.records (fun _ => true) (by simp) (fun r _ => ?_) (fun i hi => ⟨hi, rfl, rfl, fun r _ _ => ⟨rfl, (hg r).2.2.2.2.2⟩⟩)
    fun _ _ _ _ i hi _ => ⟨hi, rfl⟩
  obtain ⟨e1, e2, e3, e4, e5, e6⟩ := hg r
  exact ⟨e1, fun ho => ⟨e6 ▸ ho, e2, e3, e4, e5⟩⟩

/-- Writeback records change in what the tie does not read. -/
theorem Tied.writebackNotice (h : Tied c p m n) {g : WritebackRecord → WritebackRecord} (hg : ∀ r : WritebackRecord, (g r).id = r.id ∧
    (g r).bay = r.bay ∧ (g r).generation = r.generation ∧ (g r).block = r.block ∧ (g r).entry = r.entry ∧ (g r).orphan = r.orphan) :
    Tied { c with writebacks := c.writebacks.map g } p m n := by
  refine h.cache h.entries h.fetches ?_ h.issued (fun _ => rfl) fun _ _ => .inl ⟨rfl, rfl⟩
  refine h.writebacks.records (fun _ => true) (by simp) (fun r => ?_) (fun i hi => ⟨hi, rfl, rfl, fun r _ _ => ⟨rfl, (hg r).2.2.2.2.2⟩⟩)
    fun _ _ _ _ i _ hi _ => ⟨hi, rfl⟩
  obtain ⟨e1, e2, e3, e4, e5, e6⟩ := hg r
  exact ⟨e1, fun ho => ⟨e6 ▸ ho, e2, e3, e4, e5⟩⟩

/-- Entries are freed that are neither FILLING nor DIRTY, nor in a WRITE's transfer. -/
theorem Tied.freeValid (h : Tied c p m n) {sel : CacheEntry → Bool} (hsel : ∀ e, sel e = true → e.state ≠ .filling ∧ e.state ≠ .dirty)
    (ht : ∀ b t, (p b).transfer = some t → t.write = true → sel (c.entry t.entry) = false) :
    Tied (c.mapEntries fun e => if sel e then e.release else e) p m n := by
  have he (i : Fin 256) : (c.mapEntries fun e => if sel e then e.release else e).entry i =
      if sel (c.entry i) then (c.entry i).release else c.entry i := Cache.entry_mapEntries _ _ _
  refine h.cache (fun i => ?_) (h.fetches.congr fun i hi => ?_) (h.writebacks.congr fun i hi => ?_) h.issued (fun i => ?_) fun i _ => ?_
  all_goals
    rw [he]
    by_cases hs : sel (c.entry i) = true
    case neg => simp [hs, h.entries i]
    rw [if_pos hs]
  · exact CacheEntry.tied_of_free rfl rfl
  · rw [he, if_pos hs] at hi
    rcases hi with hi | hi
    · exact absurd hi (hsel _ hs).1
    · cases hi
  · rw [he, if_pos hs] at hi
    rcases hi with hi | hi
    · exact absurd hi (hsel _ hs).2
    · cases hi
  · rfl
  · refine .inr (.inr ⟨rfl, fun b t hbt hti => ?_⟩)
    cases hw : t.write with
    | false => rfl
    | true =>
      have := ht b t hbt hw
      rw [hti, hs] at this
      cases this

/-- No WRITE's transfer is on an entry that is not VALID. -/
theorem Tied.not_writing (h : Tied c p m n) {t : Transfer} (ht : (p b).transfer = some t) (hs : (c.entry t.entry).state ≠ .valid) :
    t.write = false := by
  cases hw : t.write with
  | false => rfl
  | true =>
    obtain ⟨_, _, _, _, _, hst, _⟩ := (h.transfers b t ht).writing hw
    exact absurd hst hs

/-- FILLING entries are freed with their records' freeing or orphaning (R139, R141). -/
theorem Tied.freeFilling (h : Tied c p m n) {sel : Fin 256 → Bool} {g : FetchRecord → FetchRecord} (keep : FetchRecord → Bool)
    (hd : ∀ i, d.entry i = if sel i then (c.entry i).release else c.entry i) (hfs : d.fetches = (c.fetches.filter keep).map g)
    (hws : d.writebacks = c.writebacks) (hlast : d.lastFetchId = c.lastFetchId ∧ d.lastWritebackId = c.lastWritebackId)
    (hsel : ∀ i, sel i = true → (c.entry i).state = .filling)
    (hg : ∀ r ∈ c.fetches, (g r).id = r.id ∧ ((g r).orphan = false → r.orphan = false ∧ (g r).bay = r.bay ∧
      (g r).generation = r.generation ∧ (g r).first = r.first ∧ (g r).marks = r.marks))
    (hrec : ∀ r ∈ c.fetches, r.orphan = false → ∀ i x, (c.entry i).state = .filling → (c.entry i).owner = some (.fetch r.id x) →
      (c.entry i).key = some ⟨r.bay, r.generation, r.first + x⟩ → if sel i then keep r = false ∨ (g r).orphan = true
        else keep r = true ∧ (g r).orphan = r.orphan) : Tied d p m n := by
  have hfill (i : Fin 256) (hi : (c.entry i).state = .filling) (r : FetchRecord) (hr : r ∈ c.fetches) (x : Nat)
      (hown : (c.entry i).owner = some (.fetch r.id x)) :
      if sel i then keep r = false ∨ (g r).orphan = true else keep r = true ∧ (g r).orphan = r.orphan := by
    obtain ⟨r', hr', x', hor, _, hown', hkey⟩ := h.fetches.filling i hi
    rw [hown] at hown'
    obtain ⟨hid, rfl⟩ : r.id = r'.id ∧ x = x' := by simpa using hown'
    obtain rfl := eq_of_id_eq h.fetches.ids.1 hr hr' hid
    exact hrec r hr hor i x hi hown hkey
  refine h.cache (fun i => ?_) ?_ ?_ (by rw [hlast.1, hlast.2]; exact h.issued) (fun i => ?_) fun i hpin => ?_
  · rw [hd]
    split
    · exact CacheEntry.tied_of_free rfl rfl
    · exact h.entries i
  · refine h.fetches.records keep hfs hg (fun i hi => ?_) fun r hr hk ho i hi hown => ?_
    · rw [hd] at hi ⊢
      split at hi
      case isTrue => cases hi
      case isFalse hs =>
        rw [if_neg hs]
        refine ⟨hi, rfl, rfl, fun r hr ⟨x, hown⟩ => ?_⟩
        simpa [hs] using hfill i hi r hr x hown
    · obtain ⟨x, hown⟩ := hown
      have hf := hfill i hi r hr x hown
      rw [hd]
      split at hf
      case isTrue => simp [hk, ho] at hf
      case isFalse hs =>
        rw [if_neg hs]
        exact ⟨hi, rfl⟩
  · rw [hws]
    refine h.writebacks.congr fun i hi => ?_
    rw [hd] at hi ⊢
    split at hi
    case isTrue hs =>
      rcases hi with hi | hi
      · simp [hsel i hs] at hi
      · cases hi
    case isFalse hs =>
      rw [if_neg hs]
      exact ⟨rfl, rfl, rfl⟩
  · rw [hd]
    split <;> rfl
  · rw [hd]
    split
    case isTrue hs =>
      refine .inr (.inr ⟨rfl, fun b t hbt hti => h.not_writing hbt ?_⟩)
      rw [hti, hsel i hs]
      decide
    case isFalse => exact .inl ⟨rfl, rfl⟩

/-- DIRTY entries are freed, or become VALID again, with their records' freeing or orphaning (R144, R146). -/
theorem Tied.freeDirty (h : Tied c p m n) {act : Fin 256 → CacheEntry → CacheEntry} {sel : Fin 256 → Bool}
    {g : WritebackRecord → WritebackRecord} (keep : WritebackRecord → Bool)
    (hd : ∀ i, d.entry i = if sel i then act i (c.entry i) else c.entry i) (hfe : d.fetches = c.fetches)
    (hvs : d.writebacks = (c.writebacks.filter keep).map g) (hlast : d.lastFetchId = c.lastFetchId ∧ d.lastWritebackId = c.lastWritebackId)
    (hsel : ∀ i, sel i = true → (c.entry i).state = .dirty)
    (hact : ∀ i, sel i = true → (act i (c.entry i)).Tied m ∧ (act i (c.entry i)).pinned = (c.entry i).pinned ∧
      ((act i (c.entry i)).state = .free ∨ (act i (c.entry i)).state = .valid ∧ (act i (c.entry i)).key = (c.entry i).key))
    (hg : ∀ r, (g r).id = r.id ∧ ((g r).orphan = false → r.orphan = false ∧ (g r).bay = r.bay ∧ (g r).generation = r.generation ∧
      (g r).block = r.block ∧ (g r).entry = r.entry))
    (hrec : ∀ r ∈ c.writebacks, r.orphan = false → ∀ i, r.entry = some i → (c.entry i).state = .dirty →
      (c.entry i).key = some ⟨r.bay, r.generation, r.block⟩ → if sel i then keep r = false ∨ (g r).orphan = true
        else keep r = true ∧ (g r).orphan = r.orphan) : Tied d p m n := by
  have hown (i : Fin 256) (hi : (c.entry i).state = .dirty) (r : WritebackRecord) (hr : r ∈ c.writebacks)
      (ho : (c.entry i).owner = some (.writeback r.id)) :
      if sel i then keep r = false ∨ (g r).orphan = true else keep r = true ∧ (g r).orphan = r.orphan := by
    obtain ⟨r', hr', hor, hent, hown', hkey⟩ := h.writebacks.dirty i hi
    rw [ho] at hown'
    obtain rfl := eq_of_id_eq h.writebacks.ids.1 hr hr' (by simpa using hown')
    exact hrec r hr hor i hent hi hkey
  have hstate (i : Fin 256) (hs : sel i = true) : (act i (c.entry i)).state ≠ .filling ∧ (act i (c.entry i)).state ≠ .dirty := by
    rcases (hact i hs).2.2 with hst | ⟨hst, _⟩ <;> simp [hst]
  refine h.cache (fun i => ?_) ?_ ?_ (by rw [hlast.1, hlast.2]; exact h.issued) (fun i => ?_) fun i hpin => ?_
  · rw [hd]
    split
    case isTrue hs => exact (hact i hs).1
    case isFalse => exact h.entries i
  · rw [hfe]
    refine h.fetches.congr fun i hi => ?_
    rw [hd] at hi ⊢
    split at hi
    case isTrue hs =>
      rcases hi with hi | hi
      · simp [hsel i hs] at hi
      · exact absurd hi (hstate i hs).1
    case isFalse hs =>
      rw [if_neg hs]
      exact ⟨rfl, rfl, rfl⟩
  · refine h.writebacks.records keep hvs hg (fun i hi => ?_) fun r hr hk ho i hent hi hown' => ?_
    · rw [hd] at hi ⊢
      split at hi
      case isTrue hs => exact absurd hi (hstate i hs).2
      case isFalse hs =>
        rw [if_neg hs]
        refine ⟨hi, rfl, rfl, fun r hr ho => ?_⟩
        simpa [hs] using hown i hi r hr ho
    · have hf := hown i hi r hr hown'
      rw [hd]
      split at hf
      case isTrue => simp [hk, ho] at hf
      case isFalse hs =>
        rw [if_neg hs]
        exact ⟨hi, rfl⟩
  · rw [hd]
    split
    case isTrue hs => exact (hact i hs).2.1
    case isFalse => rfl
  · rw [hd]
    split
    case isTrue hs =>
      rcases (hact i hs).2.2 with hst | ⟨_, hk⟩
      · refine .inr (.inr ⟨hst, fun b t hbt hti => h.not_writing hbt ?_⟩)
        rw [hti, hsel i hs]
        decide
      · exact .inr (.inl ⟨by simp [hsel i hs], hk⟩)
    case isFalse => exact .inl ⟨rfl, rfl⟩

end Sys2Proof.Machine
end

section
/-! PROOFS. The tie of the cache under what starts and ends transfers, takes victims, fills and writes blocks, and changes queues and media
(chapters 7 and 8). -/

namespace Sys2Proof.Machine

variable {c d : Cache} {p q : Bay → Port} {m w : Bay → Medium} {n : Nat} {b : Bay} {i j : Fin 256}

/-! ## Transfers -/

/-- A transfer starts on an entry that holds the request's next block and that no transfer uses (R123, R124). -/
theorem Tied.pin (h : Tied c p m n) {r : ServerRequest} {v : BitVec 32} (hr : r ∈ (p b).queue) (ht : (p b).transfer = none)
    (hpin : (c.entry i).pinned = false) (hk : (c.entry i).key = some ⟨b, (m b).generation, r.next⟩)
    (hs : (c.entry i).state = .valid ∨ (c.entry i).state = .dirty ∧ r.write = false) (hw : r.write = true → r.transferred < r.count)
    (hd : ∀ j, d.entry j = if j = i then { c.entry i with pinned := true, stamp := v } else c.entry j)
    (hf : d.fetches = c.fetches) (hws : d.writebacks = c.writebacks)
    (hlast : d.lastFetchId = c.lastFetchId ∧ d.lastWritebackId = c.lastWritebackId) (hq : ∀ x, x ≠ b → q x = p x)
    (hqq : (q b).queue = (p b).queue) (hqt : (q b).transfer = some ⟨r.serial, r.write, i⟩) : Tied d q m n := by
  have he (j : Fin 256) : (d.entry j).state = (c.entry j).state ∧ (d.entry j).key = (c.entry j).key ∧
      (d.entry j).owner = (c.entry j).owner := by
    rw [hd]
    split
    case isTrue hj => exact hj ▸ ⟨rfl, rfl, rfl⟩
    case isFalse => exact ⟨rfl, rfl, rfl⟩
  have hqueue (x : Bay) : (q x).queue = (p x).queue := by
    by_cases hx : x = b
    · exact hx ▸ hqq
    · rw [hq x hx]
  have hold {x : Bay} {t : Transfer} (hxt : (q x).transfer = some t) (hx : x ≠ b) : (p x).transfer = some t ∧ t.entry ≠ i := by
    rw [hq x hx] at hxt
    refine ⟨hxt, fun hti => ?_⟩
    have := (h.pins.pinned i).mpr ⟨x, t, hxt, hti⟩
    simp [hpin] at this
  refine ⟨fun x => hqueue x ▸ h.queues x, fun j => (h.entries j).congr (he j).1 (he j).2.1 (he j).2.2, ?_, ?_, ?_, ⟨fun j => ?_, ?_⟩, ?_⟩
  · rw [hf]
    exact h.fetches.congr fun j _ => he j
  · rw [hws]
    exact h.writebacks.congr fun j _ => he j
  · rw [hlast.1, hlast.2]
    exact h.issued
  · rw [hd]
    by_cases hj : j = i
    · subst hj
      simp only [if_pos]
      exact ⟨fun _ => ⟨b, _, hqt, rfl⟩, fun _ => trivial⟩
    · rw [if_neg hj, h.pins.pinned j]
      constructor
      · rintro ⟨x, t, hxt, hti⟩
        have hx : x ≠ b := by rintro rfl; simp [ht] at hxt
        exact ⟨x, t, by rw [hq x hx]; exact hxt, hti⟩
      · rintro ⟨x, t, hxt, hti⟩
        by_cases hx : x = b
        · subst hx
          rw [hqt] at hxt
          cases hxt
          exact absurd hti.symm hj
        · exact ⟨x, t, (hold hxt hx).1, hti⟩
  · intro x y t u hxt hyu htu
    by_cases hx : x = b <;> by_cases hy : y = b
    · rw [hx, hy]
    · rw [hx, hqt] at hxt
      cases hxt
      exact absurd htu.symm (hold hyu hy).2
    · rw [hy, hqt] at hyu
      cases hyu
      exact absurd htu (hold hxt hx).2
    · exact h.pins.own x y t u (hold hxt hx).1 (hold hyu hy).1 htu
  · intro x t hxt
    rw [hqueue]
    by_cases hx : x = b
    · subst hx
      rw [hqt] at hxt
      cases hxt
      refine ⟨(h.queues x).fresh r hr, fun hrd => ⟨fun r' hr' hs' => ?_, .inr ⟨_, (he i).2.1.trans hk, rfl⟩⟩, fun hwr =>
        ⟨r, hr, rfl, hwr, hw hwr, ?_, (he i).2.1.trans hk⟩⟩
      · exact (eq_of_id_eq (h.queues x).serials hr' hr hs').symm ▸ hrd
      · refine (he i).1.trans (hs.resolve_right fun hdirty => ?_)
        have hwr' : r.write = true := hwr
        simp [hwr'] at hdirty
    · exact (h.transfers x t (hold hxt hx).1).congr (he _).1 (he _).2.1

/-- The transfer of a bay ends and its entry is unpinned (R123, R125). -/
theorem Tied.unpin (h : Tied c p m n) {t : Transfer} (ht : (p b).transfer = some t)
    (hd : ∀ j, d.entry j = if j = t.entry then { c.entry t.entry with pinned := false } else c.entry j)
    (hf : d.fetches = c.fetches) (hws : d.writebacks = c.writebacks)
    (hlast : d.lastFetchId = c.lastFetchId ∧ d.lastWritebackId = c.lastWritebackId) (hq : ∀ x, x ≠ b → q x = p x)
    (hqq : (q b).queue = (p b).queue) (hqt : (q b).transfer = none) : Tied d q m n := by
  have he (j : Fin 256) : (d.entry j).state = (c.entry j).state ∧ (d.entry j).key = (c.entry j).key ∧
      (d.entry j).owner = (c.entry j).owner := by
    rw [hd]
    split
    case isTrue hj => exact hj ▸ ⟨rfl, rfl, rfl⟩
    case isFalse => exact ⟨rfl, rfl, rfl⟩
  have hqueue (x : Bay) : (q x).queue = (p x).queue := by
    by_cases hx : x = b
    · exact hx ▸ hqq
    · rw [hq x hx]
  have hold {x : Bay} {u : Transfer} (hxu : (q x).transfer = some u) : x ≠ b ∧ (p x).transfer = some u := by
    have hx : x ≠ b := by rintro rfl; simp [hqt] at hxu
    exact ⟨hx, by rw [← hq x hx]; exact hxu⟩
  refine ⟨fun x => hqueue x ▸ h.queues x, fun j => (h.entries j).congr (he j).1 (he j).2.1 (he j).2.2, ?_, ?_, ?_, ⟨fun j => ?_, ?_⟩, ?_⟩
  · rw [hf]
    exact h.fetches.congr fun j _ => he j
  · rw [hws]
    exact h.writebacks.congr fun j _ => he j
  · rw [hlast.1, hlast.2]
    exact h.issued
  · rw [hd]
    by_cases hj : j = t.entry
    · simp only [hj, if_pos]
      refine ⟨nofun, fun ⟨x, u, hxu, hut⟩ => ?_⟩
      obtain ⟨hx, hpu⟩ := hold hxu
      exact absurd (h.pins.own x b u t hpu ht hut) hx
    · rw [if_neg hj, h.pins.pinned j]
      constructor
      · rintro ⟨x, u, hxu, huj⟩
        have hx : x ≠ b := by
          rintro rfl
          rw [ht] at hxu
          cases hxu
          exact hj huj.symm
        exact ⟨x, u, by rw [hq x hx]; exact hxu, huj⟩
      · rintro ⟨x, u, hxu, huj⟩
        exact ⟨x, u, (hold hxu).2, huj⟩
  · exact fun x y t u hxt hyu htu => h.pins.own x y t u (hold hxt).2 (hold hyu).2 htu
  · intro x u hxu
    rw [hqueue]
    exact (h.transfers x u (hold hxu).2).congr (he _).1 (he _).2.1

/-- An entry outside any transfer takes another block, state and owner. -/
theorem Tied.rewrite (h : Tied c p m n) {x : CacheEntry} (hpin : (c.entry i).pinned = false) (hx : x.Tied m) (hxp : x.pinned = false)
    (hd : ∀ j, d.entry j = if j = i then x else c.entry j) (hf : FetchesTied d.entry d.fetches)
    (hw : WritebacksTied d.entry d.writebacks) (hlast : d.lastFetchId ≤ 255 ∧ d.lastWritebackId ≤ 255) : Tied d p m n := by
  refine h.cache (fun j => ?_) hf hw hlast (fun j => ?_) fun j hj => ?_ <;> rw [hd] <;> split
  · exact hx
  · exact h.entries j
  case isTrue hji => rw [hji, hxp, hpin]
  · rfl
  case isTrue hji => simp [hji, hpin] at hj
  · exact .inl ⟨rfl, rfl⟩

/-! ## Victims (R134, R136) -/

/-- A victim becomes VALID with a block of a PRESENT medium (R124). -/
theorem Tied.takeValid (h : Tied c p m n) {k : BlockKey} (hv : c.victim b = some i) (hp : (m k.bay).state = .present)
    (hg : k.generation = (m k.bay).generation) : Tied (c.take i k .valid none) p m n := by
  obtain ⟨hpin, hst⟩ := Cache.victim_spec hv
  have hd := fun j => Cache.entry_take c i j k .valid none
  refine h.rewrite (x := { c.entry i with state := .valid, key := some k, owner := none, stamp := c.useCounter + 1 }) hpin ?_ hpin hd (h.fetches.congr fun j hj => ?_) (h.writebacks.congr fun j hj => ?_) h.issued
  · exact CacheEntry.tied_of_present rfl hp hg fun _ => rfl
  all_goals
    rw [hd] at hj ⊢
    split
    case isFalse => exact ⟨rfl, rfl, rfl⟩
    case isTrue hji =>
      rw [if_pos hji, hji] at hj
      rcases hj with hj | hj
      · rcases hst with hst | hst <;> simp [hst] at hj
      · cases hj

/-- The fetch record of an extent of which `k` blocks have their victims. -/
def extentRecord (id : Nat) (b : Bay) (g first k : Nat) : FetchRecord :=
  { id, bay := b, generation := g, first, marks := List.replicate k false }

/-- The table with a record of no block yet, under an id that no record holds (R135). -/
theorem Tied.openRecord (h : Tied c p m n) {id g first : Nat} (hid : id ∉ c.fetches.map FetchRecord.id) (hr : 1 ≤ id ∧ id ≤ 255) :
    Tied { c with fetches := c.fetches ++ [extentRecord id b g first 0], lastFetchId := id } p m n := by
  refine h.cache h.entries ⟨⟨?_, fun r hmem => ?_⟩, fun i hi => ?_, fun r hmem hor x hx => ?_⟩ h.writebacks ⟨hr.2, h.issued.2⟩
    (fun _ => rfl) fun _ _ => .inl ⟨rfl, rfl⟩
  · simp only [List.map_append, List.map_cons, List.map_nil]
    exact List.nodup_append.mpr ⟨h.fetches.ids.1, List.nodup_singleton _, fun a ha y hy => by
      rw [List.mem_singleton.mp hy]
      exact fun heq : a = id => hid (heq ▸ ha)⟩
  · rcases List.mem_append.mp hmem with hmem | hmem
    · exact h.fetches.ids.2 r hmem
    · exact List.mem_singleton.mp hmem ▸ hr
  · obtain ⟨r, hmem, x, hx⟩ := h.fetches.filling i hi
    exact ⟨r, List.mem_append_left _ hmem, x, hx⟩
  · rcases List.mem_append.mp hmem with hmem | hmem
    · exact h.fetches.unfilled r hmem hor x hx
    · rw [List.mem_singleton.mp hmem] at hx
      simp [extentRecord] at hx

/-- A victim joins the record as its next block (R136). -/
theorem Tied.takeFilling {c₀ : Cache} {id first k : Nat} {x : BlockKey}
    (h : Tied { c with fetches := c₀.fetches ++ [extentRecord id b (m b).generation first k], lastFetchId := id } p m n)
    (hv : c.victim b = some i) (hp : (m b).state = .present) (hx : x = ⟨b, (m b).generation, first + k⟩) :
    Tied { c.take i x .filling (some (.fetch id k)) with
      fetches := c₀.fetches ++ [extentRecord id b (m b).generation first (k + 1)], lastFetchId := id } p m n := by
  obtain ⟨hpin, hst⟩ := Cache.victim_spec hv
  have hd : ∀ j, Cache.entry { c.take i x .filling (some (.fetch id k)) with
      fetches := c₀.fetches ++ [extentRecord id b (m b).generation first (k + 1)], lastFetchId := id } j = _ :=
    fun j => Cache.entry_take c i j x .filling (some (.fetch id k))
  have hmarks (k y : Nat) : (extentRecord id b (m b).generation first k).marks[y]? = some false ↔ y < k := by
    simp [extentRecord, List.getElem?_replicate]
  have hids := h.fetches.ids
  have hold (r : FetchRecord) (hr : r ∈ c₀.fetches) : r.id ≠ id := by
    intro heq
    rw [List.map_append] at hids
    exact (List.nodup_append.mp hids.1).2.2 _ (List.mem_map_of_mem hr) _ (List.mem_singleton.mpr rfl) heq
  refine h.rewrite (x := { c.entry i with state := .filling, key := some x, owner := some (.fetch id k), stamp := c.useCounter + 1 }) hpin ?_ hpin hd
    ⟨⟨?_, fun r hr => ?_⟩, fun j hj => ?_, fun r hr hor y hy => ?_⟩ (h.writebacks.congr fun j hj => ?_) h.issued
  · subst hx
    exact CacheEntry.tied_of_present rfl hp rfl (by simp)
  · simpa [extentRecord] using hids.1
  · rcases List.mem_append.mp hr with hr | hr
    · exact hids.2 r (List.mem_append_left _ hr)
    · rw [List.mem_singleton.mp hr]
      exact hids.2 (extentRecord id b (m b).generation first k) (List.mem_append_right _ (List.mem_singleton.mpr rfl))
  · rw [hd] at hj ⊢
    split at hj
    case isTrue hji =>
      rw [if_pos hji]
      exact ⟨_, List.mem_append_right _ (List.mem_singleton.mpr rfl), k, rfl, (hmarks _ _).mpr (Nat.lt_succ_self k), rfl,
        congrArg some hx⟩
    case isFalse hji =>
      rw [if_neg hji]
      obtain ⟨r, hr, y, hor, hy, hown, hkey⟩ := h.fetches.filling j hj
      rcases List.mem_append.mp hr with hr | hr
      · exact ⟨r, List.mem_append_left _ hr, y, hor, hy, hown, hkey⟩
      · rw [List.mem_singleton.mp hr] at hy hown hkey
        exact ⟨_, List.mem_append_right _ (List.mem_singleton.mpr rfl), y, rfl,
          (hmarks _ _).mpr (Nat.lt_succ_of_lt ((hmarks _ _).mp hy)), hown, hkey⟩
  · have hother (j : Fin 256) (hj : (c.entry j).state = .filling) : j ≠ i := by
      rintro rfl
      rcases hst with hst | hst <;> simp [hst] at hj
    have hkeep {r : FetchRecord} {y : Nat} (hex : ∃ j, (c.entry j).state = .filling ∧ (c.entry j).owner = some (.fetch r.id y)) :
        ∃ j, (Cache.entry { c.take i x .filling (some (.fetch id k)) with
          fetches := c₀.fetches ++ [extentRecord id b (m b).generation first (k + 1)], lastFetchId := id } j).state = .filling ∧
          (Cache.entry { c.take i x .filling (some (.fetch id k)) with
          fetches := c₀.fetches ++ [extentRecord id b (m b).generation first (k + 1)], lastFetchId := id } j).owner = some (.fetch r.id y) := by
      obtain ⟨j, hj, hown⟩ := hex
      refine ⟨j, ?_⟩
      rw [hd, if_neg (hother j hj)]
      exact ⟨hj, hown⟩
    rcases List.mem_append.mp hr with hr | hr
    · exact hkeep (h.fetches.unfilled r (List.mem_append_left _ hr) hor y hy)
    · rw [List.mem_singleton.mp hr] at hy ⊢
      rcases Nat.lt_succ_iff_lt_or_eq.mp ((hmarks _ _).mp hy) with hlt | rfl
      · exact hkeep (h.fetches.unfilled (extentRecord id b (m b).generation first k) (List.mem_append_right _ (List.mem_singleton.mpr rfl)) rfl y
          ((hmarks _ _).mpr hlt))
      · refine ⟨i, ?_⟩
        rw [hd, if_pos rfl]
        exact ⟨rfl, rfl⟩
  · rw [hd] at hj ⊢
    split
    case isFalse => exact ⟨rfl, rfl, rfl⟩
    case isTrue hji =>
      rw [if_pos hji, hji] at hj
      rcases hj with hj | hj
      · have hj' : (c.entry i).state = .dirty := hj
        rcases hst with hst | hst <;> simp [hst] at hj'
      · cases hj

/-! ## A block written (R125, R143) -/

/-- A VALID entry outside any transfer becomes DIRTY with a writeback record of its own. -/
theorem Tied.makeDirty (h : Tied c p m n) {block serial : Nat} {data : Block} (hpin : (c.entry i).pinned = false)
    (hs : (c.entry i).state = .valid) (hk : (c.entry i).key = some ⟨b, (m b).generation, block⟩) (hlen : c.writebacks.length < 255) :
    Tied (c.makeDirty b (m b).generation i block serial data) p m n := by
  have hid := freshId_idAfter (held := c.writebacks.map WritebackRecord.id) (by simpa using hlen) h.issued.2
  have hrange := freshId_range (c.writebacks.map WritebackRecord.id) 255 c.lastWritebackId h.issued.2
  obtain ⟨_, _, hnot, _⟩ := hid
  have hd (j : Fin 256) : (c.makeDirty b (m b).generation i block serial data).entry j =
      if j = i then { c.entry i with state := .dirty, data := data, owner := some (.writeback c.nextWritebackId) } else c.entry j :=
    Cache.entry_modEntry c i j fun e => { e with state := .dirty, data := data, owner := some (.writeback c.nextWritebackId) }
  refine h.rewrite (x := { c.entry i with state := .dirty, data := data, owner := some (.writeback c.nextWritebackId) }) hpin ?_ hpin hd
    (h.fetches.congr fun j hj => ?_) ⟨⟨?_, fun r hr => ?_⟩, fun j hj => ?_, fun r hr hor => ?_⟩
    ⟨h.issued.1, hrange.2⟩
  · obtain ⟨k, hk', h1, h2, h3⟩ := (h.entries i).current (by simp [hs])
    exact ⟨fun _ => ⟨k, hk', h1, h2, fun _ => rfl⟩, by simp⟩
  · rw [hd] at hj ⊢
    split
    case isFalse => exact ⟨rfl, rfl, rfl⟩
    case isTrue hji =>
      rw [if_pos hji, hji] at hj
      rcases hj with hj | hj
      · simp [hs] at hj
      · cases hj
  · simp only [Cache.makeDirty, List.map_append, List.map_cons, List.map_nil]
    exact List.nodup_append.mpr ⟨h.writebacks.ids.1, List.nodup_singleton _, fun a ha y hy => by
      rw [List.mem_singleton.mp hy]
      exact fun heq => hnot (show c.nextWritebackId ∈ _ from heq ▸ ha)⟩
  · rcases List.mem_append.mp hr with hr | hr
    · exact h.writebacks.ids.2 r hr
    · exact List.mem_singleton.mp hr ▸ hrange
  · rw [hd] at hj ⊢
    split at hj
    case isTrue hji =>
      rw [if_pos hji, hji]
      exact ⟨_, List.mem_append_right _ (List.mem_singleton.mpr rfl), rfl, rfl, rfl, hk⟩
    case isFalse hji =>
      rw [if_neg hji]
      obtain ⟨r, hr, hrest⟩ := h.writebacks.dirty j hj
      exact ⟨r, List.mem_append_left _ hr, hrest⟩
  · rcases List.mem_append.mp hr with hr | hr
    · obtain ⟨j, hent, hj, hown⟩ := h.writebacks.unconfirmed r hr hor
      have hji : j ≠ i := by rintro rfl; simp [hs] at hj
      refine ⟨j, hent, ?_⟩
      rw [hd, if_neg hji]
      exact ⟨hj, hown⟩
    · rw [List.mem_singleton.mp hr]
      refine ⟨i, rfl, ?_⟩
      rw [hd, if_pos rfl]
      exact ⟨rfl, rfl⟩

/-! ## A block filled (R138) -/

theorem fillEntry_of_other {id x : Nat} {data : Block} {e : CacheEntry} (h : ¬(e.state = .filling ∧ e.owner = some (.fetch id x))) :
    fillEntry id x data e = e := if_neg h

theorem Cache.markFetch_fetches (c : Cache) (r : FetchRecord) (x : Nat) : (c.markFetch r x).fetches =
    if (r.marked x).complete then c.fetches.filter fun q => q.id ≠ r.id else c.fetches.map fun q => if q.id = r.id then q.marked x else q := by
  unfold Cache.markFetch
  split <;> rfl

theorem Cache.markFetch_same (c : Cache) (r : FetchRecord) (x : Nat) : (c.markFetch r x).entries = c.entries ∧
    (c.markFetch r x).writebacks = c.writebacks ∧ (c.markFetch r x).lastFetchId = c.lastFetchId ∧
    (c.markFetch r x).lastWritebackId = c.lastWritebackId := by
  unfold Cache.markFetch
  split <;> exact ⟨rfl, rfl, rfl, rfl⟩

/-- The marks of a record after one of them is set. -/
theorem marked_marks {r : FetchRecord} {x y : Nat} : (r.marked x).marks[y]? = some false ↔ y ≠ x ∧ r.marks[y]? = some false := by
  simp only [FetchRecord.marked, List.getElem?_set]
  split
  case isTrue h =>
    subst h
    split <;> simp
  case isFalse h => simp [Ne.symm h]

/-- The table after a block of a live record has been filled. -/
theorem FetchesTied.fill {e f : Fin 256 → CacheEntry} {fs gs : List FetchRecord} (h : FetchesTied e fs) {r : FetchRecord} {x : Nat}
    {data : Block} (hr : r ∈ fs) (hf : ∀ i, f i = fillEntry r.id x data (e i))
    (hgs : gs = if (r.marked x).complete then fs.filter fun q => q.id ≠ r.id else fs.map fun q => if q.id = r.id then q.marked x else q) :
    FetchesTied f gs := by
  have hstay (i : Fin 256) {q : FetchRecord} {y : Nat} (hi : (e i).state = .filling) (hown : (e i).owner = some (.fetch q.id y))
      (hne : ¬(q.id = r.id ∧ y = x)) : f i = e i := by
    rw [hf]
    refine fillEntry_of_other fun hc => hne ?_
    have := hown.symm.trans hc.2
    simpa using this
  have hleft (i : Fin 256) (hi : (f i).state = .filling) : f i = e i ∧ (e i).state = .filling ∧ (e i).owner ≠ some (.fetch r.id x) := by
    rw [hf] at hi ⊢
    unfold fillEntry at hi ⊢
    split at hi
    · cases hi
    case isFalse hc =>
      rw [if_neg hc]
      exact ⟨rfl, hi, fun ho => hc ⟨hi, ho⟩⟩
  by_cases hcomplete : (r.marked x).complete = true
  · rw [if_pos hcomplete] at hgs
    subst hgs
    have hfull (y : Nat) : (r.marked x).marks[y]? ≠ some false := by
      intro hy
      have := List.all_eq_true.mp hcomplete false (List.mem_of_getElem? hy)
      simp at this
    refine ⟨⟨h.ids.1.sublist (List.filter_sublist.map _), fun q hq => h.ids.2 q (List.mem_filter.mp hq).1⟩, fun i hi => ?_,
      fun q hq hor y hy => ?_⟩
    · obtain ⟨hfe, hst, hne⟩ := hleft i hi
      obtain ⟨q, hq, y, hor, hy, hown, hkey⟩ := h.filling i hst
      refine ⟨q, List.mem_filter.mpr ⟨hq, ?_⟩, y, hor, hy, by rw [hfe, hown], by rw [hfe, hkey]⟩
      simp only [ne_eq, decide_not, Bool.not_eq_true', decide_eq_false_iff_not]
      intro hid
      obtain rfl := eq_of_id_eq h.ids.1 hq hr hid
      by_cases hyx : y = x
      · exact hne (hyx ▸ hown)
      · exact hfull y (marked_marks.mpr ⟨hyx, hy⟩)
    · obtain ⟨hmem, hid⟩ := List.mem_filter.mp hq
      obtain ⟨i, hi, hown⟩ := h.unfilled q hmem hor y hy
      have hfe := hstay i hi hown fun hc => by simp [hc.1] at hid
      exact ⟨i, by rw [hfe, hi], by rw [hfe, hown]⟩
  · rw [if_neg hcomplete] at hgs
    subst hgs
    have hids : (fs.map fun q => if q.id = r.id then q.marked x else q).map FetchRecord.id = fs.map FetchRecord.id := by
      rw [List.map_map]
      refine List.map_congr_left fun q _ => ?_
      simp only [Function.comp]
      split <;> rfl
    refine ⟨⟨by rw [hids]; exact h.ids.1, fun q hq => ?_⟩, fun i hi => ?_, fun q hq hor y hy => ?_⟩
    · obtain ⟨q', hq', rfl⟩ := List.mem_map.mp hq
      split <;> exact h.ids.2 q' hq'
    · obtain ⟨hfe, hst, hne⟩ := hleft i hi
      obtain ⟨q, hq, y, hor, hy, hown, hkey⟩ := h.filling i hst
      refine ⟨_, List.mem_map_of_mem hq, y, ?_⟩
      rw [hfe]
      split
      case isTrue hid =>
        obtain rfl := eq_of_id_eq h.ids.1 hq hr hid
        exact ⟨hor, marked_marks.mpr ⟨fun hyx => hne (hyx ▸ hown), hy⟩, hown, hkey⟩
      case isFalse => exact ⟨hor, hy, hown, hkey⟩
    · obtain ⟨q', hq', rfl⟩ := List.mem_map.mp hq
      by_cases hid : q'.id = r.id
      · rw [if_pos hid] at hor hy ⊢
        obtain ⟨hyx, hy'⟩ := marked_marks.mp hy
        obtain ⟨i, hi, hown⟩ := h.unfilled q' hq' hor y hy'
        have hfe := hstay i hi hown fun hc => hyx hc.2
        exact ⟨i, by rw [hfe, hi], by rw [hfe, hown]; rfl⟩
      · rw [if_neg hid] at hor hy ⊢
        obtain ⟨i, hi, hown⟩ := h.unfilled q' hq' hor y hy
        have hfe := hstay i hi hown fun hc => hid hc.1
        exact ⟨i, by rw [hfe, hi], by rw [hfe, hown]⟩

theorem Tied.fill (h : Tied c p m n) {r : FetchRecord} {x : Nat} {data : Block} (hr : r ∈ c.fetches) :
    Tied ((c.mapEntries (fillEntry r.id x data)).markFetch r x) p m n := by
  obtain ⟨hentries, hws, hlf, hlw⟩ := (c.mapEntries (fillEntry r.id x data)).markFetch_same r x
  have hd (i : Fin 256) : ((c.mapEntries (fillEntry r.id x data)).markFetch r x).entry i = fillEntry r.id x data (c.entry i) := by
    rw [Cache.entry, hentries]
    exact Cache.entry_mapEntries _ _ _
  have hcase (i : Fin 256) : fillEntry r.id x data (c.entry i) = c.entry i ∨
      (c.entry i).state = .filling ∧ fillEntry r.id x data (c.entry i) = { c.entry i with state := .valid, data := data, owner := none } := by
    unfold fillEntry
    split
    case isTrue hc => exact .inr ⟨hc.1, rfl⟩
    case isFalse => exact .inl rfl
  refine h.cache (fun i => ?_) (h.fetches.fill hr hd (Cache.markFetch_fetches _ r x)) ?_ (by rw [hlf, hlw]; exact h.issued) (fun i => ?_)
    fun i _ => ?_
  · rw [hd]
    rcases hcase i with he | ⟨hs, he⟩
    · rw [he]; exact h.entries i
    · obtain ⟨k, hk, h1, h2, h3⟩ := (h.entries i).current (by simp [hs])
      rw [he]
      exact ⟨fun _ => ⟨k, hk, h1, h2, fun hp => by simp [h3 hp] at hs⟩, fun _ => rfl⟩
  · rw [hws]
    refine h.writebacks.congr fun i hi => ?_
    rw [hd] at hi ⊢
    rcases hcase i with he | ⟨hs, he⟩
    · rw [he]
      exact ⟨rfl, rfl, rfl⟩
    · rw [he] at hi
      simp [hs] at hi
  · rw [hd]
    rcases hcase i with he | ⟨_, he⟩ <;> rw [he]
  · rw [hd]
    rcases hcase i with he | ⟨hs, he⟩ <;> rw [he]
    · exact .inl ⟨rfl, rfl⟩
    · exact .inr (.inl ⟨by simp [hs], rfl⟩)

/-! ## Queues and media -/

/-- The queues change in place, let requests go or take one in; the transfers stay. -/
theorem Tied.ports {n' : Nat} (h : Tied c p m n) (hn : n ≤ n') (hqueues : ∀ b, QueueTied n' (q b).queue (m b).state)
    (htr : ∀ b, (q b).transfer = (p b).transfer)
    (hread : ∀ b t, (p b).transfer = some t → t.write = false → ∀ r ∈ (q b).queue, r.serial = t.serial → r.write = false)
    (hwrite : ∀ b t, (p b).transfer = some t → t.write = true → ∀ r ∈ (p b).queue, r.serial = t.serial → ∃ r' ∈ (q b).queue,
      r'.serial = r.serial ∧ r'.write = r.write ∧ r'.transferred = r.transferred ∧ r'.count = r.count ∧ r'.next = r.next) :
    Tied c q m n' := by
  refine ⟨hqueues, h.entries, h.fetches, h.writebacks, h.issued, ⟨fun i => ?_, fun b x t u hb hx => ?_⟩, fun b t hbt => ?_⟩
  · simp only [htr]
    exact h.pins.pinned i
  · rw [htr] at hb hx
    exact h.pins.own b x t u hb hx
  · rw [htr] at hbt
    have hx := h.transfers b t hbt
    refine ⟨hx.serial.trans_le hn, fun hw => ⟨hread b t hbt hw, (hx.reading hw).2⟩, fun hw => ?_⟩
    obtain ⟨r, hr, hs, hwr, hlt, hst, hk⟩ := hx.writing hw
    obtain ⟨r', hr', e1, e2, e3, e4, e5⟩ := hwrite b t hbt hw r hr hs
    exact ⟨r', hr', e1.trans hs, e2.trans hwr, by omega, hst, e5 ▸ hk⟩

/-- One bay's queue changes. -/
theorem Tied.queue (h : Tied c p m n) (hq : ∀ x, x ≠ b → (q x).queue = (p x).queue) (htr : ∀ x, (q x).transfer = (p x).transfer)
    (hqueue : QueueTied n (q b).queue (m b).state)
    (hread : ∀ r ∈ (q b).queue, ∃ r' ∈ (p b).queue, r.serial = r'.serial ∧ r.write = r'.write)
    (hwrite : ∀ t, (p b).transfer = some t → t.write = true → ∀ r ∈ (p b).queue, r.serial = t.serial → ∃ r' ∈ (q b).queue,
      r'.serial = r.serial ∧ r'.write = r.write ∧ r'.transferred = r.transferred ∧ r'.count = r.count ∧ r'.next = r.next) :
    Tied c q m n := by
  refine h.ports (Nat.le_refl n) (fun x => ?_) htr (fun x t hxt hw r hr hs => ?_) fun x t hxt hw r hr hs => ?_ <;> by_cases hx : x = b
  · exact hx ▸ hqueue
  · rw [hq x hx]; exact h.queues x
  · subst hx
    obtain ⟨r', hr', hser, hwr⟩ := hread r hr
    exact hwr.trans (((h.transfers x t hxt).reading hw).1 r' hr' (hser.symm.trans hs))
  · rw [hq x hx] at hr
    exact ((h.transfers x t hxt).reading hw).1 r hr hs
  · subst hx
    exact hwrite t hxt hw r hr hs
  · exact ⟨r, by rw [hq x hx]; exact hr, rfl, rfl, rfl, rfl, rfl⟩

theorem QueueTied.sublist {l k : List ServerRequest} {st : MediumState} (h : QueueTied n l st) (hk : k.Sublist l) : QueueTied n k st :=
  ⟨h.serials.sublist (hk.map _), fun r hr => h.fresh r (hk.subset hr), fun hne => h.present fun hl => hne (List.sublist_nil.mp (hl ▸ hk))⟩

/-- Requests leave a queue, but not the one whose WRITE is in transfer (R119). -/
theorem Tied.leave (h : Tied c p m n) (hq : ∀ x, x ≠ b → (q x).queue = (p x).queue) (htr : ∀ x, (q x).transfer = (p x).transfer)
    (hsub : (q b).queue.Sublist (p b).queue)
    (hwrite : ∀ t, (p b).transfer = some t → t.write = true → ∀ r ∈ (p b).queue, r.serial = t.serial → r ∈ (q b).queue) : Tied c q m n :=
  h.queue hq htr ((h.queues b).sublist hsub) (fun r hr => ⟨r, hsub.subset hr, rfl, rfl⟩)
    fun t ht hw r hr hs => ⟨r, hwrite t ht hw r hr hs, rfl, rfl, rfl, rfl, rfl⟩

theorem QueueTied.map {l : List ServerRequest} {st : MediumState} {g : ServerRequest → ServerRequest} (h : QueueTied n l st)
    (hg : ∀ r, (g r).serial = r.serial) : QueueTied n (l.map g) st := by
  refine ⟨?_, fun r hr => ?_, fun hne => h.present fun hl => hne (by simp [hl])⟩
  · rw [List.map_map]
    exact (List.map_congr_left fun r _ => hg r).symm ▸ h.serials
  · obtain ⟨r', hr', rfl⟩ := List.mem_map.mp hr
    exact (hg r').symm ▸ h.fresh r' hr'

/-- The requests of a queue change in place, but not in what the transfer of a WRITE reads. -/
theorem Tied.change (h : Tied c p m n) {g : ServerRequest → ServerRequest} (hq : ∀ x, x ≠ b → (q x).queue = (p x).queue)
    (htr : ∀ x, (q x).transfer = (p x).transfer) (hqb : (q b).queue = (p b).queue.map g)
    (hg : ∀ r, (g r).serial = r.serial ∧ (g r).write = r.write)
    (hwrite : ∀ t, (p b).transfer = some t → t.write = true →
      ∀ r, (g r).transferred = r.transferred ∧ (g r).count = r.count ∧ (g r).next = r.next) : Tied c q m n := by
  refine h.queue hq htr (hqb ▸ (h.queues b).map fun r => (hg r).1) (fun r hr => ?_) fun t ht hw r hr hs => ?_
  · rw [hqb] at hr
    obtain ⟨r', hr', rfl⟩ := List.mem_map.mp hr
    exact ⟨r', hr', (hg r').1, (hg r').2⟩
  · obtain ⟨e1, e2, e3⟩ := hwrite t ht hw r
    exact ⟨g r, hqb ▸ List.mem_map_of_mem hr, (hg r).1, (hg r).2, e1, e2, e3⟩

/-- A request with a new serial joins the tail (R120). -/
theorem Tied.join (h : Tied c p m n) {r : ServerRequest} (hq : ∀ x, x ≠ b → (q x).queue = (p x).queue)
    (htr : ∀ x, (q x).transfer = (p x).transfer) (hqb : (q b).queue = (p b).queue ++ [r]) (hr : r.serial = n)
    (hp : (m b).state = .present) : Tied c q m (n + 1) := by
  refine h.ports (Nat.le_succ n) (fun x => ?_) htr (fun x t hxt hw y hy hs => ?_) fun x t hxt hw y hy hs => ?_ <;> by_cases hx : x = b
  · subst hx
    rw [hqb]
    obtain ⟨hser, hfresh, _⟩ := h.queues x
    refine ⟨?_, fun y hy => ?_, fun _ => hp⟩
    · rw [List.map_append]
      refine List.nodup_append.mpr ⟨hser, List.nodup_singleton _, fun a ha y hy => ?_⟩
      obtain ⟨z, hz, rfl⟩ := List.mem_map.mp ha
      have := hfresh z hz
      rw [List.mem_singleton.mp hy, hr]
      omega
    · rcases List.mem_append.mp hy with hy | hy
      · exact (hfresh y hy).trans (Nat.lt_succ_self n)
      · rw [List.mem_singleton.mp hy, hr]
        exact Nat.lt_succ_self n
  · rw [hq x hx]
    obtain ⟨hser, hfresh, hpres⟩ := h.queues x
    exact ⟨hser, fun y hy => (hfresh y hy).trans (Nat.lt_succ_self n), hpres⟩
  · subst hx
    have hlt := (h.transfers x t hxt).serial
    rw [hqb] at hy
    rcases List.mem_append.mp hy with hy | hy
    · exact ((h.transfers x t hxt).reading hw).1 y hy hs
    · rw [List.mem_singleton.mp hy, hr] at hs
      omega
  · rw [hq x hx] at hy
    exact ((h.transfers x t hxt).reading hw).1 y hy hs
  · subst hx
    exact ⟨y, by rw [hqb]; exact List.mem_append_left _ hy, rfl, rfl, rfl, rfl, rfl⟩
  · exact ⟨y, by rw [hq x hx]; exact hy, rfl, rfl, rfl, rfl, rfl⟩

/-- The medium of a bay with nothing queued changes (R112, R113, R115). -/
theorem Tied.medium (h : Tied c p m n) (hw : ∀ x, x ≠ b → w x = m x) (hq : (p b).queue = [])
    (hentries : ∀ i k, (c.entry i).state ≠ .free → (c.entry i).key = some k → k.bay = b → (w b).state ≠ .empty ∧
      k.generation = (w b).generation ∧ ((w b).state = .ejectPending → (c.entry i).state = .dirty)) : Tied c p w n := by
  refine ⟨fun x => ?_, fun i => ⟨fun hi => ?_, (h.entries i).unowned⟩, h.fetches, h.writebacks, h.issued, h.pins, fun x t hxt => ?_⟩
  · by_cases hx : x = b
    · rw [hx, hq]
      exact ⟨List.nodup_nil, nofun, fun hne => absurd rfl hne⟩
    · rw [hw x hx]
      exact h.queues x
  · obtain ⟨k, hk, hrest⟩ := (h.entries i).current hi
    refine ⟨k, hk, ?_⟩
    by_cases hkb : k.bay = b
    · rw [hkb]
      exact hentries i k hi hk hkb
    · rw [hw _ hkb]
      exact hrest
  · by_cases hx : x = b
    · have ht := h.transfers x t hxt
      rw [hx, hq] at ht
      rw [hx, hq]
      exact ⟨ht.serial, ht.reading, fun hwr => by obtain ⟨_, hr, _⟩ := ht.writing hwr; cases hr⟩
    · rw [hw x hx]
      exact h.transfers x t hxt

/-- Ports and media change in what the tie does not read. -/
theorem Tied.outside (h : Tied c p m n) (hp : ∀ x, (q x).queue = (p x).queue ∧ (q x).transfer = (p x).transfer)
    (hm : ∀ x, (w x).state = (m x).state ∧ (w x).generation = (m x).generation) : Tied c q w n := by
  refine ⟨fun x => ?_, fun i => ⟨fun hi => ?_, (h.entries i).unowned⟩, h.fetches, h.writebacks, h.issued, ⟨fun i => ?_, fun b x t u hb hx => ?_⟩,
    fun x t hxt => ?_⟩
  · rw [(hp x).1, (hm x).1]
    exact h.queues x
  · obtain ⟨k, hk, hrest⟩ := (h.entries i).current hi
    refine ⟨k, hk, ?_⟩
    rw [(hm k.bay).1, (hm k.bay).2]
    exact hrest
  · simp only [(hp _).2]
    exact h.pins.pinned i
  · rw [(hp _).2] at hb hx
    exact h.pins.own b x t u hb hx
  · rw [(hp x).2] at hxt
    rw [(hp x).1, (hm x).2]
    exact h.transfers x t hxt

/-- Nothing held, nothing queued, nothing in transfer (R128, R151). -/
theorem Tied.empty (he : ∀ i, (c.entry i).state = .free ∧ (c.entry i).owner = none ∧ (c.entry i).pinned = false) (hf : c.fetches = [])
    (hw : c.writebacks = []) (hi : c.lastFetchId ≤ 255 ∧ c.lastWritebackId ≤ 255) (hp : ∀ b, (p b).queue = [] ∧ (p b).transfer = none) :
    Tied c p m n where
  queues b := by
    rw [(hp b).1]
    exact ⟨List.nodup_nil, nofun, fun hne => absurd rfl hne⟩
  entries i := CacheEntry.tied_of_free (he i).1 (he i).2.1
  fetches := by
    rw [hf]
    exact ⟨⟨List.nodup_nil, nofun⟩, fun i hi => by simp [(he i).1] at hi, nofun⟩
  writebacks := by
    rw [hw]
    exact ⟨⟨List.nodup_nil, nofun⟩, fun i hi => by simp [(he i).1] at hi, nofun⟩
  issued := hi
  pins := ⟨fun i => by simp [(he i).2.2, (hp _).2], fun b x t u hb => by simp [(hp b).2] at hb⟩
  transfers b t hbt := by simp [(hp b).2] at hbt

end Sys2Proof.Machine
end

section
/-! PROOFS. Every step keeps the cache tied to its tables, the media and the transfers (chapters 7 and 8). -/

namespace Sys2Proof.Machine

variable {s t : State} {b : Bay} {i j : Fin 256}

/-- The media port of each bay. -/
def State.ports (s : State) (b : Bay) : Port := (s.slice b).port

/-- The medium record of each bay. -/
def State.media (s : State) (b : Bay) : Medium := (s.slice b).medium

/-- The cache, its tables, the ports, the media and the serials of a state agree. -/
def State.Agrees (s : State) : Prop := Tied s.cache s.ports s.media s.nextSerial

theorem State.agrees_iff : s.Agrees ↔ s.CacheTied ∧ ∀ b, QueueTied s.nextSerial (s.ports b).queue (s.media b).state :=
  ⟨fun ⟨hq, he, hf, hw, hi, hp, ht⟩ =>
    ⟨⟨fun i => (he i).current, fun i => (he i).unowned, hf.ids, hw.ids, hi, hf.filling, hf.unfilled, hw.dirty, hw.unconfirmed, hp.pinned, hp.own,
      fun b t h => (ht b t h).serial, fun b t h => (ht b t h).reading, fun b t h => (ht b t h).writing⟩, hq⟩,
   fun ⟨⟨hc, hu, hf, hw, hi, h1, h2, h3, h4, hp, ho, hs, hr, hx⟩, hq⟩ =>
    ⟨hq, fun i => ⟨hc i, hu i⟩, ⟨hf, h1, h2⟩, ⟨hw, h3, h4⟩, hi, ⟨hp, ho⟩, fun b t h => ⟨hs b t h, hr b t h, hx b t h⟩⟩⟩

theorem State.MediaWf.queues (h : s.MediaWf) (b : Bay) : QueueTied s.nextSerial (s.ports b).queue (s.media b).state :=
  ⟨(h.ports b).serials, h.fresh b, h.present b⟩

theorem Cache.modEntry_modEntry (c : Cache) (i : Fin 256) (f g : CacheEntry → CacheEntry) :
    (c.modEntry i f).modEntry i g = c.modEntry i fun e => g (f e) := by
  have he : (c.modEntry i f).entry i = f (c.entry i) := (c.entry_modEntry i i f).trans (if_pos rfl)
  unfold Cache.modEntry at he ⊢
  rw [he]
  simp

/-! ## Ports and media after a change -/

@[simp] theorem State.media_modPort (s : State) (b : Bay) (f : Port → Port) : (s.modPort b f).media = s.media :=
  funext fun c => State.modSlice_slice_medium s b c _ fun _ => rfl

@[simp] theorem State.ports_modMedium (s : State) (b : Bay) (f : Medium → Medium) : (s.modMedium b f).ports = s.ports :=
  funext fun c => State.modSlice_slice_port s b c _ fun _ => rfl

@[simp] theorem State.ports_modPort_self (s : State) (b : Bay) (f : Port → Port) : (s.modPort b f).ports b = f (s.ports b) := by
  simp [State.ports]

theorem State.ports_modPort_ne (s : State) (f : Port → Port) (c : Bay) (h : c ≠ b) : (s.modPort b f).ports c = s.ports c :=
  congrArg Slice.port (State.slice_modSlice_ne s b c _ h)

@[simp] theorem State.media_modMedium_self (s : State) (b : Bay) (f : Medium → Medium) : (s.modMedium b f).media b = f (s.media b) := by
  simp [State.media]

theorem State.media_modMedium_ne (s : State) (f : Medium → Medium) (c : Bay) (h : c ≠ b) : (s.modMedium b f).media c = s.media c :=
  congrArg Slice.medium (State.slice_modSlice_ne s b c _ h)

@[simp] theorem State.ports_modCache (s : State) (f : Cache → Cache) : (s.modCache f).ports = s.ports := rfl

@[simp] theorem State.media_modCache (s : State) (f : Cache → Cache) : (s.modCache f).media = s.media := rfl

/-- Every port keeps its transfer where the port changed keeps its own. -/
theorem State.transfer_modPort (s : State) {f : Port → Port} (hf : ∀ p : Port, (f p).transfer = p.transfer) (c : Bay) :
    ((s.modPort b f).ports c).transfer = (s.ports c).transfer :=
  State.slice_modSlice_of (fun x => x.port.transfer) s b c _ fun x => hf x.port

theorem State.queue_modPort_ne (s : State) (f : Port → Port) (c : Bay) (h : c ≠ b) : ((s.modPort b f).ports c).queue = (s.ports c).queue := by
  rw [s.ports_modPort_ne f c h]

namespace State.Agrees

theorem congr (h : s.Agrees) (hs : ∀ b, (t.slice b).port = (s.slice b).port ∧ (t.slice b).medium = (s.slice b).medium) (hc : t.cache = s.cache)
    (hn : t.nextSerial = s.nextSerial) : t.Agrees := by
  have hp : t.ports = s.ports := funext fun b => (hs b).1
  have hm : t.media = s.media := funext fun b => (hs b).2
  unfold State.Agrees
  rw [hp, hm, hc, hn]
  exact h

/-- A port changes, with the media as they are. -/
theorem of_modPort {f : Port → Port} (h : Tied s.cache (s.modPort b f).ports s.media s.nextSerial) : (s.modPort b f).Agrees := by
  unfold State.Agrees
  rw [State.media_modPort]
  exact h

/-- A medium changes, with the ports as they are. -/
theorem of_modMedium {f : Medium → Medium} (h : Tied s.cache s.ports (s.modMedium b f).media s.nextSerial) : (s.modMedium b f).Agrees := by
  unfold State.Agrees
  rw [State.ports_modMedium]
  exact h

theorem flag {f : BayFlag} (h : s.Agrees) : (setFlag b f s).Agrees :=
  h.congr (fun c => ⟨setFlag_same (p := .port c) rfl, setFlag_same (p := .medium c) rfl⟩) (setFlag_same (p := .cache) rfl)
    (setFlag_same (p := .serials) rfl)

theorem port {f : Port → Port} (h : s.Agrees) (hf : ∀ p : Port, (f p).queue = p.queue ∧ (f p).transfer = p.transfer) :
    (s.modPort b f).Agrees :=
  of_modPort (Tied.outside h (fun c => ⟨State.slice_modSlice_of (fun x => x.port.queue) s b c _ fun x => (hf x.port).1,
    s.transfer_modPort (fun p => (hf p).2) c⟩) fun _ => ⟨rfl, rfl⟩)

theorem changed {v : Bool} (h : s.Agrees) : (s.modMedium b fun m => { m with changed := v }).Agrees :=
  of_modMedium (Tied.outside h (fun _ => ⟨rfl, rfl⟩) fun c => by
    by_cases hc : c = b
    · subst hc
      rw [State.media_modMedium_self]
      exact ⟨rfl, rfl⟩
    · rw [s.media_modMedium_ne _ c hc]
      exact ⟨rfl, rfl⟩)

/-! ## Transfers and victims -/

/-- A bay with requests has its disk (R113, R120). -/
theorem present (h : s.Agrees) (hq : (s.slice b).port.queue ≠ []) : (s.media b).state = .present := (Tied.queues h b).present hq

/-- A block of a bay with no transfer in flight is on an entry that no transfer uses (R130). -/
theorem unpinned (h : s.Agrees) {block : Nat} (ht : (s.slice b).port.transfer = none) (hf : s.cache.find (s.key b block) = some i) :
    (s.cache.entry i).pinned = false := by
  obtain ⟨hst, hk⟩ := Cache.find_spec hf
  refine Bool.eq_false_iff.mpr fun hpin => ?_
  obtain ⟨c, x, hx, rfl⟩ := (Tied.pins h).pinned i |>.mp hpin
  have htied := Tied.transfers h c x hx
  have hc : b = c := by
    cases hw : x.write with
    | false =>
      obtain ⟨k, hk', hc⟩ := (htied.reading hw).2.resolve_left hst
      rw [hk] at hk'
      cases hk'
      exact hc
    | true =>
      obtain ⟨_, _, _, _, _, _, hk'⟩ := htied.writing hw
      rw [hk] at hk'
      exact congrArg BlockKey.bay (Option.some.inj hk')
  subst hc
  simp [State.ports, ht] at hx

theorem startTransfer (h : s.Agrees) {r : ServerRequest} (hr : r ∈ (s.slice b).port.queue) (ht : (s.slice b).port.transfer = none)
    (hpin : (s.cache.entry i).pinned = false) (hk : (s.cache.entry i).key = some (s.key b r.next))
    (hs : (s.cache.entry i).state = .valid ∨ (s.cache.entry i).state = .dirty ∧ r.write = false)
    (hw : r.write = true → r.transferred < r.count) : (startTransfer b r i s).Agrees := by
  unfold Machine.startTransfer
  refine of_modPort (Tied.pin h hr ht hpin hk hs hw (fun j => Cache.entry_pin s.cache i j) rfl rfl ⟨rfl, rfl⟩
    (fun c hc => State.ports_modPort_ne _ _ c hc) ?_ ?_) <;> rw [State.ports_modPort_self]
  rfl

theorem victim (h : s.Agrees) {r : ServerRequest} (hr : r ∈ (s.slice b).port.queue) (ht : (s.slice b).port.transfer = none)
    (hv : s.cache.victim b = some i) (hw : r.transferred < r.count) :
    (Machine.startTransfer b r i (s.modCache fun c => c.take i (s.key b r.next) .valid none)).Agrees := by
  have he := Cache.entry_take s.cache i i (s.key b r.next) .valid none
  rw [if_pos rfl] at he
  have htake : (s.modCache fun c => c.take i (s.key b r.next) .valid none).Agrees :=
    Tied.takeValid h hv (h.present (List.ne_nil_of_mem hr)) rfl
  refine htake.startTransfer hr ht ?_ ?_ (.inl ?_) fun _ => hw <;> rw [State.modCache_cache, he]
  · exact (Cache.victim_spec hv).1
  · rfl

/-- What is kept while the victims of a fetch are taken (R136). -/
structure Asking (c₀ : Cache) (s : State) (b : Bay) (first : Nat) (n : Nat) (rest : List Nat) (c : Cache) : Prop where
  tied : Tied { c with fetches := c₀.fetches ++ [extentRecord c₀.nextFetchId b (s.media b).generation first n], lastFetchId := c₀.nextFetchId }
    s.ports s.media s.nextSerial
  run : ∃ m, rest = List.range' (first + n) m
  tables : c.fetches = c₀.fetches

theorem Asking.take {c₀ c : Cache} {first n x : Nat} {rest : List Nat} (h : Asking c₀ s b first n (x :: rest) c)
    (hp : (s.media b).state = .present) (hv : c.victim b = some i) :
    Asking c₀ s b first (n + 1) rest (c.take i (s.key b x) .filling (some (.fetch c₀.nextFetchId n))) := by
  obtain ⟨htied, ⟨m, hrun⟩, htables⟩ := h
  cases m with
  | zero => cases hrun
  | succ m =>
    rw [List.range'_succ] at hrun
    cases hrun
    exact ⟨Tied.takeFilling htied hv hp rfl, ⟨m, rfl⟩, htables⟩

theorem askFetch (h : s.Agrees) {block last : Nat} (hq : (s.slice b).port.queue ≠ []) : (askFetch b block last s).1.Agrees := by
  unfold Machine.askFetch
  split
  · exact h
  case isFalse hroom =>
    have hroom : s.cache.fetches.length < 32 := Nat.lt_of_not_le hroom
    dsimp only
    split
    · exact h
    · obtain ⟨m, hm, _⟩ := fetchExtent_run s b (last + s.cache.readAhead) 8 block
      obtain ⟨_, _, hid, _⟩ := freshId_idAfter (held := s.cache.fetches.map FetchRecord.id)
        (by simpa using hroom.trans (by decide)) (Tied.issued h).1
      have hstart : Asking s.cache s b block 0 (List.range' block m) s.cache :=
        ⟨Tied.openRecord h hid (freshId_range _ _ _ (Tied.issued h).1), ⟨m, rfl⟩, rfl⟩
      rw [hm]
      obtain ⟨_, ht⟩ := takeVictims_keeps (Asking s.cache s b block) (fun n x rest c i ha hv => ha.take (h.present hq) hv) _ 0 _ hstart
      have := ht.tied
      rwa [← ht.tables] at this

/-! ## The end of a transfer -/

theorem unpin (h : s.Agrees) {x : Transfer} (ht : (s.slice b).port.transfer = some x) : (unpin b x s).Agrees := by
  unfold Machine.unpin
  refine of_modPort (Tied.unpin h ht (fun j => ?_) rfl rfl ⟨rfl, rfl⟩ (fun c hc => State.ports_modPort_ne _ _ c hc) ?_ ?_)
  · exact Cache.entry_modEntry s.cache x.entry j fun e => { e with pinned := false }
  · rw [State.ports_modPort_self]
    rfl
  · rw [State.ports_modPort_self]

/-- A VALID entry that no transfer uses is freed. -/
theorem release (h : s.Agrees) (hpin : (s.cache.entry i).pinned = false) (hs : (s.cache.entry i).state = .valid) :
    (s.modCache fun c => c.modEntry i CacheEntry.release).Agrees := by
  have hd (j : Fin 256) := Cache.entry_modEntry s.cache i j CacheEntry.release
  have hi := Tied.issued h
  refine Tied.rewrite (d := s.cache.modEntry i CacheEntry.release) (x := (s.cache.entry i).release) h hpin (CacheEntry.tied_of_free rfl rfl) hpin hd ((Tied.fetches h).congr fun j hj => ?_)
    ((Tied.writebacks h).congr fun j hj => ?_) hi
  all_goals
    rw [hd] at hj ⊢
    split
    case isFalse => exact ⟨rfl, rfl, rfl⟩
    case isTrue hji =>
      rw [if_pos hji, hji, hs] at hj
      rcases hj with hj | hj <;> cases hj

theorem abandon (h : s.Agrees) (b : Bay) : (abandon b s).Agrees := by
  unfold Machine.abandon
  split
  · exact h
  case h_2 x hx =>
    have hu := h.unpin hx
    cases hw : x.write with
    | false => exact hu
    | true =>
      obtain ⟨_, _, _, _, _, hst, _⟩ := (Tied.transfers h b x hx).writing hw
      have he : (Machine.unpin b x s).cache.entry x.entry = { s.cache.entry x.entry with pinned := false } :=
        (Cache.entry_modEntry s.cache x.entry x.entry fun e => { e with pinned := false }).trans (if_pos rfl)
      refine (hu.release (i := x.entry) (by rw [he]) (by rw [he]; exact hst)).congr (fun _ => ⟨rfl, rfl⟩) ?_ rfl
      exact (Cache.modEntry_modEntry s.cache x.entry (fun e => { e with pinned := false }) CacheEntry.release).symm

theorem abandon_transfer (b : Bay) (s : State) : ((Machine.abandon b s).ports b).transfer = none := by
  unfold Machine.abandon
  split
  · assumption
  · rw [State.ports_modPort_self]

theorem forget (h : s.Agrees) (b : Bay) : (forgetRequests b s).Agrees :=
  Tied.writebackNotice h fun r => by split <;> exact ⟨rfl, rfl, rfl, rfl, rfl, rfl⟩

/-- The whole queue of a bay with no transfer goes. -/
theorem clear {f : Port → Port} (h : s.Agrees) (ht : (s.ports b).transfer = none) (hf : ∀ p : Port, (f p).queue = [] ∧ (f p).transfer = p.transfer) :
    (s.modPort b f).Agrees := by
  refine of_modPort (Tied.leave h (s.queue_modPort_ne f) (s.transfer_modPort fun p => (hf p).2) ?_ fun x hx => ?_)
  · rw [State.ports_modPort_self, (hf _).1]
    exact List.nil_sublist _
  · rw [ht] at hx
    cases hx

theorem down (h : s.Agrees) (b : Bay) : ((forgetRequests b (Machine.abandon b s)).modPort b fun p => { p with up := false, queue := [] }).Agrees :=
  ((h.abandon b).forget b).clear (abandon_transfer b s) fun _ => ⟨rfl, rfl⟩

/-! ## Ejects (R113 to R115) -/

/-- A bay's medium with nothing queued changes its state, with no entry of the bay left that could not belong to it. -/
theorem medium {f : Medium → Medium} (h : s.Agrees) (hq : (s.ports b).queue = [])
    (hf : ∀ i k, (s.cache.entry i).state ≠ .free → (s.cache.entry i).key = some k → k.bay = b → (f (s.media b)).state ≠ .empty ∧
      (f (s.media b)).generation = (s.media b).generation ∧ ((f (s.media b)).state = .ejectPending → (s.cache.entry i).state = .dirty)) :
    (s.modMedium b f).Agrees := by
  refine of_modMedium (Tied.medium h (fun c hc => s.media_modMedium_ne f c hc) hq fun i k hs hk hkb => ?_)
  obtain ⟨h1, h2, h3⟩ := hf i k hs hk hkb
  obtain ⟨k', hk', _, hg, _⟩ := (Tied.entries h i).current hs
  rw [hk] at hk'
  cases hk'
  rw [State.media_modMedium_self]
  exact ⟨h1, by rw [h2, hg, hkb], h3⟩

theorem emptied (h : s.Agrees) (hq : (s.ports b).queue = []) (hf : ∀ i, (s.cache.entry i).heldBy b = false) : (emptyMedium b s).Agrees := by
  refine (h.medium hq fun i k hs hk hkb => ?_).flag
  simpa [CacheEntry.heldBy, hs, hk, hkb] using hf i

theorem freeFilling (h : s.Agrees) (b : Bay) :
    ((freeHeld b .filling s).modCache fun c => { c with fetches := orphanFetches b c.fetches }).Agrees := by
  refine Tied.freeFilling h (sel := fun i => (s.cache.entry i).heldBy b && decide ((s.cache.entry i).state = .filling))
    (g := fun r => if r.bay = b then { r with orphan := true } else r) (fun r => !(r.bay = b && !r.orphan && r.notice = .pending))
    (fun i => ?_) rfl rfl ⟨rfl, rfl⟩ (fun i hi => by simpa using (Bool.and_eq_true_iff.mp hi).2) (fun r _ => ?_) fun r _ hor i x hi _ hk => ?_
  · exact Cache.entry_mapEntries s.cache i _
  · split
    · exact ⟨rfl, nofun⟩
    · exact ⟨rfl, fun ho => ⟨ho, rfl, rfl, rfl, rfl⟩⟩
  · by_cases hb : r.bay = b <;> simp [CacheEntry.heldBy, hi, hk, hb]

theorem freeValid (h : s.Agrees) (ht : (s.ports b).transfer = none) : (freeHeld b .valid s).Agrees := by
  refine Tied.freeValid h (sel := fun e => e.heldBy b && decide (e.state = .valid)) (fun e he => ?_) fun c x hx hw => ?_
  · have : e.state = .valid := by simpa using (Bool.and_eq_true_iff.mp he).2
    simp [this]
  · obtain ⟨_, _, _, _, _, _, hk⟩ := (Tied.transfers h c x hx).writing hw
    have hc : c ≠ b := by rintro rfl; simp [ht] at hx
    simp [CacheEntry.heldBy, hk, hc]

theorem freeDirty (h : s.Agrees) (b : Bay) :
    (freeHeld b .dirty (s.modCache fun c => { c with writebacks := orphanWritebacks b c.writebacks })).Agrees := by
  refine Tied.freeDirty h (act := fun _ => CacheEntry.release) (sel := fun i => (s.cache.entry i).heldBy b && decide ((s.cache.entry i).state = .dirty))
    (g := fun r => if r.bay = b then { r with orphan := true, entry := none, request := none } else r)
    (fun r => !(r.bay = b && !r.orphan && r.notice = .pending)) (fun i => ?_) rfl rfl ⟨rfl, rfl⟩
    (fun i hi => by simpa using (Bool.and_eq_true_iff.mp hi).2)
    (fun i _ => ⟨CacheEntry.tied_of_free rfl rfl, rfl, .inl rfl⟩) (fun r => ?_) fun r _ hor i _ hi hk => ?_
  · exact Cache.entry_mapEntries s.cache i _
  · split
    · exact ⟨rfl, nofun⟩
    · exact ⟨rfl, fun ho => ⟨ho, rfl, rfl, rfl, rfl⟩⟩
  · by_cases hb : r.bay = b <;> simp [CacheEntry.heldBy, hi, hk, hb]

theorem heldBy_freeHeld {st : EntryState} (h : ((freeHeld b st s).cache.entry i).heldBy b = true) :
    (freeHeld b st s).cache.entry i = s.cache.entry i ∧ (s.cache.entry i).state ≠ st := by
  have he : (freeHeld b st s).cache.entry i = _ := Cache.entry_mapEntries s.cache i _
  rw [he] at h ⊢
  split
  case isTrue hc =>
    rw [if_pos hc] at h
    cases h
  case isFalse hc =>
    rw [if_neg hc] at h
    exact ⟨rfl, fun hs => hc (by simp [h, hs])⟩

theorem dirtyCount_eq_zero : dirtyCount b s = 0 ↔ ∀ i, (s.cache.entry i).heldBy b = true → (s.cache.entry i).state ≠ .dirty := by
  simp only [dirtyCount, Cache.count, List.countP_eq_zero, Vector.mem_toList_iff, Bool.and_eq_true, decide_eq_true_eq, not_and]
  refine ⟨fun h i => h _ (Vector.getElem_mem i.isLt), fun h e he => ?_⟩
  obtain ⟨i, hi, rfl⟩ := Vector.getElem_of_mem he
  exact h ⟨i, hi⟩

theorem forceEject (h : s.Agrees) (hq : (s.ports b).queue = []) (hd : ∀ i, (s.cache.entry i).heldBy b = true → (s.cache.entry i).state = .dirty) :
    (forceEject b s).Agrees := by
  refine (h.freeDirty b).emptied hq fun i => Bool.eq_false_iff.mpr fun hi => ?_
  obtain ⟨he, hs⟩ := heldBy_freeHeld hi
  rw [he] at hi
  exact hs (hd i hi)

/-- What an EJECT of a PRESENT medium leaves before the medium itself changes (R113, steps 1 to 3). -/
def discarded (b : Bay) (s : State) : State :=
  freeHeld b .valid ((freeHeld b .filling (endRequests b (Machine.abandon b s))).modCache fun c => { c with fetches := orphanFetches b c.fetches })

theorem ejectPresent_eq (force : Bool) (b : Bay) (s : State) : ejectPresent force b s =
    if dirtyCount b (discarded b s) = 0 then emptyMedium b (discarded b s)
    else if force then Machine.forceEject b (discarded b s)
    else (discarded b s).modMedium b fun m => { m with state := .ejectPending } := rfl

theorem endRequests_port (b : Bay) (s : State) : ((endRequests b s).ports b).queue = [] ∧
    ((endRequests b s).ports b).transfer = (s.ports b).transfer := by
  unfold endRequests
  rw [State.ports_modPort_self]
  exact ⟨rfl, rfl⟩

theorem discarded_queue (b : Bay) (s : State) : ((discarded b s).ports b).queue = [] := (endRequests_port b (Machine.abandon b s)).1

theorem discarded_agrees (h : s.Agrees) (b : Bay) : (discarded b s).Agrees := by
  have h1 : (endRequests b (Machine.abandon b s)).Agrees :=
    ((h.abandon b).forget b).clear (f := fun p => { p with queue := [], sent := p.sent ++ p.queue.map fun r => .status r.tag .notReady })
      (abandon_transfer b s) fun _ => ⟨rfl, rfl⟩
  exact (h1.freeFilling b).freeValid ((endRequests_port b (Machine.abandon b s)).2.trans (abandon_transfer b s))

/-- Only DIRTY entries of the bay are left outside FREE (R113). -/
theorem discarded_dirty (hi : ((discarded b s).cache.entry i).heldBy b = true) : ((discarded b s).cache.entry i).state = .dirty := by
  obtain ⟨he, hv⟩ := heldBy_freeHeld (st := .valid) hi
  have hx : ((freeHeld b .filling (endRequests b (Machine.abandon b s))).cache.entry i).heldBy b = true := he ▸ hi
  obtain ⟨he', hf⟩ := heldBy_freeHeld (st := .filling) hx
  have hfree : ((discarded b s).cache.entry i).state ≠ .free := by
    intro hs
    simp [CacheEntry.heldBy, hs] at hi
  have hv' : ((discarded b s).cache.entry i).state ≠ .valid := fun hs => hv ((congrArg CacheEntry.state he).symm.trans hs)
  have hf' : ((discarded b s).cache.entry i).state ≠ .filling := fun hs => hf ((congrArg CacheEntry.state (he.trans he')).symm.trans hs)
  cases hs : ((discarded b s).cache.entry i).state with
  | free => exact absurd hs hfree
  | filling => exact absurd hs hf'
  | valid => exact absurd hs hv'
  | dirty => rfl

theorem ejectPresent (h : s.Agrees) (b : Bay) (force : Bool) : (ejectPresent force b s).Agrees := by
  have hd := h.discarded_agrees b
  rw [ejectPresent_eq]
  split
  case isTrue hz =>
    exact hd.emptied (discarded_queue b s) fun i => Bool.eq_false_iff.mpr fun hi => dirtyCount_eq_zero.mp hz i hi (discarded_dirty hi)
  · split
    · exact hd.forceEject (discarded_queue b s) fun i hi => discarded_dirty hi
    · refine hd.medium (discarded_queue b s) fun i k hs hk hkb => ⟨nofun, rfl, fun _ => ?_⟩
      exact discarded_dirty (by simp [CacheEntry.heldBy, hs, hk, hkb])

/-- The entries of a bay whose medium is EJECT_PENDING are DIRTY (R115). -/
theorem pending_dirty (h : s.Agrees) (hm : (s.media b).state = .ejectPending) (i : Fin 256) (hi : (s.cache.entry i).heldBy b = true) :
    (s.cache.entry i).state = .dirty := by
  simp only [CacheEntry.heldBy, ne_eq, decide_not, Bool.and_eq_true, Bool.not_eq_true', decide_eq_false_iff_not, Option.any_eq_true,
    decide_eq_true_eq] at hi
  obtain ⟨hs, k, hk, rfl⟩ := hi
  obtain ⟨k', hk', _, _, hd⟩ := (Tied.entries h i).current hs
  rw [hk] at hk'
  cases hk'
  exact hd hm

/-- No request is queued where no disk is PRESENT (R113, R120). -/
theorem queue_nil (h : s.Agrees) (hm : (s.media b).state ≠ .present) : (s.ports b).queue = [] := by
  by_contra hq
  exact hm (h.present hq)

theorem ejectMedium (h : s.Agrees) (b : Bay) (force : Bool) : (ejectMedium force b s).Agrees := by
  unfold Machine.ejectMedium
  split
  · exact h.ejectPresent b force
  case h_2 hm =>
    split
    · exact h.forceEject (h.queue_nil (by simp [State.media, hm])) (h.pending_dirty hm)
    · exact h
  · exact h

theorem finishEject (h : s.Agrees) (b : Bay) : (finishEject b s).Agrees := by
  unfold Machine.finishEject
  split
  case isTrue hc =>
    obtain ⟨hm, hz⟩ := hc
    exact h.emptied (h.queue_nil (by simp [State.media, hm])) fun i => Bool.eq_false_iff.mpr fun hi =>
      dirtyCount_eq_zero.mp hz i hi (h.pending_dirty hm i hi)
  · exact h

theorem insert (h : s.Agrees) {m : Medium} (hm : (s.slice b).medium.state = .empty) : (s.modMedium b fun _ => m).Agrees := by
  have hm : (s.media b).state = .empty := hm
  refine of_modMedium (Tied.medium h (fun c hc => s.media_modMedium_ne _ c hc) (h.queue_nil (by simp [hm])) fun i k hs hk hkb => ?_)
  obtain ⟨k', hk', hne, _⟩ := (Tied.entries h i).current hs
  rw [hk] at hk'
  cases hk'
  rw [hkb] at hne
  exact absurd hm hne

/-! ## Requests -/

theorem admitted (h : s.Agrees) {r : ServerRequest} (hp : (s.slice b).medium.state = .present) (hr : r.serial = s.nextSerial) :
    (enqueue b r s).Agrees := by
  have hj := Tied.join h (q := (s.modPort b fun p => { p with queue := p.queue ++ [r] }).ports) (b := b) (r := r) (s.queue_modPort_ne _)
    (s.transfer_modPort fun _ => rfl) (by rw [State.ports_modPort_self]) hr hp
  rw [← State.media_modPort s b fun p => { p with queue := p.queue ++ [r] }] at hj
  exact hj

/-- A request that is not a WRITE with blocks left to transfer completes (R119, R123, R125). -/
theorem complete (h : s.Agrees) {r : ServerRequest} {st : ServerStatus}
    (hr : ∀ x, (s.ports b).transfer = some x → x.write = true → x.serial ≠ r.serial) : (complete b r st s).Agrees := by
  refine State.Agrees.port (f := fun p => { p with sent := p.sent ++ [.status r.tag st] }) (of_modPort (Tied.leave h (s.queue_modPort_ne _)
    (s.transfer_modPort fun _ => rfl) ?_ fun x hx hw q hq hs => ?_)) fun _ => ⟨rfl, rfl⟩ <;> rw [State.ports_modPort_self]
  · exact List.filter_sublist
  · exact List.mem_filter.mpr ⟨hq, by simpa [hs] using hr x hx hw⟩

/-- A request changes in what no transfer reads, or with no transfer of its bay in flight. -/
theorem modRequest (h : s.Agrees) {n : Nat} {f : ServerRequest → ServerRequest} (hf : ∀ r, (f r).serial = r.serial ∧ (f r).write = r.write)
    (hw : ∀ x, (s.ports b).transfer = some x → x.write = true → ∀ r, (f r).transferred = r.transferred ∧ (f r).count = r.count ∧
      (f r).next = r.next) : (modRequest b n f s).Agrees := by
  unfold Machine.modRequest
  refine of_modPort (Tied.change h (g := fun r => if r.serial = n then f r else r) (s.queue_modPort_ne _) (s.transfer_modPort fun _ => rfl) ?_
    (fun r => ?_) fun x hx hwr r => ?_)
  · rw [State.ports_modPort_self]
  · split
    · exact hf r
    · exact ⟨rfl, rfl⟩
  · split
    · exact hw x hx hwr r
    · exact ⟨rfl, rfl, rfl⟩

theorem advance (h : s.Agrees) {n : Nat} {f : ServerRequest → ServerRequest} (ht : (s.slice b).port.transfer = none)
    (hf : ∀ r, (f r).serial = r.serial ∧ (f r).write = r.write) : (Machine.modRequest b n f s).Agrees :=
  h.modRequest hf fun x hx => by simp [State.ports, ht] at hx

/-! ## Records and their answers -/

theorem written (h : s.Agrees) {x : Transfer} {r : ServerRequest} {data : Block} (ht : (s.slice b).port.transfer = some x)
    (hw : x.write = true) (hr : (s.slice b).port.request x.serial = some r) (hp : usedPlaces s ≤ 16) :
    (Machine.modRequest b r.serial (fun r => { r with next := r.next + 1, transferred := r.transferred + 1 })
      ((Machine.unpin b x s).modCache fun c => c.makeDirty b (s.slice b).medium.generation x.entry r.next r.serial data)).Agrees := by
  obtain ⟨q, hq, hqs, _, _, hst, hk⟩ := (Tied.transfers h b x ht).writing hw
  obtain ⟨hmem, hser⟩ := Port.request_mem hr
  obtain rfl := eq_of_id_eq (Tied.queues h b).serials hq hmem (hqs.trans hser.symm)
  have he : (Machine.unpin b x s).cache.entry x.entry = { s.cache.entry x.entry with pinned := false } :=
    (Cache.entry_modEntry s.cache x.entry x.entry fun e => { e with pinned := false }).trans (if_pos rfl)
  have hm : (Machine.unpin b x s).media = s.media := by
    simp only [Machine.unpin, State.media_modPort, State.media_modCache]
  have hlen : (Machine.unpin b x s).cache.writebacks.length < 255 :=
    show s.cache.writebacks.length < 255 by unfold usedPlaces at hp; omega
  have hd := Tied.makeDirty (b := b) (i := x.entry) (block := q.next) (serial := q.serial) (data := data) (h.unpin ht) (by rw [he])
    (by rw [he]; exact hst) (by rw [he, hm]; exact hk) hlen
  rw [hm] at hd
  have hd' : ((Machine.unpin b x s).modCache fun c => c.makeDirty b (s.slice b).medium.generation x.entry q.next q.serial data).Agrees := by
    unfold State.Agrees
    rw [State.media_modCache, hm]
    exact hd
  exact hd'.advance (MediaKeeps.unpin_transfer b x s) fun _ => ⟨rfl, rfl⟩

theorem fetchOf_mem {c : Cache} {n : Nat} {r : FetchRecord} (h : c.fetchOf n = some r) : r ∈ c.fetches := List.mem_of_find?_eq_some h

theorem writebackOf_mem {c : Cache} {n : Nat} {r : WritebackRecord} (h : c.writebackOf n = some r) : r ∈ c.writebacks :=
  List.mem_of_find?_eq_some h

/-- A fetch record that is an orphan goes (R138 to R141). -/
theorem dropOrphan (h : s.Agrees) {r : FetchRecord} (hr : r ∈ s.cache.fetches) (ho : r.orphan = true) :
    (s.modCache fun c => c.dropFetch r.id).Agrees := by
  refine Tied.freeFilling h (sel := fun _ => false) (g := fun r => r) (fun q => q.id ≠ r.id) (fun _ => rfl) ?_ rfl ⟨rfl, rfl⟩ nofun
    (fun q _ => ⟨rfl, fun hq => ⟨hq, rfl, rfl, rfl, rfl⟩⟩) fun q hq hor _ _ _ _ _ => ?_
  · simp [Cache.dropFetch]
  · have hne : q.id ≠ r.id := by
      intro hid
      obtain rfl := eq_of_id_eq (Tied.fetches h).ids.1 hq hr hid
      simp [ho] at hor
    simpa using hne

theorem fillOrphan (h : s.Agrees) {r : FetchRecord} {n : Nat} (hr : r ∈ s.cache.fetches) (ho : r.orphan = true) :
    (s.modCache fun c => c.markFetch r n).Agrees := by
  unfold Cache.markFetch
  split
  · exact h.dropOrphan hr ho
  · refine Tied.freeFilling h (sel := fun _ => false) (g := fun q => if q.id = r.id then q.marked n else q) (fun _ => true) (fun _ => rfl) ?_ rfl
      ⟨rfl, rfl⟩ nofun (fun q hq => ?_) fun q hq hor _ _ _ _ _ => ?_
    · simp [Cache.modFetch]
    · split
      case isTrue hid =>
        obtain rfl := eq_of_id_eq (Tied.fetches h).ids.1 hq hr hid
        exact ⟨rfl, fun hq' => by simp [FetchRecord.marked, ho] at hq'⟩
      case isFalse => exact ⟨rfl, fun hq => ⟨hq, rfl, rfl, rfl, rfl⟩⟩
    · refine ⟨rfl, ?_⟩
      split <;> rfl

/-- The unfilled entries of a live fetch record are freed with it (R139). -/
theorem failed (h : s.Agrees) {r : FetchRecord} :
    (s.modCache fun c => (c.mapEntries fun e => if e.ofFetch r.id then e.release else e).dropFetch r.id).Agrees := by
  refine Tied.freeFilling h (sel := fun i => (s.cache.entry i).ofFetch r.id) (g := fun r => r) (fun q => q.id ≠ r.id) (fun i => ?_) ?_ rfl
    ⟨rfl, rfl⟩ (fun i hi => ?_) (fun q _ => ⟨rfl, fun hq => ⟨hq, rfl, rfl, rfl, rfl⟩⟩) fun q hq hor i x hi hown _ => ?_
  · exact Cache.entry_mapEntries s.cache i _
  · simp [Cache.dropFetch, Cache.mapEntries]
  · unfold CacheEntry.ofFetch at hi
    split at hi
    · simp only [Bool.and_eq_true, decide_eq_true_eq] at hi
      exact hi.1
    · cases hi
  · simp only [CacheEntry.ofFetch, hown, hi]
    by_cases hid : q.id = r.id <;> simp [hid]

/-- READs complete, one after the other (R139). -/
theorem completeReads (st : ServerStatus) (rs : List ServerRequest) : ∀ s : State, s.Agrees →
    (∀ r ∈ rs, ∀ x, (s.ports b).transfer = some x → x.write = true → x.serial ≠ r.serial) →
    (rs.foldl (fun s r => Machine.complete b r st s) s).Agrees := by
  induction rs with
  | nil => exact fun _ h _ => h
  | cons r rest ih =>
    intro s h hrs
    refine ih _ (h.complete (hrs r List.mem_cons_self)) fun q hq x hx => hrs q (List.mem_cons_of_mem _ hq) x ?_
    unfold Machine.complete tell at hx
    rw [State.ports_modPort_self, State.ports_modPort_self] at hx
    exact hx

/-- A READ is not the request of a WRITE in transfer (R124). -/
theorem not_transferred (h : s.Agrees) {r : ServerRequest} (hr : r ∈ (s.ports b).queue) (hw : r.write = true → r.count ≤ r.transferred)
    (x : Transfer) (hx : (s.ports b).transfer = some x) (hxw : x.write = true) : x.serial ≠ r.serial := by
  intro hs
  obtain ⟨q, hq, hqs, hqw, hlt, _⟩ := (Tied.transfers h b x hx).writing hxw
  obtain rfl := eq_of_id_eq (Tied.queues h b).serials hq hr (hqs.trans hs)
  have := hw hqw
  omega

theorem failReads (h : s.Agrees) (blocks : List Nat) : (failReads b blocks s).Agrees := by
  refine completeReads _ _ s h fun r hr x hx hw => ?_
  obtain ⟨hmem, hread⟩ := List.mem_filter.mp hr
  refine h.not_transferred (b := b) hmem (fun hwr => ?_) x hx hw
  simp [hwr] at hread

theorem dropWriteback (h : s.Agrees) {r : WritebackRecord} (hr : r ∈ s.cache.writebacks) (ho : r.orphan = true) :
    (s.modCache fun c => c.dropWriteback r.id).Agrees := by
  refine Tied.freeDirty h (act := fun _ e => e) (sel := fun _ => false) (g := fun r => r) (fun q => q.id ≠ r.id) (fun _ => rfl) rfl ?_ ⟨rfl, rfl⟩ nofun
    nofun (fun q => ⟨rfl, fun hq => ⟨hq, rfl, rfl, rfl, rfl⟩⟩) fun q hq hor _ _ _ _ => ?_
  · simp [Cache.dropWriteback]
  · have hne : q.id ≠ r.id := by
      intro hid
      obtain rfl := eq_of_id_eq (Tied.writebacks h).ids.1 hq hr hid
      simp [ho] at hor
    simpa using hne

/-- The DIRTY entry of a live writeback record is resolved and the record freed (R144). -/
theorem resolveEntry (h : s.Agrees) {r : WritebackRecord} {keep : Bool} (hr : r ∈ s.cache.writebacks) (ho : r.orphan = false)
    (hk : keep = true → (s.slice r.bay).medium.state ≠ .ejectPending) :
    (s.modCache fun c => (r.entry.elim c fun i => resolveEntry keep i c).dropWriteback r.id).Agrees := by
  obtain ⟨i, hent, hi, hown⟩ := (Tied.writebacks h).unconfirmed r hr ho
  have hkey : (s.cache.entry i).key = some ⟨r.bay, r.generation, r.block⟩ := by
    obtain ⟨q, hq, _, _, hqo, hqk⟩ := (Tied.writebacks h).dirty i hi
    rw [hown] at hqo
    obtain rfl := eq_of_id_eq (Tied.writebacks h).ids.1 hr hq (by simpa using hqo)
    exact hqk
  rw [hent]
  refine Tied.freeDirty h (act := fun _ e => if keep then { e with state := .valid, owner := none } else e.release) (sel := fun j => j = i)
    (g := fun r => r) (fun q => q.id ≠ r.id) (fun j => ?_) rfl ?_ ⟨rfl, rfl⟩ (fun j hj => ?_) (fun j hj => ?_)
    (fun q => ⟨rfl, fun hq => ⟨hq, rfl, rfl, rfl, rfl⟩⟩) fun q hq hor j hqe hj _ => ?_
  · have he := Cache.entry_modEntry s.cache i j fun e => if keep then { e with state := .valid, owner := none } else e.release
    refine Eq.trans he ?_
    by_cases hji : j = i <;> simp [hji]
  · simp [Cache.dropWriteback, Machine.resolveEntry, Cache.modEntry]
  · rw [decide_eq_true_eq.mp hj]
    exact hi
  · rw [decide_eq_true_eq.mp hj]
    cases hkeep : keep with
    | false => exact ⟨CacheEntry.tied_of_free rfl rfl, rfl, .inl rfl⟩
    | true =>
      refine ⟨⟨fun _ => ?_, fun _ => rfl⟩, rfl, .inr ⟨rfl, rfl⟩⟩
      obtain ⟨k, hk', hne, hg, _⟩ := (Tied.entries h i).current (by simp [hi])
      rw [hkey] at hk'
      cases hk'
      exact ⟨_, hkey, hne, hg, fun hp => absurd hp (hk hkeep)⟩
  · obtain ⟨l, hl, _, hlo⟩ := (Tied.writebacks h).unconfirmed q hq hor
    rw [hqe] at hl
    cases hl
    by_cases hji : j = i
    · rw [hji, hown] at hlo
      have hid : r.id = q.id := by simpa using hlo
      simp [hji, hid]
    · have hne : q.id ≠ r.id := by
        intro hid
        obtain rfl := eq_of_id_eq (Tied.writebacks h).ids.1 hq hr hid
        rw [hqe] at hent
        exact hji (Option.some.inj hent)
      simpa [hji] using hne

theorem resolveBlock (h : s.Agrees) {failed : Bool} {n : Nat} : (resolveBlock b failed n s).Agrees := by
  have hm : (Machine.modRequest b n (fun r => { r with resolved := r.resolved + 1, failed := r.failed || failed }) s).Agrees :=
    h.modRequest (fun _ => ⟨rfl, rfl⟩) fun _ _ _ _ => ⟨rfl, rfl, rfl⟩
  unfold Machine.resolveBlock
  dsimp only
  split
  · exact hm
  case h_2 r hr =>
    have hdone (hc : r.transferred = r.count) (st : ServerStatus) : (Machine.complete b r st
        (Machine.modRequest b n (fun r => { r with resolved := r.resolved + 1, failed := r.failed || failed }) s)).Agrees :=
      hm.complete (hm.not_transferred (Port.request_mem hr).1 fun _ => hc.ge)
    split
    case isTrue hc =>
      split
      · exact (hdone hc.1 _).flag
      · exact hdone hc.1 _
    case isFalse => exact hm

end State.Agrees

/-- What the media side's commands are made of keeps the cache tied (R115, R129, R130, R137, R143). -/
theorem mediaKeeps_agrees : MediaKeeps fun s => s.CacheWf ∧ s.Agrees := by
  have k := mediaKeeps_cacheWf
  refine
    { transfer := fun s b r i hr ht hf hs hw h => ⟨k.transfer s b r i hr ht hf hs hw h.1, ?_⟩
      victim := fun s b r i hr ht hf hv hw hlt hp h => ⟨k.victim s b r i hr ht hf hv hw hlt hp h.1, h.2.victim hr ht hv hlt⟩
      ask := fun s b block last hq h => ⟨k.ask s b block last hq h.1, h.2.askFetch hq⟩
      congr := fun s t hs hc hn h => ⟨k.congr s t hs hc hn h.1, h.2.congr hs hc hn⟩
      port := fun s b f hf h => ⟨k.port s b f hf h.1, h.2.port hf⟩
      changed := fun s b v h => ⟨k.changed s b v h.1, h.2.changed⟩
      down := fun s b h => ⟨k.down s b h.1, h.2.down b⟩
      eject := fun s b force h => ⟨k.eject s b force h.1, h.2.ejectMedium b force⟩
      insert := fun s b m he hp h => ⟨k.insert s b m he hp h.1, h.2.insert he⟩
      admitted := fun s b r hp hr h => ⟨k.admitted s b r hp hr h.1, h.2.admitted hp hr⟩
      unpin := fun s b x hx h => ⟨k.unpin s b x hx h.1, h.2.unpin hx⟩
      complete := fun s b r st ht h => ⟨k.complete s b r st ht h.1, h.2.complete fun x hx => by simp [State.ports, ht] at hx⟩
      advance := fun s b n ht h => ⟨k.advance s b n ht h.1, h.2.advance ht fun _ => ⟨rfl, rfl⟩⟩
      written := fun s b x r data hx hw hr h => ⟨k.written s b x r data hx hw hr h.1, h.2.written hx hw hr h.1.places⟩
      cache := fun s f hf h => ⟨k.cache s f hf h.1, ?_⟩
      fetchNotice := fun s f hf h => ⟨k.fetchNotice s f hf h.1, Tied.fetchNotice h.2 hf⟩
      writebackNotice := fun s f hf h => ⟨k.writebackNotice s f hf h.1, Tied.writebackNotice h.2 hf⟩
      fill := fun s r n data hr ho hm h => ⟨k.fill s r n data hr ho hm h.1, Tied.fill h.2 (State.Agrees.fetchOf_mem hr)⟩
      fillOrphan := fun s r n hr ho h => ⟨k.fillOrphan s r n hr ho h.1, h.2.fillOrphan (State.Agrees.fetchOf_mem hr) ho⟩
      fail := fun s r hr ho h => ⟨k.fail s r hr ho h.1, h.2.failed.failReads _⟩
      dropFetch := fun s r hr ho h => ⟨k.dropFetch s r hr ho h.1, h.2.dropOrphan (State.Agrees.fetchOf_mem hr) ho⟩
      resolve := fun s r keep failed hr ho hk h => ⟨k.resolve s r keep failed hr ho hk h.1, ?_⟩
      dropWriteback := fun s r hr ho h => ⟨k.dropWriteback s r hr ho h.1, h.2.dropWriteback (State.Agrees.writebackOf_mem hr) ho⟩
      reset := fun s causes v h => ⟨k.reset s causes v h.1, ?_⟩
      cold := fun s => ⟨k.cold s, ?_⟩ }
  case refine_1 =>
    obtain ⟨hst, hk⟩ := Cache.find_spec hf
    exact h.2.startTransfer hr ht (h.2.unpinned ht hf) hk hs fun hwr => (hw hwr).2.1
  case refine_2 =>
    obtain ⟨he, hfe, hwe, hlast⟩ := hf s.cache
    refine Tied.congr h.2 (fun i => ?_) hfe hwe hlast
    simp only [State.modCache_cache, Cache.entry, he, and_self]
  case refine_3 =>
    have hs := h.2.resolveEntry (keep := keep) (State.Agrees.writebackOf_mem hr) ho hk
    refine State.Agrees.finishEject ?_ _
    cases r.request with
    | none => exact hs
    | some n => exact hs.resolveBlock
  case refine_4 =>
    have hi := Tied.issued h.2
    refine Tied.empty (fun i => ?_) rfl rfl hi fun b => ?_
    · simp [Machine.controllerReset, Cache.afterReset, Cache.entry, Vector.get_eq_getElem, CacheEntry.release]
    · simp [State.ports, controllerReset_slice, Slice.afterReset, Port.afterReset]
  case refine_5 =>
    refine Tied.empty (fun i => ?_) rfl rfl ⟨Nat.le_refl _, Nat.le_refl _⟩ fun b => ?_
    · simp [coldBlocks, Cache.entry, Vector.get_eq_getElem]
    · simp [State.ports, coldBlocks_slice]

/-- Settles O59: with the cache's own invariant and the tie to the tables, the queues and the media kept together. -/
theorem stepKeepsTheCache : Obligations.StepKeepsTheCache := by
  refine ⟨step_cacheWf, fun s t hm hw ht hs => ?_⟩
  have h := mediaKeeps_agrees.step (fun _ _ h => ⟨h.1.less (.of_eq rfl fun _ => rfl), h.2⟩) s t
    ⟨hw, State.agrees_iff.mpr ⟨ht, hm.queues⟩⟩ hs
  exact (State.agrees_iff.mp h.2).1

end Sys2Proof.Machine
end

section
/-! PROOFS. The statements of chapter 10 about flags, STATUS, MASK and what R167 refuses, and the two statements about a step and the reset
state. -/

namespace Sys2Proof.Machine

variable {s t : State} {tag kind n : Byte} {b : Bay} {act : State → Answer}

/-- Settles O1: a step takes the command that waits longest apart from the rest, and with none waiting it stays. -/
theorem stepTakesTheFront : Obligations.StepTakesTheFront := by
  refine ⟨fun _ _ _ => rfl, fun s h => ?_⟩
  unfold step
  rw [h]

/-! ## Flags (R172, R173) -/

theorem BayFlag.bit_inj {f g : BayFlag} (h : f.bit = g.bit) : f = g := by cases f <;> cases g <;> first | rfl | cases h

theorem PartFlag.bit_inj {f g : PartFlag} (h : f.bit = g.bit) : f = g := by cases f <;> cases g <;> first | rfl | cases h

theorem BayFlag.bit_lt (f : BayFlag) : f.bit < 19 := by cases f <;> decide

theorem PartFlag.bit_lt (f : PartFlag) : f.bit < 4 := by cases f <;> decide

/-- The bit of a flag that is set reads as set, and every other bit as it was. -/
theorem getLsbD_or_twoPow {w : Nat} (x : BitVec w) {i : Nat} (hi : i < w) (j : Nat) :
    (x ||| BitVec.twoPow w i).getLsbD j = (decide (j = i) || x.getLsbD j) := by
  rw [BitVec.getLsbD_or, BitVec.getLsbD_twoPow]
  by_cases hj : j = i
  · subst hj
    simp [hi]
  · simp [hj, Ne.symm hj]

theorem setFlag_unmasked (b c : Bay) (f : BayFlag) (s : State) : ((setFlag b f s).slice c).unmasked = (s.slice c).unmasked :=
  setFlag_same (p := .masks c) rfl

/-- A flag of a bay reads as set once it has been set, and every other flag as before (R172). -/
theorem flag_setFlag (b c : Bay) (f g : BayFlag) (s : State) :
    (setFlag b f s).flag c g = (decide (c = b ∧ g = f) || s.flag c g) := by
  by_cases hc : c = b
  · subst hc
    unfold State.flag
    rw [setFlag_slice_self, getLsbD_or_twoPow _ f.bit_lt]
    by_cases hg : g = f
    · simp [hg]
    · have hb : g.bit ≠ f.bit := fun h => hg (BayFlag.bit_inj h)
      simp [hg, hb]
  · have hs : (setFlag b f s).slice c = s.slice c :=
      State.slice_modSlice_ne s b c (fun x => { x with flags := x.flags ||| BitVec.twoPow 19 f.bit }) hc
    simp [State.flag, hs, hc]

theorem flagIsSet_bay (s : State) (b : Bay) (f : BayFlag) :
    (setFlag b f s).flag b f = true ∧ (∀ c g, c ≠ b ∨ g ≠ f → (setFlag b f s).flag c g = s.flag c g) ∧
    (∀ c, ((setFlag b f s).slice c).unmasked = (s.slice c).unmasked) ∧
    (setFlag b f s).link.summaryPending = (s.link.summaryPending || (!s.flag b f && (s.slice b).unmasked.getLsbD f.bit)) ∧
    ∀ p : Part, p.flagging b = false → p.Same s (setFlag b f s) := by
  refine ⟨by simp [flag_setFlag], fun c g h => ?_, fun c => setFlag_unmasked b c f s, rfl, fun p hp => setFlag_same hp⟩
  rw [flag_setFlag, decide_eq_false (by tauto), Bool.false_or]

theorem partFlag_setPartFlag (f g : PartFlag) (s : State) : (setPartFlag f s).partFlag g = (decide (g = f) || s.partFlag g) := by
  have hp : (setPartFlag f s).link.partFlags = s.link.partFlags ||| BitVec.twoPow 4 f.bit := rfl
  unfold State.partFlag
  rw [hp, getLsbD_or_twoPow _ f.bit_lt]
  by_cases hg : g = f
  · simp [hg]
  · have hb : g.bit ≠ f.bit := fun h => hg (PartFlag.bit_inj h)
    simp [hg, hb]

/-- Settles O2: what a set flag and every other flag read as afterwards, and the frame of the operation. -/
theorem flagIsSet : Obligations.FlagIsSet := by
  refine ⟨flagIsSet_bay, fun s f => ⟨by simp [partFlag_setPartFlag], fun g hg => by simp [partFlag_setPartFlag, hg], rfl,
    fun p h h' => setPartFlag_same h h'⟩⟩

/-! ## STATUS (R174, R175) -/

theorem le1_bay (b : Bay) : le1 b.val = [bayByte b] := rfl

theorem exec_statusBay_accepted (ht : takesRequest tag s) (b : Bay) :
    exec (.statusBay tag (bayByte b)) s = .next (replied 0x82 tag (0 :: statusBayFields b s)
      (s.withSlice b { s.slice b with
        flags := 0
        sequencer := { (s.slice b).sequencer with
          snapshotPgood := (s.slice b).sequencer.pgood, snapshotBtn := (s.slice b).sequencer.btnSeen } })) :=
  congrArg Host.Outcome.next (takeRequest_accepted ht (onBay_bayByte b _ _))

theorem exec_statusPart_accepted (ht : takesRequest tag s) :
    exec (.statusPart tag) s = .next (replied 0x82 tag (0 :: statusPartFields s) { s with link := { s.link with partFlags := 0 } }) :=
  congrArg Host.Outcome.next (takeRequest_accepted ht (show statusPartAct (toHunt s) = _ from rfl))

theorem encodeBays_eq (bs : List Bay) : encodeBays bs = le1 bs.length ++ bs.map bayByte := by
  unfold encodeBays
  exact congrArg (le1 bs.length ++ ·) (List.map_eq_flatMap (f := bayByte) (l := bs)).symm

/-- Settles O4: the owner's fields are those of the two tables, a bay's byte and a list of bays written as R180 has them. -/
theorem statusReportsAndClears : Obligations.StatusReportsAndClears := by
  refine ⟨⟨fun s tag b ht => exec_statusBay_accepted ht b, fun s tag scope ht hs _ =>
    congrArg Host.Outcome.next (takeRequest_refused ht (onBay_above hs _ _))⟩, fun s tag ht => ?_⟩
  rw [exec_statusPart_accepted ht, statusPartFields, encodeBays_eq]
  rfl

/-! ## MASK (R173) -/

/-- A set flag that new marks unmask, as the owner's one test of the bitmaps finds it. -/
theorem unmasks_eq {w v : Nat} (flags old : BitVec w) (marks : BitVec v) (_ : w ≤ v) :
    (flags &&& marks.setWidth w &&& ~~~old != 0) =
      List.any (List.range w) fun i => flags.getLsbD i && marks.getLsbD i && !old.getLsbD i := by
  have hbit (i : Nat) (hi : i < w) : (flags &&& marks.setWidth w &&& ~~~old).getLsbD i =
      (flags.getLsbD i && marks.getLsbD i && !old.getLsbD i) := by
    simp [hi]
  rw [Bool.eq_iff_iff, List.any_eq_true, bne_iff_ne]
  constructor
  · intro hne
    by_contra hall
    refine hne (BitVec.eq_of_getLsbD_eq fun i hi => ?_)
    rw [hbit i hi]
    exact (Bool.eq_false_iff.mpr fun hx => hall ⟨i, List.mem_range.mpr hi, hx⟩).trans BitVec.getLsbD_zero.symm
  · rintro ⟨i, hi, hx⟩ hz
    have := hbit i (List.mem_range.mp hi)
    rw [hz, hx] at this
    simp at this

theorem exec_mask_bay (ht : takesRequest tag s) (b : Bay) (marks : BitVec 24) :
    exec (.mask tag (bayByte b) marks) s = .next (replied 0x83 tag (0 :: le3 (marks.setWidth 19).toNat)
      (raiseSummary ((s.slice b).flags &&& marks.setWidth 19 &&& ~~~(s.slice b).unmasked != 0)
        (s.withSlice b { s.slice b with unmasked := marks.setWidth 19 }))) := by
  refine congrArg Host.Outcome.next (takeRequest_accepted ht ?_)
  have hb : bayByte b ≠ 0xFF := by
    intro h
    have := congrArg BitVec.toNat h
    rw [bayByte_toNat] at this
    exact absurd this (Nat.ne_of_lt (b.isLt.trans (by decide)))
  rw [if_neg hb, onBay_bayByte]
  rfl

theorem exec_mask_part (ht : takesRequest tag s) (marks : BitVec 24) :
    exec (.mask tag 0xFF marks) s = .next (replied 0x83 tag (0 :: le1 (marks.setWidth 4).toNat)
      (raiseSummary (s.link.partFlags &&& marks.setWidth 4 &&& ~~~s.link.partUnmasked != 0)
        { s with link := { s.link with partUnmasked := marks.setWidth 4 } })) :=
  congrArg Host.Outcome.next (takeRequest_accepted ht (show (if (0xFF : Byte) = 0xFF then maskPartAct marks (toHunt s) else _) = _ from rfl))

/-- Settles O5: the owner's test of the bitmaps is the statement's test of each flag. -/
theorem maskWritesMarks : Obligations.MaskWritesMarks := by
  refine ⟨fun s tag b marks ht => ?_, fun s tag marks ht => ?_, fun s tag scope marks ht hs hne => ?_⟩
  · rw [exec_mask_bay ht, unmasks_eq _ _ _ (by decide)]
  · rw [exec_mask_part ht, unmasks_eq _ _ _ (by decide)]
  · refine congrArg Host.Outcome.next (takeRequest_refused (c := .range) ht ?_)
    rw [if_neg hne, onBay_above hs]

/-! ## What R167 refuses -/

theorem replyKind_eq (h : kind.toNat < 128) : replyKind kind = kind + 0x80 := if_pos h

theorem exec_undefinedRequest_malformed (ht : takesRequest tag s) (hk : kind.toNat < 128) :
    takeMalformed kind tag s = replied (kind + 0x80) tag [1] s :=
  (takeRequest_refused ht rfl).trans (by rw [replyKind_eq hk]; rfl)

/-- A kind that is no request kind spells UNDEFINED_REQUEST, whatever its payload (R167, check 1). -/
theorem decodeRequest_unlisted (hk : requestKinds.contains kind = false) (payload : List Byte) :
    decodeRequest kind tag payload = some (.undefinedRequest tag kind) := by
  have hne (k : Nat) (hc : requestKinds.contains (BitVec.ofNat 8 k) = true) (h : kind.toNat = k) : False := by
    have : kind = BitVec.ofNat 8 k := by rw [← h, BitVec.ofNat_toNat, BitVec.setWidth_eq]
    rw [this, hc] at hk
    cases hk
  unfold decodeRequest
  split
  all_goals first
    | rfl
    | exact absurd ‹kind.toNat = _› (hne _ (by decide))

/-- How an owner judges fields and the bay or line named: an undefined field is MALFORMED, and otherwise a number above 7 RANGE (R167). -/
structure Judges (act : State → Answer) (defined : Bool) (named : Option Byte) : Prop where
  malformed : defined = false → ∀ s, act s = refuse .malformed s
  range : defined = true → ∀ n, named = some n → 8 ≤ n.toNat → ∀ s, act s = refuse .range s

theorem Judges.onBay (n : Byte) (act : Bay → State → Answer) : Judges (onBay n act) true (some n) :=
  ⟨nofun, fun _ m hm hn s => by cases hm; exact onBay_above hn act s⟩

theorem Judges.unnamed (act : State → Answer) : Judges act true none := ⟨nofun, nofun⟩

theorem Judges.withField {α : Type} {v : Option α} {act : α → State → Answer} {d e : Bool} {named : Option Byte} (hv : v.isSome = d)
    (h : ∀ x, Judges (act x) e named) : Judges (withField v act) (d && e) named := by
  subst hv
  cases v with
  | none => exact ⟨fun _ _ => rfl, nofun⟩
  | some x => exact h x

/-- An owner of a bay or a line that reads one field. -/
theorem Judges.field {α : Type} {v : Option α} {d : Bool} (hv : v.isSome = d) (n : Byte) (act : α → Bay → State → Answer) :
    Judges (Machine.withField v fun x => Machine.onBay n (act x)) d (some n) := by
  rw [← Bool.and_true d]
  exact .withField hv fun x => .onBay n (act x)

theorem onOff_isSome (x : Byte) : (onOff x).isSome = decide (x.toNat ≤ 1) := by
  unfold onOff
  split
  case h_3 h0 h1 =>
    simp only [imp_false] at h0 h1
    exact (decide_eq_false (show ¬x.toNat ≤ 1 by omega)).symm
  all_goals simp_all

theorem parityOf_isSome (x : Byte) : (parityOf x).isSome = decide (x.toNat ≤ 2) := by
  unfold parityOf
  split
  case h_4 h0 h1 h2 =>
    simp only [imp_false] at h0 h1 h2
    exact (decide_eq_false (show ¬x.toNat ≤ 2 by omega)).symm
  all_goals simp_all

theorem windowOf_isSome (x : Byte) : (windowOf x).isSome = decide (x.toNat ≤ 2) := by
  unfold windowOf
  split
  case h_4 h0 h1 h2 =>
    simp only [imp_false] at h0 h1 h2
    exact (decide_eq_false (show ¬x.toNat ≤ 2 by omega)).symm
  all_goals simp_all

theorem startFormOf_isSome (x : Byte) : (startFormOf x).isSome = decide (x.toNat ≤ 2) := by
  unfold startFormOf
  split
  case h_4 h0 h1 h2 =>
    simp only [imp_false] at h0 h1 h2
    exact (decide_eq_false (show ¬x.toNat ≤ 2 by omega)).symm
  all_goals simp_all

theorem watchSourceOf_isSome (x : Byte) : (watchSourceOf x).isSome = decide (x.toNat ≤ 1) := by
  unfold watchSourceOf
  split
  case h_3 h0 h1 =>
    simp only [imp_false] at h0 h1
    exact (decide_eq_false (show ¬x.toNat ≤ 1 by omega)).symm
  all_goals simp_all

theorem watchActionOf_isSome (x : Byte) : (watchActionOf x).isSome = decide (x.toNat ≤ 2) := by
  unfold watchActionOf
  split
  case h_4 h0 h1 h2 =>
    simp only [imp_false] at h0 h1 h2
    exact (decide_eq_false (show ¬x.toNat ≤ 2 by omega)).symm
  all_goals simp_all

theorem restorePolicyOf_isSome (x : Byte) : (restorePolicyOf x).isSome = decide (x.toNat ≤ 2) := by
  unfold restorePolicyOf
  split
  case h_4 h0 h1 h2 =>
    simp only [imp_false] at h0 h1 h2
    exact (decide_eq_false (show ¬x.toNat ≤ 2 by omega)).symm
  all_goals simp_all

theorem outcomeOf_isSome (x : Byte) : (outcomeOf x).isSome = decide (x.toNat ≤ 1) := by
  unfold outcomeOf
  split
  case h_3 h0 h1 =>
    simp only [imp_false] at h0 h1
    exact (decide_eq_false (show ¬x.toNat ≤ 1 by omega)).symm
  all_goals simp_all

theorem loopPolicyOf_isSome (x : Byte) : (loopPolicyOf x).isSome = (decide (x = 1) || decide (x = 2)) := by
  have h1 : x = 1 ↔ x.toNat = 1 := ⟨fun h => h ▸ rfl, fun h => BitVec.eq_of_toNat_eq h⟩
  have h2 : x = 2 ↔ x.toNat = 2 := ⟨fun h => h ▸ rfl, fun h => BitVec.eq_of_toNat_eq h⟩
  simp only [h1, h2]
  unfold loopPolicyOf
  split <;> simp_all

/-- STORE reads a restore policy for a bay record only (log entry 12). -/
theorem Judges.store (record : Byte) (f : StoreFields) :
    Judges (storeAct record f) (!(1 ≤ record.toNat && record.toNat ≤ 8) || f.f0.toNat ≤ 2) none := by
  refine ⟨fun h s => ?_, nofun⟩
  simp only [Bool.or_eq_false_iff, Bool.not_eq_false', Bool.and_eq_true, decide_eq_true_eq, decide_eq_false_iff_not] at h
  obtain ⟨⟨hlo, hhi⟩, hf⟩ := h
  have hz : record ≠ 0 := by
    rintro rfl
    exact absurd hlo (by decide)
  have hnone : restorePolicyOf f.f0 = none := by
    rw [← Option.not_isSome_iff_eq_none, restorePolicyOf_isSome, decide_eq_false hf]
    decide
  unfold storeAct
  rw [if_neg hz, dif_pos (by omega), hnone, withField_none]

/-- The owner that a request goes to judges its fields and the bay or line it names in the order of R167. -/
def Judged (i : Instr) (f : RequestFrame) : Prop :=
  ∃ act, (∀ s, exec i s = .next (takeRequest f.kind f.tag act s)) ∧ Judges act (fieldsDefined i) (namedBay i) ∧ f.kind.toNat < 128

theorem Judged.intro {i : Instr} {f : RequestFrame} {act : State → Answer} (hx : ∀ s, exec i s = .next (takeRequest f.kind f.tag act s))
    (hj : Judges act (fieldsDefined i) (namedBay i)) (hk : decide (f.kind.toNat < 128) = true) : Judged i f :=
  ⟨act, hx, hj, of_decide_eq_true hk⟩

theorem judged_lineSet (tag line : Byte) (x : LineFields) : ∀ f, encodeRequest (.lineSet tag line x) = some f → Judged (.lineSet tag line x) f := by
  rintro _ ⟨⟩
  refine .intro (fun _ => rfl) ?_ rfl
  have hj := Judges.withField (parityOf_isSome x.parity) fun parity => Judges.withField (onOff_isSome x.ctsHonour) fun cts =>
    Judges.withField (onOff_isSome x.loopback) fun loopback => Judges.withField (onOff_isSome x.detectOnPowerOn) fun detect =>
    Judges.withField (loopPolicyOf_isSome x.loopPolicy) fun policy => Judges.withField (onOff_isSome x.customRate) fun custom =>
    Judges.withField (windowOf_isSome x.window) fun window => Judges.onBay line (lineSetAct
      { framing := ⟨clamp 5 8 x.dataBits.toNat, parity, clamp 1 2 x.stopBits.toNat⟩
        flushThreshold := clamp 1 240 x.flushThreshold.toNat
        idleFlush := clamp 1 15 x.idleFlush.toNat
        ctsHonour := cts, loopback := loopback, detectOnPowerOn := detect, loopPolicy := policy, customRate := custom, window := window
        errorThreshold := x.errorThreshold.toNat })
  simpa only [fieldsDefined, namedBay, Bool.and_assoc, Bool.and_true] using hj

theorem judged_mask (tag scope : Byte) (marks : BitVec 24) :
    ∀ f, encodeRequest (.mask tag scope marks) = some f → Judged (.mask tag scope marks) f := by
  rintro _ ⟨⟩
  refine .intro (act := fun s => if scope = 0xFF then maskPartAct marks s else onBay scope (maskBayAct marks) s) (fun _ => rfl) ⟨nofun, ?_⟩ rfl
  intro _ n hn hb s
  simp only [namedBay] at hn
  split at hn
  · cases hn
  case isFalse hne =>
    cases hn
    rw [if_neg hne, onBay_above hb]

theorem judged_statusBay (tag scope : Byte) : ∀ f, encodeRequest (.statusBay tag scope) = some f → Judged (.statusBay tag scope) f := by
  rintro _ ⟨⟩
  refine .intro (act := onBay scope statusBayAct) (fun _ => rfl) ⟨nofun, ?_⟩ rfl
  intro _ n hn hb s
  simp only [namedBay] at hn
  split at hn
  · cases hn
  · cases hn
    exact onBay_above hb _ s

/-- A request that reads a field or names a bay or a line goes to an owner that judges them in the order of R167. -/
theorem judged_or_plain {i : Instr} {f : RequestFrame} (h : encodeRequest i = some f) :
    (fieldsDefined i = true ∧ namedBay i = none) ∨ Judged i f := by
  cases i
  case lineSet tag line x => exact .inr (judged_lineSet tag line x f h)
  case mask tag scope marks => exact .inr (judged_mask tag scope marks f h)
  case statusBay tag scope => exact .inr (judged_statusBay tag scope f h)
  all_goals cases h
  case send tag line drain bytes => exact .inr (.intro (fun _ => rfl) (.field (onOff_isSome drain) line fun d => sendAct d bytes) rfl)
  case rts tag line level => exact .inr (.intro (fun _ => rfl) (.field (onOff_isSome level) line fun v => joinTx (.rts v)) rfl)
  case rateSet tag line form value =>
    exact .inr (.intro (fun _ => rfl) (.field (onOff_isSome form) line fun d => rateSetAct d value.toNat) rfl)
  case rateMode tag line mode => exact .inr (.intro (fun _ => rfl) (.field (loopPolicyOf_isSome mode) line rateModeAct) rfl)
  case quality tag line clear => exact .inr (.intro (fun _ => rfl) (.field (onOff_isSome clear) line qualityAct) rfl)
  case attach tag line form start credit =>
    exact .inr (.intro (fun _ => rfl) (.field (startFormOf_isSome form) line fun f => attachAct f start credit.toNat) rfl)
  case eject tag bay force => exact .inr (.intro (fun _ => rfl) (.field (onOff_isSome force) bay ejectAct) rfl)
  case matchSetPrompt tag line enable oneShot window pattern response =>
    exact .inr (.intro (fun _ => rfl) (.withField (onOff_isSome enable) fun en => .field (onOff_isSome oneShot) line fun one =>
      matchPromptAct en one window.toNat pattern response) rfl)
  case insert tag bay capacity writable eject =>
    exact .inr (.intro (fun _ => rfl) (.withField (onOff_isSome writable) fun w => .field (onOff_isSome eject) bay fun e =>
      insertAct capacity.toNat w e) rfl)
  case watchSet tag bay x =>
    refine .inr (.intro (fun _ => rfl) ?_ rfl)
    have hj := Judges.withField (watchSourceOf_isSome x.source) fun src => Judges.withField (watchActionOf_isSome x.action) fun act =>
      Judges.field (onOff_isSome x.enable) bay fun en => watchSetAct src act en x
    simpa only [fieldsDefined, namedBay, Bool.and_assoc] using hj
  case store tag record x => exact .inr (.intro (fun _ => rfl) (.store record x) rfl)
  case writeDone tag id outcome =>
    refine .inr (.intro (fun _ => rfl) ?_ rfl)
    have hj := Judges.withField (outcomeOf_isSome outcome) fun ok => Judges.unnamed (writeDoneAct id.toNat ok)
    rwa [Bool.and_true] at hj
  all_goals first
    | exact .inl ⟨rfl, rfl⟩
    | exact .inr (.intro (fun _ => rfl) (.onBay _ _) rfl)

/-- Settles O6: a kind that no request has is decoded as such, and every request's owner checks fields before the bay or line named. -/
theorem undefinedKindIsMalformed : Obligations.UndefinedKindIsMalformed := by
  refine ⟨fun s tag kind ht hk hc => ⟨congrArg Host.Outcome.next (exec_undefinedRequest_malformed ht hk), fun payload => ?_⟩,
    fun s i f he ht => ?_⟩
  · unfold takeFrame
    rw [decodeRequest_unlisted hc]
    exact exec_undefinedRequest_malformed ht hk
  · rcases judged_or_plain he with ⟨hd, hn⟩ | ⟨act, hx, hj, hk⟩
    · exact ⟨fun h => by simp [hd] at h, fun n _ h => by simp [hn] at h⟩
    · rw [hx, ← replyKind_eq hk]
      exact ⟨fun hd => congrArg Host.Outcome.next (takeRequest_refused ht (hj.malformed hd _)),
        fun n hd hn hb => congrArg Host.Outcome.next (takeRequest_refused ht (hj.range hd n hn hb _))⟩

/-! ## The reset state -/

theorem reset_slice (b : Bay) : State.reset.slice b = {} := by
  simp [State.reset, State.slice, Vector.get_eq_getElem]

theorem reset_line_wf (b : Bay) : (State.reset.slice b).line.Wf ∧ (State.reset.slice b).line.rate.Wf ∧ (State.reset.slice b).monitor.Wf := by
  rw [reset_slice]
  exact ⟨⟨⟨by decide, by decide, by decide, by decide, by decide⟩, by decide, nofun⟩,
    ⟨by decide, by decide, by decide, nofun, nofun, fun _ => by decide, .inr (by decide)⟩, ⟨by decide, by decide, by decide, by decide⟩⟩

theorem reset_historyWf : State.reset.HistoryWf := by
  refine ⟨fun b => ?_, by decide⟩
  rw [reset_slice]
  exact ⟨by decide, by decide, nofun, nofun⟩

theorem reset_powerWf : State.reset.PowerWf := by
  refine ⟨fun b => ?_, List.nodup_nil, fun b => ?_, fun b => ?_, by decide, by decide⟩ <;> rw [reset_slice]
  · exact ⟨rfl, nofun, nofun⟩
  · exact ⟨nofun, nofun⟩
  · simp [State.reset, Vector.get_eq_getElem]

theorem reset_mediaWf : State.reset.MediaWf := by
  refine ⟨fun b => ?_, fun b => ?_, fun b => ?_, fun b => ?_, fun b => ?_⟩ <;> rw [reset_slice]
  · exact ⟨by decide, by decide⟩
  · exact ⟨by decide, List.nodup_nil, fun _ => ⟨rfl, rfl⟩⟩
  · exact nofun
  · exact nofun
  · exact fun h => absurd rfl h

theorem reset_entry (i : Fin 256) : State.reset.cache.entry i = {} := by
  simp [State.reset, Cache.entry, Vector.get_eq_getElem]

theorem reset_cacheWf : State.reset.CacheWf := by
  refine ⟨fun i _ => ?_, fun i j h => absurd ?_ h, Nat.zero_le _, by decide⟩ <;> rw [reset_entry]

theorem reset_cacheTied : State.reset.CacheTied := by
  refine (State.agrees_iff.mp (Tied.empty (fun i => ?_) rfl rfl (by decide) fun b => ?_)).1
  · rw [reset_entry]
    exact ⟨rfl, rfl, rfl⟩
  · rw [State.ports, reset_slice]
    exact ⟨rfl, rfl⟩

/-- Settles O60: every bay has its cold values, every cache entry is FREE, and both tables and the queues are empty. -/
theorem invariantsHoldAtReset : Obligations.InvariantsHoldAtReset :=
  ⟨⟨by decide, by decide, nofun, nofun⟩, reset_line_wf, reset_historyWf, reset_powerWf, reset_mediaWf, reset_cacheWf, reset_cacheTied⟩

end Sys2Proof.Machine
end

section
/-! PROOFS. Every well-formed request is spelled by a frame that decodes to it, and the bytes of that frame do what the request does
(sections 10.2, 11.1 and 11.3). -/

namespace Sys2Proof.Machine

variable {s : State} {i : Instr}

/-! ## Numbers in bytes (R180) -/

/-- Two neighbouring runs of bits of a number are one run. -/
theorem extract_append_extract {w : Nat} (x : BitVec w) (j m n : Nat) :
    x.extractLsb' (j + n) m ++ x.extractLsb' j n = x.extractLsb' j (m + n) := by
  refine BitVec.eq_of_getLsbD_eq fun k hk => ?_
  rw [BitVec.getLsbD_append]
  simp only [BitVec.getLsbD_extractLsb', hk]
  by_cases h : k < n
  · simp [h]
  · have h1 : k - n < m := by omega
    have h2 : j + n + (k - n) = j + k := by omega
    simp [h, h1, h2]

theorem extract_all {w : Nat} (x : BitVec w) : x.extractLsb' 0 w = x := by
  refine BitVec.eq_of_getLsbD_eq fun k hk => ?_
  simp [hk]

theorem append_bytes16 (x : BitVec 16) : x.extractLsb' 8 8 ++ x.extractLsb' 0 8 = x :=
  (extract_append_extract x 0 8 8).trans (extract_all x)

theorem le16_bytes16 (x : BitVec 16) : le16 (x.extractLsb' 0 8) (x.extractLsb' 8 8) = x := append_bytes16 x

theorem le24_bytes24 (x : BitVec 24) : le24 (x.extractLsb' 0 8) (x.extractLsb' 8 8) (x.extractLsb' 16 8) = x := by
  have h := extract_append_extract x 0 8 8
  rw [Nat.zero_add] at h
  unfold le24
  rw [h]
  exact (extract_append_extract x 0 8 16).trans (extract_all x)

theorem le32_bytes32 (x : BitVec 32) :
    le32 (x.extractLsb' 0 8) (x.extractLsb' 8 8) (x.extractLsb' 16 8) (x.extractLsb' 24 8) = x := by
  have h := extract_append_extract x 0 8 8
  have h' := extract_append_extract x 16 8 8
  rw [Nat.zero_add] at h
  unfold le32
  rw [h, show 24 = 16 + 8 from rfl, h']
  exact (extract_append_extract x 0 16 16).trans (extract_all x)

/-- A count that fits in one byte is read back from it. -/
theorem toNat_countByte {n : Nat} (h : n ≤ 255) : (BitVec.ofNat 8 n).toNat = n := by
  rw [BitVec.toNat_ofNat]
  omega

/-! ## Decoding what is encoded (Table 11-3) -/

/-- The frame of the request decodes to it. -/
def Decodes (i : Instr) : Prop := ∀ f, encodeRequest i = some f → decodeRequest f.kind f.tag f.payload = some i

theorem decodes_send (tag line drain : Byte) (bytes : List Byte) (h : bytes.length ≤ 255) : Decodes (.send tag line drain bytes) := by
  rintro _ ⟨⟩
  exact if_pos (toNat_countByte h).symm

theorem decodes_matchSetHeartbeat (tag line : Byte) (pattern : List Byte) (h : pattern.length ≤ 255) :
    Decodes (.matchSetHeartbeat tag line pattern) := by
  rintro _ ⟨⟩
  change decodeMatchSet tag line 0 0 0 (le16 0 0) (BitVec.ofNat 8 pattern.length).toNat 0 pattern = _
  unfold decodeMatchSet
  rw [toNat_countByte h, if_pos (Nat.add_zero _).symm]
  change some (Instr.matchSetHeartbeat tag line (pattern.take pattern.length)) = _
  rw [List.take_length]

theorem decodes_matchSetPrompt (tag line enable oneShot : Byte) (window : BitVec 16) (pattern response : List Byte)
    (hp : pattern.length ≤ 255) (hr : response.length ≤ 255) : Decodes (.matchSetPrompt tag line enable oneShot window pattern response) := by
  rintro _ ⟨⟩
  change decodeMatchSet tag line 1 enable oneShot (le16 (window.extractLsb' 0 8) (window.extractLsb' 8 8))
    (BitVec.ofNat 8 pattern.length).toNat (BitVec.ofNat 8 response.length).toNat (pattern ++ response) = _
  unfold decodeMatchSet
  rw [toNat_countByte hp, toNat_countByte hr, if_pos List.length_append, le16_bytes16]
  change some (Instr.matchSetPrompt tag line enable oneShot window ((pattern ++ response).take pattern.length)
    ((pattern ++ response).drop pattern.length)) = _
  rw [List.take_left, List.drop_left]

theorem decodes_fill (tag id index : Byte) (generation : BitVec 16) (data : Block) : Decodes (.fill tag id index generation data) := by
  rintro _ ⟨⟩
  change decodeFill tag id index (le16 (generation.extractLsb' 0 8) (generation.extractLsb' 8 8)) data.toList = _
  unfold decodeFill
  rw [dif_pos (by simp), le16_bytes16]
  simp [Vector.toList]

theorem decodes_cacheSet (tag : Byte) (x : CacheFields) : Decodes (.cacheSet tag x) := by
  rintro _ ⟨⟩
  obtain ⟨⟨⟨l⟩, hl⟩, ra, ft, wt⟩ := x
  match l, hl with
  | [_, _, _, _, _, _, _, _], _ => rfl

/-- A kind that is no request kind spells UNDEFINED_REQUEST. -/
theorem decodes_undefinedRequest (tag kind : Byte) (h : requestKinds.contains kind = false) : Decodes (.undefinedRequest tag kind) := by
  rintro _ ⟨⟩
  exact decodeRequest_unlisted h []

theorem decodes_of_wellFormed (h : i.WellFormed = true) : Decodes i := by
  cases i
  case send tag line drain bytes => exact decodes_send _ _ _ _ (by simpa [Instr.WellFormed] using h)
  case matchSetHeartbeat tag line pattern => exact decodes_matchSetHeartbeat _ _ _ (by simpa [Instr.WellFormed] using h)
  case matchSetPrompt tag line enable oneShot window pattern response =>
    simp only [Instr.WellFormed, Bool.and_eq_true, decide_eq_true_eq] at h
    exact decodes_matchSetPrompt _ _ _ _ _ _ _ h.1 h.2
  case fill tag id index generation data => exact decodes_fill _ _ _ _ _
  case cacheSet tag x => exact decodes_cacheSet _ _
  case undefinedRequest tag kind => exact decodes_undefinedRequest _ _ (by simpa [Instr.WellFormed] using h)
  all_goals rintro _ ⟨⟩
  case statusBay tag scope => exact congrArg some (if_neg (by simpa [Instr.WellFormed] using h))
  case mask tag scope marks => exact congrArg (fun x => some (Instr.mask tag scope x)) (le24_bytes24 marks)
  case rateSet tag line form value => exact congrArg (fun x => some (Instr.rateSet tag line form x)) (le32_bytes32 value)
  case history tag line start count => exact congrArg (fun x => some (Instr.history tag line x count)) (le32_bytes32 start)
  case attach tag line form start credit =>
    exact congrArg some (congrArg₂ (Instr.attach tag line form) (le32_bytes32 start) (le16_bytes16 credit))
  case credit tag line count => exact congrArg (fun x => some (Instr.credit tag line x)) (le16_bytes16 count)
  case watchSet tag bay x =>
    exact congrArg some (congrArg₂ (fun p g => Instr.watchSet tag bay ⟨x.source, p, g, x.action, x.limit, x.enable⟩) (le16_bytes16 x.period)
      (le16_bytes16 x.grace))
  case insert tag bay capacity writable eject =>
    exact congrArg (fun x => some (Instr.insert tag bay x writable eject)) (le32_bytes32 capacity)
  all_goals rfl

/-- Settles O52: constructor by constructor, the fields that are wider than a byte put together again and the counted runs cut off. -/
theorem decodeOfEncode : Obligations.DecodeOfEncode := fun _ f h => decodes_of_wellFormed h f

/-! ## The frame receiver (R165, R179) -/

/-- The receiver takes bytes, one by one. -/
def rxBytes (xs : List Byte) (s : State) : State := xs.foldl (fun s x => rxByte x s) s

theorem rxBytes_append (xs ys : List Byte) (s : State) : rxBytes (xs ++ ys) s = rxBytes ys (rxBytes xs s) := List.foldl_append

/-- The body is collected until its last byte, which leads to the check bytes. -/
theorem rxBytes_body (lengthBytes : List Byte) (s : State) : ∀ (xs got : List Byte), xs ≠ [] →
    rxBytes xs (setReceiver (.body lengthBytes xs.length got) s) = setReceiver (.check lengthBytes (got ++ xs) none) s := by
  intro xs
  induction xs with
  | nil => exact fun _ h => absurd rfl h
  | cons x rest ih =>
    intro got _
    cases rest with
    | nil => rfl
    | cons y rest =>
      have hstep : rxByte x (setReceiver (.body lengthBytes (x :: y :: rest).length got) s) =
          setReceiver (.body lengthBytes (y :: rest).length (got ++ [x])) s := rfl
      change rxBytes (y :: rest) (rxByte x (setReceiver (.body lengthBytes (x :: y :: rest).length got) s)) = _
      rw [hstep, ih _ (List.cons_ne_nil _ _), List.append_assoc]
      rfl

/-- The length bytes read as the length of the body, where a frame can have it. -/
theorem le16_le2 {n : Nat} (h : n ≤ 530) : (le16 (BitVec.ofNat 8 n) (BitVec.ofNat 8 (n / 256))).toNat = n := by
  unfold le16
  rw [BitVec.toNat_append, BitVec.toNat_ofNat, BitVec.toNat_ofNat, ← Nat.shiftLeft_add_eq_or_of_lt (Nat.mod_lt _ (by decide)), Nat.shiftLeft_eq]
  omega

theorem toHunt_setReceiver (r : FrameReceiver) (h : s.link.receiver = .hunt) : toHunt (setReceiver r s) = s := by
  change { s with link := { s.link with receiver := .hunt } } = s
  rw [← h]

/-- The length bytes of a frame lead to its body. -/
theorem rxByte_length {n : Nat} (hlo : 2 ≤ n) (hhi : n ≤ 530) (s : State) :
    rxByte (BitVec.ofNat 8 (n / 256)) (setReceiver (.length (some (BitVec.ofNat 8 n))) s) = setReceiver (.body (le2 n) n []) s := by
  change (if 2 ≤ (le16 (BitVec.ofNat 8 n) (BitVec.ofNat 8 (n / 256))).toNat ∧ (le16 (BitVec.ofNat 8 n) (BitVec.ofNat 8 (n / 256))).toNat ≤ 530
    then setReceiver (.body (le2 n) (le16 (BitVec.ofNat 8 n) (BitVec.ofNat 8 (n / 256))).toNat [])
      (setReceiver (.length (some (BitVec.ofNat 8 n))) s) else _) = _
  rw [le16_le2 hhi, if_pos ⟨hlo, hhi⟩]
  rfl

/-- The two check bytes of a frame lead to its taking (R179). -/
theorem rxBytes_check (lengthBytes payload : List Byte) (kind tag : Byte) (h : s.link.receiver = .hunt) {crc : BitVec 16}
    (hc : crc16 (lengthBytes ++ kind :: tag :: payload) = crc) :
    rxBytes [crc.extractLsb' 8 8, crc.extractLsb' 0 8] (setReceiver (.check lengthBytes (kind :: tag :: payload) none) s) =
      takeFrame kind tag payload s := by
  change checkFrame lengthBytes (kind :: tag :: payload) (crc.extractLsb' 8 8 ++ crc.extractLsb' 0 8)
    (setReceiver (.check lengthBytes (kind :: tag :: payload) (some (crc.extractLsb' 8 8))) s) = _
  unfold checkFrame
  rw [append_bytes16, if_pos hc]
  exact congrArg (takeFrame kind tag payload) (toHunt_setReceiver _ h)

/-- A whole frame received from HUNT is taken. -/
theorem rxBytes_wire (f : Frame) (h : s.link.receiver = .hunt) (hl : f.payload.length ≤ 528) :
    rxBytes f.wire s = takeFrame f.kind f.tag f.payload s := by
  have hmark : rxByte frameMark s = setReceiver (.length none) s := by
    unfold rxByte
    rw [h]
    rfl
  have hbody := rxBytes_body (le2 (f.payload.length + 2)) s (f.kind :: f.tag :: f.payload) [] (List.cons_ne_nil _ _)
  unfold Frame.wire
  dsimp only
  generalize hc : crc16 (le2 (f.payload.length + 2) ++ f.kind :: f.tag :: f.payload) = crc
  rw [List.cons_append, List.append_assoc]
  change rxBytes ((f.kind :: f.tag :: f.payload) ++ _) (rxByte _ (rxByte _ (rxByte frameMark s))) = _
  rw [hmark, rxBytes_append]
  change rxBytes _ (rxBytes _ (rxByte (BitVec.ofNat 8 ((f.payload.length + 2) / 256))
    (setReceiver (.length (some (BitVec.ofNat 8 (f.payload.length + 2)))) s))) = _
  rw [rxByte_length (Nat.le_add_left 2 _) (Nat.add_le_add_right hl 2)]
  refine (congrArg _ hbody).trans ?_
  rw [List.nil_append]
  exact rxBytes_check _ _ _ _ h hc

/-! ## The bytes of a request -/

/-- A well-formed request's payload fits in a frame (R165). -/
theorem payload_length_le {f : RequestFrame} (hw : i.WellFormed = true) (h : encodeRequest i = some f) : f.payload.length ≤ 528 := by
  cases i <;> cases h <;> simp_all [Instr.WellFormed, bytes16, bytes24, bytes32] <;> omega

/-- Settles O53: the frame's bytes lead to the taking of the frame, which decodes to the request. -/
theorem frameBytesReachTheRequest : Obligations.FrameBytesReachTheRequest := by
  intro s i f hw he _ hh
  have hr : i.isRequest = true := by
    cases i <;> first | rfl | cases he
  rw [exec_request hr]
  refine congrArg Host.Outcome.next (Eq.trans ?_ (rxBytes_wire ⟨f.kind, f.tag, f.payload⟩ hh (payload_length_le hw he)).symm)
  unfold takeFrame
  rw [decodeOfEncode i f hw he]

end Sys2Proof.Machine
end

section
/-! PROOFS. The statements of chapter 10 about a byte exchange, ATTN, and the start and the end of a frame of the part (R164, R165, R170,
R171). -/

namespace Sys2Proof.Machine

variable {s t : State} {b : Bay} {mosi : Byte} {rx : FrameReceiver}

/-! ## The byte received (R165) -/

/-- The receiver in HUNT keeps only the frame mark. -/
theorem rxByte_hunt (h : s.link.receiver = .hunt) (hrx : rx = if mosi = 0xC3 then .length none else .hunt) :
    rxByte mosi s = setReceiver rx s := by
  subst hrx
  unfold rxByte frameMark
  rw [h]
  dsimp only
  split
  · rfl
  · change s = { s with link := { s.link with receiver := .hunt } }
    rw [← h]

/-! ## A line due for a notice (R56, R57) -/

theorem Slice.eligible_iff (x : Slice) : x.eligible = true ↔ x.dueNotice := by
  unfold Slice.eligible Slice.dueNotice
  split
  case h_1 hs => simp [hs]
  case h_2 st hs =>
    have hu : 1 ≤ x.history.unsent st ↔ st.cursor ≠ x.history.next := by
      unfold History.unsent
      rw [Nat.one_le_iff_ne_zero, ne_eq, ne_eq, ← BitVec.toNat_inj]
      have := st.cursor.isLt
      have := x.history.next.isLt
      rw [BitVec.toNat_sub]
      omega
    simp only [Bool.and_eq_true, Bool.or_eq_true, decide_eq_true_eq, hs, Option.some.injEq, exists_eq_left', hu, and_assoc]
    rfl

/-- Round the eight lines the one `b - mark - 1` places behind the one after the mark is `b`. -/
theorem roundRobin_place : ∀ mark b : Bay, mark + 1 + (b - mark - 1) = b ∧ mark + 1 + b - mark - 1 = b := by decide

theorem mem_roundRobin (mark b : Bay) : b ∈ roundRobin mark :=
  List.mem_map.mpr ⟨b - mark - 1, List.mem_finRange _, (roundRobin_place mark b).1⟩

theorem chooseLine_isSome : (chooseLine s).isSome = true ↔ ∃ b, (s.slice b).dueNotice := by
  unfold chooseLine
  rw [List.find?_isSome]
  constructor
  · rintro ⟨b, _, h⟩
    exact ⟨b, (Slice.eligible_iff _).mp h⟩
  · rintro ⟨b, h⟩
    exact ⟨b, mem_roundRobin _ b, (Slice.eligible_iff _).mpr h⟩

/-- The line chosen is the first that is due after the round-robin mark. -/
theorem chooseLine_eq_some (h : (s.slice b).dueNotice)
    (hfirst : ∀ c : Bay, (c - s.lastServed - 1).val < (b - s.lastServed - 1).val → ¬(s.slice c).dueNotice) : chooseLine s = some b := by
  have hlen : (roundRobin s.lastServed).length = 8 := by simp [roundRobin]
  refine List.find?_eq_some_iff_getElem.mpr ⟨(Slice.eligible_iff _).mpr h, (b - s.lastServed - 1).val, by omega, ?_, fun j hj => ?_⟩
  · simp only [roundRobin, List.getElem_map, List.getElem_finRange, Fin.cast_mk, Fin.eta]
    exact (roundRobin_place _ _).1
  · rw [Bool.not_eq_true', Bool.eq_false_iff, ne_eq, Slice.eligible_iff]
    refine hfirst _ ?_
    simp only [roundRobin, List.getElem_map, List.getElem_finRange, Fin.cast_mk, (roundRobin_place _ _).2]
    exact hj

theorem chooseLine_eq_none (h : ∀ b, ¬(s.slice b).dueNotice) : chooseLine s = none := by
  rw [← Option.not_isSome_iff_eq_none, chooseLine_isSome]
  exact fun ⟨b, hb⟩ => h b hb

/-! ## What is ready to start (R170, R171) -/

theorem pendingFetch_isSome (c : Cache) : c.pendingFetch.isSome = true ↔ ∃ r ∈ c.fetches, r.notice = .pending := by
  simp [Cache.pendingFetch]

theorem pendingWriteback_isSome (c : Cache) : c.pendingWriteback.isSome = true ↔ ∃ r ∈ c.writebacks, r.notice = .pending := by
  simp [Cache.pendingWriteback]

theorem pendingFetch_eq_none {c : Cache} (h : ∀ r ∈ c.fetches, r.notice ≠ .pending) : c.pendingFetch = none := by
  simpa [Cache.pendingFetch] using h

theorem pendingWriteback_eq_none {c : Cache} (h : ∀ r ∈ c.writebacks, r.notice ≠ .pending) : c.pendingWriteback = none := by
  simpa [Cache.pendingWriteback] using h

/-- Of the replies queued one is ready, but for the one in flight. -/
theorem replyReady_iff (o : Option Origin) (rs : List Frame) :
    (if o = some .reply then decide (2 ≤ rs.length) else decide (1 ≤ rs.length)) = true ↔
      if o = some .reply then 2 ≤ rs.length else rs ≠ [] := by
  split
  · exact decide_eq_true_iff
  · rw [decide_eq_true_iff, Nat.one_le_iff_ne_zero, ne_eq, List.length_eq_zero_iff]

theorem origin_eq_some (o : Option Outgoing) (x : Origin) : o.map Outgoing.origin = some x ↔ ∃ y, o = some y ∧ y.origin = x := by
  rw [Option.map_eq_some_iff]

theorem frameReady_iff : frameReady s = true ↔
    (s.link.helloPending = true ∧ ∀ o, s.link.outgoing = some o → o.origin ≠ .hello) ∨
      (if ∃ o, s.link.outgoing = some o ∧ o.origin = .reply then 2 ≤ s.link.replies.length else s.link.replies ≠ []) ∨
      s.link.summaryPending = true ∨ (∃ r ∈ s.cache.fetches, r.notice = .pending) ∨ (∃ r ∈ s.cache.writebacks, r.notice = .pending) ∨
      ∃ b, (s.slice b).dueNotice := by
  have hhello : (s.link.outgoing.map Outgoing.origin ≠ some .hello) ↔ ∀ o, s.link.outgoing = some o → o.origin ≠ .hello := by
    rw [ne_eq, origin_eq_some]
    exact ⟨fun h o ho hx => h ⟨o, ho, hx⟩, fun h ⟨o, ho, hx⟩ => h o ho hx⟩
  have hreply := replyReady_iff (s.link.outgoing.map Outgoing.origin) s.link.replies
  simp only [origin_eq_some] at hreply
  unfold frameReady
  simp only [Bool.or_eq_true, Bool.and_eq_true, decide_eq_true_eq, pendingFetch_isSome, pendingWriteback_isSome, chooseLine_isSome, hhello,
    origin_eq_some, or_assoc]
  exact or_congr_right (or_congr_left hreply)

theorem attn_iff : attn s = true ↔ s.link.hold = false ∧ frameReady s = true := by
  simp [attn]

/-! ## One exchange (R164) -/

theorem exchange_hold (h : s.link.hold = true) : exchange mosi s = s.withLink { s.link with receiver := .hunt, miso := 0 } := if_pos h

/-- With nothing ready the arbiter starts nothing. -/
theorem arbitrate_idle (hh : s.link.helloPending = false) (hr : s.link.replies = []) (hs : s.link.summaryPending = false)
    (hf : ∀ r ∈ s.cache.fetches, r.notice ≠ .pending) (hw : ∀ r ∈ s.cache.writebacks, r.notice ≠ .pending)
    (hc : ∀ b, ¬(s.slice b).dueNotice) : arbitrate s = s := by
  simp only [arbitrate, startRecordNotice, hh, hr, hs, pendingFetch_eq_none hf, pendingWriteback_eq_none hw, chooseLine_eq_none hc,
    Bool.false_eq_true, if_false]

theorem exchange_idle (hh : s.link.hold = false) (hr : s.link.receiver = .hunt) (ho : s.link.outgoing = none) (ha : arbitrate s = s)
    (hrx : rx = if mosi = 0xC3 then .length none else .hunt) :
    exchange mosi s = s.withLink { s.link with receiver := rx, miso := 0 } := by
  have hsend : sendByte s = s.modLink fun l => { l with miso := 0 } := by
    unfold sendByte
    rw [ho]
  have hend : sentToEnd (s.modLink fun l => { l with miso := 0 }) = false := by
    simp [sentToEnd, ho]
  unfold exchange
  rw [if_neg (by simp [hh]), ho]
  simp only [Option.isNone_none, if_true, ha, hsend, hend, Bool.false_eq_true, if_false]
  exact rxByte_hunt (s := s.modLink fun l => { l with miso := 0 }) hr hrx

/-- A frame in flight with more than one byte left moves on by one. -/
theorem exchange_next (hh : s.link.hold = false) (hr : s.link.receiver = .hunt) {o : Outgoing} (ho : s.link.outgoing = some o)
    (hl : o.sent + 1 < o.bytes.length) (hrx : rx = if mosi = 0xC3 then .length none else .hunt) :
    exchange mosi s = s.withLink { s.link with
      receiver := rx, miso := o.bytes.getD o.sent 0, outgoing := some { o with sent := o.sent + 1 } } := by
  have hsend : sendByte s = s.modLink fun l => { l with outgoing := some { o with sent := o.sent + 1 }, miso := o.bytes.getD o.sent 0 } := by
    unfold sendByte
    rw [ho]
  have hend : sentToEnd (sendByte s) = false := by
    rw [hsend]
    simpa [sentToEnd] using hl
  unfold exchange
  rw [if_neg (by simp [hh]), ho]
  simp only [Option.isNone_some, Bool.false_eq_true, if_false, hend]
  rw [hsend]
  exact rxByte_hunt (s := s.modLink fun l => { l with outgoing := some { o with sent := o.sent + 1 }, miso := o.bytes.getD o.sent 0 }) hr hrx

/-- Settles O10: the four things an exchange finds (the hold, nothing ready, a frame in flight, a frame ready), and what makes one ready. -/
theorem byteExchangeMovesOneByte : Obligations.ByteExchangeMovesOneByte := by
  refine ⟨fun s mosi rx hrx => ⟨fun hh => congrArg Host.Outcome.next (exchange_hold hh), fun hh hr ho hp hq hs hf hw hc => ?_,
    fun o hh hr ho hl => congrArg Host.Outcome.next (exchange_next hh hr ho hl hrx)⟩, fun s => attn_iff.trans (and_congr_right' frameReady_iff)⟩
  exact congrArg Host.Outcome.next (exchange_idle hh hr ho
    (arbitrate_idle hp hq hs hf hw fun b ⟨_, hst, _⟩ => by simp [hc b] at hst) hrx)

end Sys2Proof.Machine
end

section
/-! PROOFS. The end and the start of a frame of the part: the statements of chapter 10 about both (R57, R58, R161, R170, R184). -/

namespace Sys2Proof.Machine

variable {s t : State} {b : Bay} {mosi : Byte} {rx : FrameReceiver} {o : Outgoing}

/-! ## The end of a frame (R164, R170) -/

theorem sendByte_outgoing (ho : s.link.outgoing = some o) :
    sendByte s = s.modLink fun l => { l with outgoing := some { o with sent := o.sent + 1 }, miso := o.bytes.getD o.sent 0 } := by
  unfold sendByte
  rw [ho]

/-- What a frame's end hands back leaves the frame receiver, so the order of the two is no matter (log entry 1). -/
theorem setReceiver_handBack (origin : Origin) (s : State) : setReceiver rx (handBack origin s) = handBack origin (setReceiver rx s) := by
  cases origin <;> rfl

theorem handBack_receiver (origin : Origin) (s : State) : (handBack origin s).link.receiver = s.link.receiver := by
  cases origin <;> rfl

theorem endFrame_complete (ho : s.link.outgoing = some o) (hl : o.bytes.length ≤ o.sent) :
    endFrame s = handBack o.origin (s.modLink fun l => { l with outgoing := none }) := by
  unfold endFrame
  rw [ho]
  exact if_pos hl

theorem endFrame_setReceiver (s : State) : endFrame (setReceiver rx s) = setReceiver rx (endFrame s) := by
  have ho : (setReceiver rx s).link.outgoing = s.link.outgoing := rfl
  unfold endFrame
  rw [ho]
  split
  · rfl
  · split
    · exact (setReceiver_handBack _ (s.modLink fun l => { l with outgoing := none })).symm
    · rfl

theorem endFrame_receiver (s : State) : (endFrame s).link.receiver = s.link.receiver := by
  unfold endFrame
  split
  · rfl
  · split
    · exact handBack_receiver _ _
    · rfl

/-- The exchange that sends the last byte of a frame hands the end back to its owner, with the byte received taken from HUNT. -/
theorem exchange_last (hh : s.link.hold = false) (hr : s.link.receiver = .hunt) (ho : s.link.outgoing = some o)
    (hl : o.bytes.length = o.sent + 1) (hrx : rx = if mosi = 0xC3 then .length none else .hunt) :
    exchange mosi s = handBack o.origin
      { s.withLink { s.link with receiver := rx, miso := o.bytes.getD o.sent 0, outgoing := none } with freeIndex := s.freeIndex + 1 } := by
  have hsend := sendByte_outgoing ho
  have hend : sentToEnd (sendByte s) = true := by
    rw [hsend]
    simp [sentToEnd, hl]
  unfold exchange
  rw [if_neg (by simp [hh]), ho]
  simp only [Option.isNone_some, Bool.false_eq_true, if_false, hend, if_true]
  rw [hsend]
  have hboth (u : State) (hu : u.link.receiver = .hunt) : (if Config.endTakenFirst s.freeIndex then rxByte mosi (endFrame u)
      else endFrame (rxByte mosi u)) = setReceiver rx (endFrame u) := by
    rw [rxByte_hunt hu hrx, rxByte_hunt ((endFrame_receiver u).trans hu) hrx, endFrame_setReceiver, ite_self]
  refine (hboth { s with
    link := { s.link with outgoing := some { o with sent := o.sent + 1 }, miso := o.bytes.getD o.sent 0 }
    freeIndex := s.freeIndex + 1 } hr).trans ?_
  rw [endFrame_complete (o := { o with sent := o.sent + 1 }) rfl hl.le, setReceiver_handBack]
  rfl

theorem endsFrame_last (hh : s.link.hold = false) (ho : s.link.outgoing = some o) (hl : o.bytes.length = o.sent + 1) : endsFrame s = true := by
  simp [endsFrame, hh, ho, hl]

/-- A record's notice that was SENDING is SENT, and its deadline starts. -/
theorem sent_eq {α : Type} (p q : Prop) [Decidable p] [Decidable q] (x y : α) :
    (if p then if q then x else y else y) = if p ∧ q then x else y := by
  by_cases hp : p <;> simp [hp]

/-- Settles O12: the last byte goes out, the byte received is taken from HUNT, and the frame's origin takes its end. -/
theorem framesEndAtTheirLastByte : Obligations.FramesEndAtTheirLastByte := by
  rintro s mosi rx o _ hrx hh hr ho hl rfl
  have hend : exec (.outgoingFrameEnd mosi) s = .next (exchange mosi s) := if_pos (endsFrame_last hh ho hl)
  have hx := exchange_last hh hr ho hl hrx
  rw [hend, hx]
  refine ⟨congrArg Host.Outcome.next hx, fun h => by rw [h]; rfl, fun h => by rw [h]; rfl, ?_, fun id h => ?_, fun id h => ?_⟩
  · rintro (h | ⟨b, h⟩) <;> rw [h] <;> rfl
  · rw [h]
    simp only [← sent_eq]
    rfl
  · rw [h]
    simp only [← sent_eq]
    rfl

/-! ## The start of a frame (R170) -/

/-- The exchange that finds no frame in flight starts the one the arbiter chooses, and its first byte, the mark, goes out. -/
theorem exchange_starts (hh : s.link.hold = false) (ho : s.link.outgoing = none) {origin : Origin} {f : Frame}
    (ha : arbitrate s = startFrame origin f t) (hr : t.link.receiver = .hunt) (hrx : rx = if mosi = 0xC3 then .length none else .hunt) :
    exchange mosi s = t.withLink { t.link with receiver := rx, miso := 0xC3, outgoing := some ⟨origin, f.wire, 1⟩ } := by
  have hsend : sendByte (startFrame origin f t) =
      t.withLink { t.link with miso := 0xC3, outgoing := some ⟨origin, f.wire, 1⟩ } := rfl
  have hend : sentToEnd (t.withLink { t.link with miso := 0xC3, outgoing := some ⟨origin, f.wire, 1⟩ }) = false := by
    simp [sentToEnd, State.withLink, Frame.wire]
  unfold exchange
  rw [if_neg (by simp [hh]), ho]
  simp only [Option.isNone_none, if_true, ha, hsend, hend, Bool.false_eq_true, if_false]
  exact rxByte_hunt (s := t.withLink { t.link with miso := 0xC3, outgoing := some ⟨origin, f.wire, 1⟩ }) hr hrx

/-! ### The bays of the summary (R173) -/

/-- The powers of two of the places where a condition holds sum up to the number with these bits. -/
theorem testBit_sum_pow (c : Nat → Bool) (n : Nat) : ((List.range n).map fun k => if c k then 2 ^ k else 0).sum < 2 ^ n ∧
    ∀ i < n, ((List.range n).map fun k => if c k then 2 ^ k else 0).sum.testBit i = c i := by
  induction n with
  | zero => exact ⟨Nat.one_pos, nofun⟩
  | succ n ih =>
    obtain ⟨hlt, hbits⟩ := ih
    rw [List.range_succ, List.map_append, List.sum_append, List.map_singleton, List.sum_singleton]
    generalize ((List.range n).map fun k => if c k then 2 ^ k else 0).sum = x at hlt hbits
    cases hc : c n with
    | false =>
      simp only [Bool.false_eq_true, if_false, Nat.add_zero]
      refine ⟨hlt.trans (Nat.pow_lt_pow_right (by decide) (Nat.lt_succ_self n)), fun i hi => ?_⟩
      rcases Nat.lt_succ_iff_lt_or_eq.mp hi with h | rfl
      · exact hbits i h
      · rw [hc, Nat.testBit_lt_two_pow hlt]
    | true =>
      simp only [if_true]
      refine ⟨by omega, fun i hi => ?_⟩
      rw [Nat.add_comm]
      rcases Nat.lt_succ_iff_lt_or_eq.mp hi with h | rfl
      · rw [Nat.testBit_two_pow_add_gt h]
        exact hbits i h
      · rw [Nat.testBit_two_pow_add_eq, Nat.testBit_lt_two_pow hlt, hc]
        rfl

/-- The byte with a bay's bit set where the bay has an unmasked flag set. -/
theorem le1_summaryBays {bays : Byte} (h : ∀ b : Bay, bays.getLsbD b.val = decide ((s.slice b).flags &&& (s.slice b).unmasked ≠ 0)) :
    le1 (summaryBays s) = [bays] := by
  have hsum : summaryBays s = ((List.range 8).map fun k => if bays.getLsbD k then 2 ^ k else 0).sum := by
    have hfin (b : Bay) : (if (s.slice b).flags &&& (s.slice b).unmasked = 0 then 0 else 2 ^ b.val) =
        if bays.getLsbD b.val then 2 ^ b.val else 0 := by
      rw [h b]
      by_cases hz : (s.slice b).flags &&& (s.slice b).unmasked = 0 <;> simp [hz]
    have hrange : List.range 8 = (List.finRange 8).map Fin.val := by decide
    unfold summaryBays
    simp only [hfin]
    rw [hrange, List.map_map]
    rfl
  obtain ⟨_, hbits⟩ := testBit_sum_pow bays.getLsbD 8
  rw [hsum]
  refine congrArg (fun x => [x]) (BitVec.eq_of_getLsbD_eq fun i hi => ?_)
  rw [BitVec.getLsbD_ofNat, hbits i hi]
  simp [hi]

/-! ### The entries of a notice (R58) -/

/-- The cut falls behind a run that holds no more marks than allowed, where the next entry would hold one more. -/
theorem countWithin_append (es rest : List HistoryEntry) : ∀ m, es.countP (fun e => e.kind ≠ .data) ≤ m →
    (rest = [] ∨ es.countP (fun e => e.kind ≠ .data) = m ∧ ∃ e more, rest = e :: more ∧ e.kind ≠ .data) →
    countWithin m (es ++ rest) = es.length := by
  induction es with
  | nil =>
    rintro m _ (rfl | ⟨rfl, e, more, rfl, he⟩)
    · rfl
    · simp [countWithin, he]
  | cons x es ih =>
    intro m hm hr
    rw [List.cons_append, List.length_cons]
    by_cases hx : x.kind = .data
    · have hc : (x :: es).countP (fun e => e.kind ≠ .data) = es.countP fun e => e.kind ≠ .data := by simp [hx]
      rw [hc] at hm hr
      simp only [countWithin, if_pos hx, ih m hm hr]
    · have hc : (x :: es).countP (fun e => e.kind ≠ .data) = es.countP (fun e => e.kind ≠ .data) + 1 := by simp [hx]
      rw [hc] at hm hr
      cases m with
      | zero => omega
      | succ m =>
        simp only [countWithin, if_neg hx, ih m (by omega) (hr.imp_right fun ⟨h, he⟩ => ⟨by omega, he⟩)]

/-- The entries a notice takes, where the unsent ones start with a run that neither the credit, nor 240, nor a 129th mark cuts (R58). -/
theorem noticeEntries_eq {h : History} {st : Stream} {es rest : List HistoryEntry} (hu : h.unsentEntries st = es ++ rest)
    (hl : es.length ≤ min st.credit 240) (hm : es.countP (fun e => e.kind ≠ .data) ≤ 128)
    (hr : rest = [] ∨ es.length = min st.credit 240 ∨
      es.countP (fun e => e.kind ≠ .data) = 128 ∧ ∃ e more, rest = e :: more ∧ e.kind ≠ .data) : h.noticeEntries st = es := by
  have hfirst : (es ++ rest).take (min st.credit 240) = es ++ rest.take (min st.credit 240 - es.length) := by
    rw [List.take_append, List.take_of_length_le hl]
  have hcut : rest.take (min st.credit 240 - es.length) = [] ∨ es.countP (fun e => e.kind ≠ .data) = 128 ∧
      ∃ e more, rest.take (min st.credit 240 - es.length) = e :: more ∧ e.kind ≠ .data := by
    rcases hr with rfl | heq | ⟨hc, e, more, rfl, he⟩
    · exact .inl List.take_nil
    · exact .inl (by rw [heq, Nat.sub_self, List.take_zero])
    · cases min st.credit 240 - es.length with
      | zero => exact .inl rfl
      | succ n => exact .inr ⟨hc, e, more.take n, rfl, he⟩
  unfold History.noticeEntries
  dsimp only
  rw [hu, hfirst, countWithin_append es _ 128 hm hcut, List.take_left]

/-- The marks are the offsets of the entries that are not DATA, each with its kind (R58). -/
theorem markList_eq (es : List HistoryEntry) :
    markList es = ((List.range es.length).filter fun i => es[i]?.any fun e => decide (e.kind ≠ .data)).map
      fun i => (i, (es[i]?.getD ⟨.data, 0⟩).kind) := by
  have hz : es.zipIdx = (List.range es.length).map fun i => (es[i]?.getD ⟨.data, 0⟩, i) := by
    apply List.ext_getElem
    · simp
    · intro i h1 h2
      simp at h1 h2 ⊢
      simp [h1]
  unfold markList
  rw [hz, List.filter_map, List.map_map]
  refine congrArg₂ List.map rfl (List.filter_congr fun i hi => ?_)
  have hi := List.mem_range.mp hi
  simp [hi]

theorem consolePayload_eq (b : Bay) (st : Stream) (es : List HistoryEntry) {marks : List Nat}
    (hm : marks = (List.range es.length).filter fun i => es[i]?.any fun e => decide (e.kind ≠ .data)) :
    consolePayload b st es = [bayByte b] ++ le4 st.gap ++ le4 st.cursor.toNat ++ le1 es.length ++ le1 marks.length ++
      es.map HistoryEntry.value ++ marks.flatMap fun i => le1 i ++ es[i]?.elim [] fun e => le1 e.kind.code := by
  have hkind : (markList es).flatMap (fun m => le1 m.1 ++ le1 m.2.code) =
      marks.flatMap fun i => le1 i ++ es[i]?.elim [] fun e => le1 e.kind.code := by
    rw [markList_eq, ← hm, List.flatMap_map]
    refine List.flatMap_congr fun i hi => ?_
    rw [hm] at hi
    have hlt := List.mem_range.mp (List.mem_filter.mp hi).1
    simp [hlt]
  have hlen : (markList es).length = marks.length := by rw [markList_eq, ← hm, List.length_map]
  unfold consolePayload
  rw [hkind, hlen]
  rfl

theorem startConsole_eq {st : Stream} {es : List HistoryEntry} (hs : (s.slice b).history.stream = some st)
    (he : (s.slice b).history.noticeEntries st = es) :
    startConsole b s = startFrame (.console b) (consoleFrame b st es)
      { s.withHistory b { (s.slice b).history with stream := some (st.consume es.length) } with lastServed := b } := by
  unfold startConsole
  rw [hs]
  dsimp only
  rw [he]
  rfl

/-! ### The exchange at which a frame starts -/

theorem exec_outgoingFrameStart (hh : s.link.hold = false) (ho : s.link.outgoing = none) (hready : frameReady s = true) :
    exec (.outgoingFrameStart mosi) s = .next (exchange mosi s) := if_pos (by simp [startsFrame, hh, ho, hready])

/-- What an exchange that starts a frame finds: no hold, the receiver in HUNT and no frame in flight. -/
structure Starting (s : State) : Prop where
  hold : s.link.hold = false
  receiver : s.link.receiver = .hunt
  outgoing : s.link.outgoing = none

/-- The frame that the arbiter chooses starts. -/
theorem Starting.exec_starts (h : Starting s) (hrx : rx = if mosi = 0xC3 then .length none else .hunt) (hready : frameReady s = true)
    {origin : Origin} {f : Frame} (ha : arbitrate s = startFrame origin f t) (hr : t.link.receiver = s.link.receiver) :
    exec (.outgoingFrameStart mosi) s =
      .next (t.withLink { t.link with receiver := rx, miso := 0xC3, outgoing := some ⟨origin, f.wire, 1⟩ }) :=
  (exec_outgoingFrameStart h.hold h.outgoing hready).trans
    (congrArg Host.Outcome.next (exchange_starts h.hold h.outgoing ha (hr.trans h.receiver) hrx))

theorem Starting.frameReady_hello (h : Starting s) (hp : s.link.helloPending = true) : frameReady s = true :=
  frameReady_iff.mpr (.inl ⟨hp, by simp [h.outgoing]⟩)

theorem Starting.frameReady_reply (h : Starting s) (hq : s.link.replies ≠ []) : frameReady s = true := by
  refine frameReady_iff.mpr (.inr (.inl ?_))
  rw [if_neg (by simp [h.outgoing])]
  exact hq

theorem arbitrate_hello (hp : s.link.helloPending = true) : arbitrate s = startFrame .hello (helloFrame s) s := if_pos hp

theorem arbitrate_reply {r : Frame} {rest : List Frame} (hp : s.link.helloPending = false) (hq : s.link.replies = r :: rest) :
    arbitrate s = startFrame .reply r s := by
  simp only [arbitrate, hp, hq, Bool.false_eq_true, if_false]

theorem arbitrate_summary (hp : s.link.helloPending = false) (hq : s.link.replies = []) (hs : s.link.summaryPending = true) :
    arbitrate s = startFrame .summary (summaryFrame s) (s.modLink fun l => { l with summaryPending := false }) := by
  simp only [arbitrate, hp, hq, hs, Bool.false_eq_true, if_false, if_true]

theorem arbitrate_records (hp : s.link.helloPending = false) (hq : s.link.replies = []) (hs : s.link.summaryPending = false) :
    arbitrate s = startRecordNotice s := by
  simp only [arbitrate, hp, hq, hs, Bool.false_eq_true, if_false]

theorem startRecordNotice_fetch {r : FetchRecord} (hf : s.cache.pendingFetch = some r) :
    startRecordNotice s = startFrame (.fetch r.id) (fetchFrame r) (s.modCache fun c => c.sendFetch r.id) := by
  simp only [startRecordNotice, hf]

theorem startRecordNotice_writeback {r : WritebackRecord} (hf : s.cache.pendingFetch = none) (hw : s.cache.pendingWriteback = some r) :
    startRecordNotice s = startFrame (.writeback r.id) (writebackFrame s.cache r) (s.modCache fun c => c.sendWriteback r.id) := by
  simp only [startRecordNotice, hf, hw]

theorem startRecordNotice_console (hf : s.cache.pendingFetch = none) (hw : s.cache.pendingWriteback = none) (hc : chooseLine s = some b) :
    startRecordNotice s = startConsole b s := by
  simp only [startRecordNotice, hf, hw, hc]

/-- Settles O11: the arbiter's sources in their order, each with the frame it starts and what its owner is told. -/
theorem framesStartInOrder : Obligations.FramesStartInOrder := by
  intro s mosi rx started hrx hstarted hh hr ho
  have h : Starting s := ⟨hh, hr, ho⟩
  refine ⟨fun hready => (exec_outgoingFrameStart hh ho hready).symm, fun hp => ?_, fun r rest hp hq => ?_, fun hp hq =>
    ⟨fun bays hs hb => ?_, fun hs => ⟨fun r hf => ?_, fun hf => ⟨fun r i hw hi => ?_, fun hw => ?_⟩⟩⟩⟩
  · rw [hstarted]
    exact h.exec_starts hrx (h.frameReady_hello hp) (arbitrate_hello hp) rfl
  · rw [hstarted]
    exact h.exec_starts hrx (h.frameReady_reply (by simp [hq])) (arbitrate_reply hp hq) rfl
  · rw [hstarted, ← le1_summaryBays hb]
    exact h.exec_starts hrx (frameReady_iff.mpr (.inr (.inr (.inl hs)))) (arbitrate_summary hp hq hs) rfl
  · rw [hstarted]
    refine h.exec_starts hrx ?_ ((arbitrate_records hp hq hs).trans (startRecordNotice_fetch hf)) rfl
    exact frameReady_iff.mpr (.inr (.inr (.inr (.inl ⟨r, List.mem_of_find?_eq_some hf, by simpa using List.find?_some hf⟩))))
  · rw [hstarted]
    have hframe : writebackFrame s.cache r =
        ⟨0x74, 0, le1 r.id ++ [bayByte r.bay] ++ le2 r.generation ++ le4 r.block ++ (s.cache.entry i).data.toList⟩ := by
      unfold writebackFrame
      rw [hi]
      rfl
    rw [← hframe]
    refine h.exec_starts hrx ?_ ((arbitrate_records hp hq hs).trans (startRecordNotice_writeback (pendingFetch_eq_none hf) hw)) rfl
    exact frameReady_iff.mpr (.inr (.inr (.inr (.inr (.inl ⟨r, List.mem_of_find?_eq_some hw, by simpa using List.find?_some hw⟩)))))
  · rintro b _ st es rest marks other hdue hfirst rfl hst _ hu hother hl hm hrest hmarks
    obtain rfl : other = fun e => decide (e.kind ≠ .data) := funext hother
    have hes := noticeEntries_eq hu hl hm (by simpa using hrest)
    rw [hstarted, ← consolePayload_eq b st es hmarks]
    exact h.exec_starts hrx (frameReady_iff.mpr (.inr (.inr (.inr (.inr (.inr ⟨b, hdue⟩))))))
      ((arbitrate_records hp hq hs).trans ((startRecordNotice_console (pendingFetch_eq_none hf) (pendingWriteback_eq_none hw)
        (chooseLine_eq_some hdue hfirst)).trans (startConsole_eq hst hes))) rfl

end Sys2Proof.Machine
end

section
/-! PROOFS. The statements of chapter 1 about LINE_SET and the transmit side (R8 to R20): what the CTS check, the drain check and the start
of an idle transmitter do to the line of their bay, and the requests and events that end in them. -/

namespace Sys2Proof.Machine

variable {s : State} {b : Bay} {tag : Byte} {l : Line}

/-! ## The line of a bay -/

theorem modLine_eq_withLine (s : State) (b : Bay) (f : Line → Line) : s.modLine b f = s.withLine b (f (s.slice b).line) := rfl

@[simp] theorem withLine_line (s : State) (b : Bay) (l : Line) : ((s.withLine b l).slice b).line = l := by simp [State.withLine]

@[simp] theorem withLine_withLine (s : State) (b : Bay) (l l' : Line) : (s.withLine b l).withLine b l' = s.withLine b l' := by
  simp [State.withLine]

theorem withLine_same (h : l = (s.slice b).line) : s.withLine b l = s := by
  subst h
  exact withSlice_slice s b

theorem toHunt_withLine (s : State) (b : Bay) (l : Line) : (toHunt s).withLine b l = toHunt (s.withLine b l) := rfl

@[simp] theorem setFlag_line (b : Bay) (f : BayFlag) (s : State) : ((setFlag b f s).slice b).line = (s.slice b).line := by simp

/-- A flag of a bay and its line are different parts of its slice, so they may be written in either order. -/
theorem setFlag_withLine (b : Bay) (f : BayFlag) (s : State) (l : Line) :
    (setFlag b f s).withLine b l = setFlag b f (s.withLine b l) := by
  simp only [State.withLine, setFlag_slice_self]
  simp only [setFlag, modSlice_eq_withSlice, slice_withSlice_self, withSlice_withSlice]
  simp [raiseSummary, State.modLink, State.withSlice]

/-! ## The CTS check, the drain check and the start of an idle transmitter (R9, R17, R18) -/

theorem ctsCheck_same_level (h : (s.slice b).line.ctsRef = (s.slice b).line.seenCts) : ctsCheck b s = s := by
  simp only [ctsCheck, setFlagIf, h, bne_self_eq_false, Bool.false_eq_true, if_false, modLine_eq_withLine]
  exact withLine_same (by rw [← h])

theorem ctsCheck_changed (h : (s.slice b).line.ctsRef = !(s.slice b).line.seenCts) :
    ctsCheck b s = setFlag b .ctsChanged (s.withLine b { (s.slice b).line with ctsRef := (s.slice b).line.seenCts }) := by
  simp only [ctsCheck, setFlagIf, h, modLine_eq_withLine]
  rw [if_pos (by simp)]

@[simp] theorem ctsCheck_line (b : Bay) (s : State) :
    ((ctsCheck b s).slice b).line = { (s.slice b).line with ctsRef := (s.slice b).line.seenCts } := by
  simp only [ctsCheck, setFlagIf, modLine_eq_withLine]
  split <;> simp

theorem drainCheck_waiting (h : (s.slice b).line.queue ≠ [] ∨ (s.slice b).line.drainMark = false) : drainCheck b s = s := by
  unfold drainCheck
  rw [if_neg (by simp; tauto)]

theorem drainCheck_drained (hq : (s.slice b).line.queue = []) (hm : (s.slice b).line.drainMark = true) :
    drainCheck b s = setFlag b .txDrained (s.withLine b { (s.slice b).line with drainMark := false }) := by
  unfold drainCheck
  rw [if_pos (by simp [hq, hm])]
  rfl

theorem startTx_busy (h : (s.slice b).line.tx ≠ .idle) : startTx b s = s := if_neg h

theorem startTx_empty (h : (s.slice b).line.queue = []) : startTx b s = s := by
  unfold startTx
  rw [h]
  exact ite_self s

theorem startTx_from {q : List TxElement} (h : (s.slice b).line.tx = .idle) (hq : (s.slice b).line.queue = q) :
    startTx b s = startFrom b q s := by
  rw [← hq]
  exact if_pos h

/-- A DATA element at the head of an idle line's queue is in flight (R9, R10). -/
theorem startTx_data {v : Byte} {rest : List TxElement} (ht : l.tx = .idle) (hq : l.queue = .data v :: rest)
    (ha : l.startAllowed = true) :
    startTx b (s.withLine b l) = s.withLine b { l with
      queue := rest
      tx := .character (l.config.framing.frame v) l.rate.divisor
      looped := if l.config.loopback then some ((l.config.framing.frame v).map fun x => ⟨x, l.rate.divisor⟩) else none } := by
  rw [startTx_from (by simpa using ht) (by simpa using hq), startFrom]
  simp only [withLine_line]
  rw [if_pos ha, modLine_eq_withLine, withLine_line, withLine_withLine]
  rfl

/-- A BREAK element at the head of an idle line's queue is in its low time (R9, R11). -/
theorem startTx_brk {d : Nat} {rest : List TxElement} (ht : l.tx = .idle) (hq : l.queue = .brk d :: rest)
    (ha : l.startAllowed = true) :
    startTx b (s.withLine b l) = s.withLine b { l with
      queue := rest
      tx := .breakLow d l.rate.divisor
      looped := if l.config.loopback then some [⟨false, d * 480000⟩, ⟨true, l.rate.divisor⟩] else none } := by
  rw [startTx_from (by simpa using ht) (by simpa using hq), startFrom]
  simp only [withLine_line]
  rw [if_pos ha, modLine_eq_withLine, withLine_line, withLine_withLine]
  rfl

/-- An RTS element alone in an idle line's queue sets the output and completes; the CTS check follows (R12, R18). -/
theorem startTx_rts {level : Bool} (ht : l.tx = .idle) (hq : l.queue = [.rts level]) (ha : l.startAllowed = true)
    (hm : l.drainMark = false) :
    startTx b (s.withLine b l) = ctsCheck b (s.withLine b { l with queue := [], rts := level }) := by
  have hd : ∀ t : State, (t.slice b).line.drainMark = false → startFrom b [] (drainCheck b (ctsCheck b t)) = ctsCheck b t :=
    fun t h => drainCheck_waiting (.inr (by simpa using h))
  rw [startTx_from (by simpa using ht) (by simpa using hq), startFrom]
  simp only [withLine_line]
  rw [if_pos ha, modLine_eq_withLine, withLine_line, withLine_withLine]
  exact hd _ (by simpa using hm)

/-- An idle line with CTS honour off may start its head (R9). -/
theorem Line.startAllowed_of_ctsHonour (h : l.config.ctsHonour = false) : l.startAllowed = true := by
  simp [Line.startAllowed, h]

/-! ## LINE_SET (R20) -/

/-- The record of a line is written while an element is in flight and the seen CTS level is at its reference. -/
theorem lineSetAct_written {c : LineConfig} (ht : (s.slice b).line.tx ≠ .idle)
    (hr : (s.slice b).line.ctsRef = if c.loopback then (s.slice b).line.rts else (s.slice b).line.conCts) :
    lineSetAct c b s = accept (s.withLine b (if c.loopback = (s.slice b).line.config.loopback then { (s.slice b).line with config := c }
      else { (s.slice b).line with config := c, receiver := .waitHigh, lowPeriod := none, looped := none })) c.encode := by
  have hline : ∀ t : State, (t.slice b).line.tx ≠ .idle → (t.slice b).line.ctsRef = (t.slice b).line.seenCts →
      startTx b (ctsCheck b t) = t := fun t h h' => by rw [ctsCheck_same_level h', startTx_busy h]
  unfold lineSetAct
  simp only [modLine_eq_withLine]
  by_cases hl : (s.slice b).line.config.loopback = c.loopback
  · rw [if_neg (by simp [hl]), if_pos hl.symm, hline _ (by simpa using ht) (by simpa [Line.seenCts] using hr)]
  · rw [if_pos (by simpa using hl), if_neg (Ne.symm hl), if_neg ht, hline _ (by simpa using ht) (by simpa [Line.seenCts] using hr)]

/-- The three enumerated fields of LINE_SET at a defined value: the field decodes as the statement names it, and its code is the byte. -/
theorem parityOf_defined {v : Byte} (h : v.toNat ≤ 2) :
    parityOf v = some (if v = 0 then .none else if v = 1 then .even else .odd) ∧
      le1 (if v = 0 then Parity.none else if v = 1 then .even else .odd).code = [v] := by
  revert v
  decide

theorem windowOf_defined {v : Byte} (h : v.toNat ≤ 2) :
    windowOf v = some (if v = 0 then .w256 else if v = 1 then .w1024 else .w4096) ∧
      le1 (if v = 0 then WindowSize.w256 else if v = 1 then .w1024 else .w4096).code = [v] := by
  revert v
  decide

theorem loopPolicyOf_defined {v : Byte} (h : v = 1 ∨ v = 2) :
    loopPolicyOf v = some (if v = 1 then .track else .hold) ∧ le1 (if v = 1 then LoopPolicy.track else .hold).mode.code = [v] := by
  revert v
  decide

/-- Settles O13: with an element in flight no held start follows, and with the seen level at its reference no CTS change does, so the record
is all that LINE_SET leaves. -/
theorem lineSetWritesTheRecord : Obligations.LineSetWritesTheRecord := by
  unfold Obligations.LineSetWritesTheRecord
  rintro s tag b dataBits stopBits flush idle threshold cts loopback detect custom l ht rfl htx hcts parity policy window hpar hpol hwin c hc
  obtain ⟨hpar, hparc⟩ := parityOf_defined hpar
  obtain ⟨hpol, hpolc⟩ := loopPolicyOf_defined hpol
  obtain ⟨hwin, hwinc⟩ := windowOf_defined hwin
  have hact := lineSetAct_written (s := toHunt s) (b := b) (c := c) htx (by rw [hc]; exact hcts)
  rw [toHunt_slice, toHunt_withLine] at hact
  subst hc
  refine congrArg Host.Outcome.next ((takeRequest_accepted (kind := 0x08) ht (Eq.trans ?decoded hact)).trans ?reply)
  case decoded =>
    simp only [hpar, hpol, hwin, onOff_onOffByte, withField_some, onBay_bayByte]
    rfl
  case reply =>
    simp only [LineConfig.encode, hparc, hpolc, hwinc, le1_toNat]
    rfl

/-! ## SEND, BREAK and RTS (R13 to R15) -/

theorem takeRequest_onBay_accepted {kind : Byte} {act : Bay → State → Answer} {t : State} {fields : List Byte} (ht : takesRequest tag s)
    (ha : act b (toHunt s) = accept (toHunt t) fields) :
    takeRequest kind tag (onBay (bayByte b) act) s = replied (replyKind kind) tag (0 :: fields) t :=
  takeRequest_accepted ht ((onBay_bayByte b act _).trans ha)

theorem takeRequest_onBay_refused {kind : Byte} {act : Bay → State → Answer} {c : ReplyCode} (ht : takesRequest tag s)
    (ha : act b (toHunt s) = refuse c (toHunt s)) :
    takeRequest kind tag (onBay (bayByte b) act) s = replied (replyKind kind) tag [c.byte] s :=
  takeRequest_refused ht ((onBay_bayByte b act _).trans ha)

/-- An on/off field at a defined value goes to the owner as the level it spells. -/
theorem withField_onOffByte (v : Bool) (act : Bool → State → Answer) : withField (onOff (onOffByte v)) act = act v := by
  rw [onOff_onOffByte]
  rfl

theorem exec_send (tag line : Byte) (drain : Bool) (bytes : List Byte) (s : State) :
    exec (.send tag line (onOffByte drain) bytes) s = .next (takeRequest 0x09 tag (onBay line (sendAct drain bytes)) s) :=
  congrArg (fun act => Host.Outcome.next (takeRequest 0x09 tag act s)) (withField_onOffByte drain _)

theorem exec_rts (tag line : Byte) (level : Bool) (s : State) :
    exec (.rts tag line (onOffByte level)) s = .next (takeRequest 0x0B tag (onBay line (joinTx (.rts level))) s) :=
  congrArg (fun act => Host.Outcome.next (takeRequest 0x0B tag act s)) (withField_onOffByte level _)

/-- The state after a SEND has appended what fits and before the line starts it (R13). -/
theorem sendAct_accepted {drain : Bool} {bytes : List Byte} (h1 : 1 ≤ bytes.length) (h240 : bytes.length ≤ 240) :
    sendAct drain bytes b s =
      accept (startTx b (s.withLine b { (s.slice b).line with
          queue := (s.slice b).line.queue ++ (bytes.take (256 - (s.slice b).line.queue.length)).map TxElement.data
          drainMark := drain }))
        (le1 (min (256 - (s.slice b).line.queue.length) bytes.length) ++
          le2 (256 - (s.slice b).line.queue.length - min (256 - (s.slice b).line.queue.length) bytes.length)) := by
  unfold sendAct
  rw [if_neg (by simp only [Bool.or_eq_true, decide_eq_true_eq]; omega)]
  simp only [appendTx, modLine_eq_withLine, withLine_line, withLine_withLine, Line.free, List.length_take]
  rfl

theorem sendAct_malformed {drain : Bool} {bytes : List Byte} (h : bytes.length = 0 ∨ 240 < bytes.length) :
    sendAct drain bytes b s = refuse .malformed s := if_pos (by simpa using h)

theorem joinTx_busy {e : TxElement} (h : 256 ≤ (s.slice b).line.queue.length) : joinTx e b s = refuse .busy s :=
  if_pos (Nat.sub_eq_zero_of_le h)

/-- An element that finds room is appended, and the answer reports the free space of the state it leaves (R14, R15, R167). -/
theorem joinTx_accepted {e : TxElement} {t : State} {n : Nat} (h : (s.slice b).line.queue.length < 256)
    (ht : startTx b (s.withLine b { (s.slice b).line with queue := (s.slice b).line.queue ++ [e] }) = t)
    (hn : 256 - (t.slice b).line.queue.length = n) : joinTx e b s = accept t (le2 n) := by
  subst ht hn
  exact if_neg (Nat.sub_ne_zero_of_lt h)

theorem joinTx_waits {e : TxElement} (h : (s.slice b).line.queue.length < 256) (ht : (s.slice b).line.tx ≠ .idle) :
    joinTx e b s = accept (s.withLine b { (s.slice b).line with queue := (s.slice b).line.queue ++ [e] })
      (le2 (255 - (s.slice b).line.queue.length)) :=
  joinTx_accepted h (startTx_busy (by simpa using ht)) (by simp)

/-! ### Behind an element in flight -/

theorem exec_send_waits (ht : takesRequest tag s) (htx : (s.slice b).line.tx ≠ .idle) (drain : Bool) {bytes : List Byte}
    (h1 : 1 ≤ bytes.length) (h240 : bytes.length ≤ 240) :
    exec (.send tag (bayByte b) (onOffByte drain) bytes) s =
      .next (replied 0x89 tag
        (0 :: (le1 (min (256 - (s.slice b).line.queue.length) bytes.length) ++
          le2 (256 - (s.slice b).line.queue.length - min (256 - (s.slice b).line.queue.length) bytes.length)))
        (s.withLine b { (s.slice b).line with
          queue := (s.slice b).line.queue ++ (bytes.take (256 - (s.slice b).line.queue.length)).map TxElement.data
          drainMark := drain })) := by
  rw [exec_send]
  refine congrArg Host.Outcome.next (takeRequest_onBay_accepted (kind := 0x09) ht ((sendAct_accepted h1 h240).trans ?_))
  rw [startTx_busy (by simpa using htx)]
  rfl

theorem exec_send_malformed (ht : takesRequest tag s) {drain : Byte} {bytes : List Byte}
    (hl : bytes.length = 0 ∨ 240 < bytes.length) (hd : drain.toNat ≤ 1) :
    exec (.send tag (bayByte b) drain bytes) s = .next (replied 0x89 tag [1] s) := by
  obtain ⟨v, rfl⟩ : ∃ v, drain = onOffByte v := by
    revert drain
    decide
  rw [exec_send]
  exact congrArg Host.Outcome.next (takeRequest_onBay_refused (kind := 0x09) ht (sendAct_malformed hl))

/-! ### On an idle line -/

theorem exec_send_starts (ht : takesRequest tag s) (hl : l = (s.slice b).line) (htx : l.tx = .idle) (hq : l.queue = [])
    (ha : l.startAllowed = true) (drain : Bool) (v : Byte) {rest : List Byte} (hr : rest.length ≤ 239) :
    exec (.send tag (bayByte b) (onOffByte drain) (v :: rest)) s =
      .next (replied 0x89 tag (0 :: (le1 (rest.length + 1) ++ le2 (255 - rest.length)))
        (s.withLine b { l with
          queue := rest.map TxElement.data, drainMark := drain
          tx := .character (l.config.framing.frame v) l.rate.divisor
          looped := if l.config.loopback then some ((l.config.framing.frame v).map fun x => ⟨x, l.rate.divisor⟩) else none })) := by
  have happ := sendAct_accepted (s := toHunt s) (b := b) (drain := drain) (bytes := v :: rest) (by simp) (by simp; omega)
  rw [toHunt_slice, ← hl, hq, List.take_of_length_le (by simp; omega), List.length_nil, Nat.sub_zero, List.length_cons,
    Nat.min_eq_right (by omega)] at happ
  have hstart := startTx_data (s := toHunt s) (b := b) (v := v) (rest := rest.map .data)
    (l := { l with queue := [] ++ (v :: rest).map .data, drainMark := drain }) htx rfl ha
  rw [exec_send]
  refine congrArg Host.Outcome.next ((takeRequest_onBay_accepted (kind := 0x09) ht 
    (happ.trans (congrArg (accept · _) (hstart.trans (toHunt_withLine s b _))))).trans ?_)
  rw [show 256 - (rest.length + 1) = 255 - rest.length by omega]
  rfl

theorem exec_sendBreak_starts (ht : takesRequest tag s) (hl : l = (s.slice b).line) (htx : l.tx = .idle) (hq : l.queue = [])
    (ha : l.startAllowed = true) (duration : Byte) :
    exec (.sendBreak tag (bayByte b) duration) s =
      .next (replied 0x8A tag (0 :: le2 256)
        (s.withLine b { l with
          tx := .breakLow (max 1 duration.toNat) l.rate.divisor
          looped := if l.config.loopback then some [⟨false, max 1 duration.toNat * 480000⟩, ⟨true, l.rate.divisor⟩] else none })) := by
  have hclamp : clamp 1 255 duration.toNat = max 1 duration.toNat := by
    rw [clamp, min_eq_left (Nat.le_of_lt_succ duration.isLt)]
  have hstart := startTx_brk (s := toHunt s) (b := b) (d := max 1 duration.toNat) (rest := [])
    (l := { l with queue := l.queue ++ [.brk (max 1 duration.toNat)] }) htx (by simp [hq]) ha
  subst hl
  refine congrArg Host.Outcome.next (takeRequest_onBay_accepted (kind := 0x0A) ht (joinTx_accepted (n := 256) (by simp [hq]) ?_ ?_))
  · rw [hclamp, ← hq] at *
    exact hstart
  · simp [hq]

theorem exec_rts_starts {level : Bool} {t : State} (ht : takesRequest tag s) (hl : l = (s.slice b).line) (htx : l.tx = .idle)
    (hq : l.queue = []) (ha : l.startAllowed = true) (hm : l.drainMark = false)
    (hcts : ctsCheck b ((toHunt s).withLine b { l with rts := level }) = toHunt t) :
    exec (.rts tag (bayByte b) (onOffByte level)) s = .next (replied 0x8B tag (0 :: le2 256) t) := by
  have hstart := startTx_rts (s := toHunt s) (b := b) (level := level) (l := { l with queue := l.queue ++ [.rts level] }) htx
    (by simp [hq]) ha hm
  have hqueue : (t.slice b).line.queue = [] := by
    rw [← toHunt_slice, ← hcts, ctsCheck_line, withLine_line]
    exact hq
  subst hl
  rw [exec_rts]
  refine congrArg Host.Outcome.next (takeRequest_onBay_accepted (kind := 0x0B) ht (joinTx_accepted (by simp [hq]) (hstart.trans ?_) ?_))
  · rw [← hq]
    exact hcts
  · simp [hqueue]

/-- Settles O14: on a line with an element in flight the append is all; on an idle line with an empty queue the element appended is the head
that the start takes. -/
theorem elementsJoinTheTransmitQueue : Obligations.ElementsJoinTheTransmitQueue := by
  unfold Obligations.ElementsJoinTheTransmitQueue
  refine ⟨fun s tag b ht htx => ⟨fun drain bytes => exec_send_waits ht htx drain, fun drain bytes => exec_send_malformed ht,
    fun duration hroom => ?_, fun level hroom => ?_, fun hfull => ⟨fun duration => ?_, fun level => ?_⟩⟩,
    fun s tag b l ht hl htx hq hh => ?_⟩
  · exact congrArg Host.Outcome.next (takeRequest_onBay_accepted (kind := 0x0A) ht
      ((joinTx_waits (s := toHunt s) hroom htx).trans (by rw [clamp, min_eq_left (Nat.le_of_lt_succ duration.isLt)]; rfl)))
  · rw [exec_rts]
    exact congrArg Host.Outcome.next (takeRequest_onBay_accepted (kind := 0x0B) ht (joinTx_waits (s := toHunt s) hroom htx))
  · exact congrArg Host.Outcome.next (takeRequest_onBay_refused (kind := 0x0A) (c := .busy) ht (joinTx_busy (s := toHunt s) hfull))
  · rw [exec_rts]
    exact congrArg Host.Outcome.next (takeRequest_onBay_refused (kind := 0x0B) (c := .busy) ht (joinTx_busy (s := toHunt s) hfull))
  · have ha := Line.startAllowed_of_ctsHonour hh
    refine ⟨fun drain v rest => exec_send_starts ht hl htx hq ha drain v, exec_sendBreak_starts ht hl htx hq ha,
      fun level hm => ⟨fun hloop hcts => exec_rts_starts ht hl htx hq ha hm ?_, fun hloop hcts => exec_rts_starts ht hl htx hq ha hm ?_⟩⟩
    · exact ctsCheck_same_level (by simp [Line.seenCts, hloop, hcts])
    · rw [ctsCheck_changed (by simp [Line.seenCts, hloop, hcts])]
      simp only [withLine_line, withLine_withLine, Line.seenCts, hloop, if_true]
      rfl

/-! ## The transmitter's events (R9 to R11, R17, R18) -/

theorem Framing.frame_eq (f : Framing) (v : Byte) :
    f.frame v = false :: ((List.range f.dataBits).map fun i => v.getLsbD i) ++
      (match f.parity with
        | .none => []
        | .even => [(((List.range f.dataBits).map fun i => v.getLsbD i).count true) % 2 = 1]
        | .odd => [(((List.range f.dataBits).map fun i => v.getLsbD i).count true) % 2 = 0]) ++
      List.replicate f.stopBits true := by
  unfold Framing.frame Framing.parityBits Framing.parityOf Framing.dataOf
  cases f.parity <;> rfl

theorem exec_txElementComplete (h : (∃ bits n, (s.slice b).line.tx = .character bits n) ∨ ∃ d n, (s.slice b).line.tx = .breakRecovery d n) :
    exec (.txElementComplete b) s = .next (completeTx b s) := by
  change execTxElementComplete b s = _
  unfold execTxElementComplete
  obtain ⟨_, _, h⟩ | ⟨_, _, h⟩ := h <;> rw [h]

/-- An element that completes with another waiting leaves its line idle, and the head is looked at (R9). -/
theorem completeTx_waiting (h : (s.slice b).line.queue ≠ []) :
    completeTx b s = startTx b (s.withLine b { (s.slice b).line with tx := .idle, looped := some [] }) := by
  unfold completeTx
  rw [modLine_eq_withLine, drainCheck_waiting (.inl (by simpa using h))]

theorem completeTx_drained (hq : (s.slice b).line.queue = []) (hm : (s.slice b).line.drainMark = true) :
    completeTx b s =
      setFlag b .txDrained (s.withLine b { (s.slice b).line with tx := .idle, looped := some [], drainMark := false }) := by
  unfold completeTx
  rw [modLine_eq_withLine, drainCheck_drained (by simpa using hq) (by simpa using hm), startTx_empty (by simpa using hq), withLine_line,
    withLine_withLine]

/-- The pin takes a level other than the reference with loopback off: the change is flagged, and the head may start (R9, R18). -/
theorem exec_ctsChange_flagged {level : Bool} (hloop : (s.slice b).line.config.loopback = false)
    (hcts : (s.slice b).line.ctsRef = !level) :
    exec (.ctsChange b level) s =
      .next (startTx b (setFlag b .ctsChanged (s.withLine b { (s.slice b).line with conCts := level, ctsRef := level }))) := by
  refine congrArg Host.Outcome.next (congrArg (startTx b) ?_)
  rw [modLine_eq_withLine, ctsCheck_changed (by simp [Line.seenCts, hloop, hcts])]
  simp [Line.seenCts, hloop]

/-- Settles O15: an element that completes leaves an idle line whose head the start takes, and a CTS change leaves a line whose head may
start. -/
theorem transmitterMovesOn : Obligations.TransmitterMovesOn := by
  unfold Obligations.TransmitterMovesOn
  refine ⟨fun s b => ⟨fun bits n v rest frame htx hh hq hf => ?_, fun d n e rest htx hh hq => ?_, fun bits n htx hq hm => ?_,
    fun d n htx => ?_⟩, fun s b level hloop hcts => ⟨fun htx => ?_, fun v rest hlevel htx hq => ?_⟩⟩
  · obtain rfl : frame = (s.slice b).line.config.framing.frame v := hf.trans (Framing.frame_eq _ v).symm
    rw [exec_txElementComplete (.inl ⟨bits, n, htx⟩), completeTx_waiting (by simp [hq])]
    exact congrArg Host.Outcome.next (startTx_data (l := { (s.slice b).line with tx := .idle, looped := some [] }) rfl hq
      (Line.startAllowed_of_ctsHonour hh))
  · rw [exec_txElementComplete (.inr ⟨d, n, htx⟩), completeTx_waiting (by simp [hq])]
    exact congrArg Host.Outcome.next (startTx_brk (l := { (s.slice b).line with tx := .idle, looped := some [] }) rfl hq
      (Line.startAllowed_of_ctsHonour hh))
  · rw [exec_txElementComplete (.inl ⟨bits, n, htx⟩), completeTx_drained hq hm]
  · change execTxBreakLowEnd b s = _
    unfold execTxBreakLowEnd
    rw [htx]
    rfl
  · rw [exec_ctsChange_flagged hloop hcts, startTx_busy (by simpa using htx)]
  · subst hlevel
    have hstart := startTx_data (s := setFlag b .ctsChanged s) (b := b) (l := { (s.slice b).line with conCts := true, ctsRef := true })
      htx hq (by simp [Line.startAllowed, Line.seenCts, hloop])
    rw [setFlag_withLine, setFlag_withLine, if_neg (by simp [hloop])] at hstart
    rw [exec_ctsChange_flagged hloop hcts]
    exact congrArg Host.Outcome.next hstart

end Sys2Proof.Machine
end

section
/-! PROOFS. The statement of chapter 1 about received characters (R3 to R6, R19): what an entry handed on does to a line no consumer acts
on and to its ring, what a frame samples of the element it hears, and the receiver's commands. -/

namespace Sys2Proof.Machine

variable {s : State} {b : Bay} {l : Line} {e : HistoryEntry} {f : Framing}

/-! ## An entry handed on (R6, R46) -/

theorem presentToHeartbeat_absent (h : (s.slice b).heartbeat = {}) : presentToHeartbeat b e s = s := by
  unfold presentToHeartbeat
  rw [h]
  change s.withSlice b { s.slice b with heartbeat := { (s.slice b).heartbeat with j := 0 } } = s
  rw [show { (s.slice b).heartbeat with j := 0 } = (s.slice b).heartbeat by rw [h]]
  exact withSlice_slice s b

theorem presentToPrompt_disarmed (h : (s.slice b).responder.armed = none) : presentToPrompt b e s = s := by
  refine if_neg ?_
  rw [h]
  nofun

theorem presentToMonitor_passive (h : e.kind ≠ .data ∨ (s.slice b).monitor.state = .disabled) : presentToMonitor b e s = s := by
  unfold presentToMonitor outputActivity
  split
  case isFalse => rfl
  case isTrue hk =>
    have hm := h.resolve_left (not_not_intro hk)
    have hsame : ∀ m : Monitor, m.state = .disabled → (if m.settings.source = .anyOutput then m.activity else m) = m := by
      intro m h
      simp only [Monitor.activity, h, ite_self]
    change s.withMonitor b _ = s
    simp only [hsame _ hm]
    exact withSlice_slice s b

/-- An entry that does not fill the quality window is only counted in it (R36). -/
theorem presentToWindow_open {k : EntryKind} (h : ((s.slice b).line.rate.window.count k).characters < 256) :
    presentToWindow b k s = s.withRate b { (s.slice b).line.rate with window := (s.slice b).line.rate.window.count k } := by
  have hw : 256 ≤ (s.slice b).line.config.window.characters := by cases (s.slice b).line.config.window <;> decide
  unfold presentToWindow
  rw [if_neg (by omega)]
  rfl

/-- An entry that no consumer acts on changes the ring, the idle-flush timer and the window's counts alone. -/
theorem handEntry_unheard (hroom : (s.slice b).history.entries.length < (s.slice b).history.pages * 1024)
    (hh : (s.slice b).heartbeat = {}) (hr : (s.slice b).responder.armed = none)
    (hm : e.kind ≠ .data ∨ (s.slice b).monitor.state = .disabled) (hw : ((s.slice b).line.rate.window.count e.kind).characters < 256) :
    handEntry b e s = s.withSlice b { s.slice b with
      line := { (s.slice b).line with
        rate := { (s.slice b).line.rate with window := (s.slice b).line.rate.window.count e.kind } }
      history := { (s.slice b).history with
        entries := (s.slice b).history.entries ++ [e], next := (s.slice b).history.next + 1, idleExpired := false } } := by
  have happ : s.modHistory b (fun h => h.append e) = s.withHistory b { (s.slice b).history with
      entries := (s.slice b).history.entries ++ [e], next := (s.slice b).history.next + 1, idleExpired := false } := by
    rw [← History.append_of_room hroom]
    rfl
  unfold handEntry
  rw [happ, presentToHeartbeat_absent (by simpa [State.withHistory] using hh),
    presentToPrompt_disarmed (by simpa [State.withHistory] using hr), presentToMonitor_passive (by simpa [State.withHistory] using hm), presentToWindow_open (by simpa [State.withHistory] using hw)]
  simp [State.withRate, State.withLine, State.withHistory]

/-- A match of the prompt matcher reaches the responder and the transmit side alone. -/
theorem promptMatch_apart {p : Part} (hr : p ≠ .responder b) (hs : p.sending b = false) : p.Same s (promptMatch b s) := by
  have hf : p.flagging b = false := by cases p <;> simp_all [Part.sending, Part.flagging]
  have hjoin : p ≠ .transmit b := by
    rintro rfl
    simp [Part.sending] at hs
  have hmod {t : State} {f : Responder → Responder} : p.Same t (t.modResponder b f) :=
    modSlice_same (by cases p <;> simp_all [Part.SameIn])
  unfold promptMatch
  exact (((Part.Same.ite (fun _ => (appendTx_same hjoin).trans (setFlag_same hf)) fun _ => setFlag_same hf).trans
    (disarmResponder_same hr)).trans hmod).trans (startTx_same hs)

theorem presentToPrompt_apart {p : Part} (hr : p ≠ .responder b) (hs : p.sending b = false) : p.Same s (presentToPrompt b e s) := by
  have hmod {t : State} {f : Responder → Responder} : p.Same t (t.modResponder b f) :=
    modSlice_same (by cases p <;> simp_all [Part.SameIn])
  unfold presentToPrompt
  exact Part.Same.ite (fun _ => Part.Same.ite (fun _ => hmod.trans (promptMatch_apart hr hs)) fun _ => hmod) fun _ => Part.Same.refl _ _

/-- What the consumers of an entry do leaves its ring as the append left it (R46). -/
theorem handEntry_history (b : Bay) (e : HistoryEntry) (s : State) :
    ((handEntry b e s).slice b).history = (s.slice b).history.append e := by
  have hsame : (Part.history b).Same (s.modHistory b fun h => h.append e) (handEntry b e s) :=
    (presentToHeartbeat_same (by simp) (by simp)).trans ((presentToPrompt_apart (by simp) rfl).trans
      ((presentToMonitor_same (by simp)).trans (presentToWindow_same rfl rfl)))
  exact Eq.trans hsame (by simp)

/-! ## Samples (R3, R4, R19, R22) -/

/-- Each of the eight samples lands in its bit. -/
theorem getLsbD_sampledByte (heard : List Span) (n : Nat) (carried : Byte) {i : Nat} (hi : i < 8) :
    (sampledByte heard n carried).getLsbD i = sampleOr heard n (i + 1) (carried.getLsbD i) := by
  have hfold : ∀ (p : Nat → Bool) (m : Nat), (((List.range m).foldl (fun v k => if p k then v ||| BitVec.twoPow 8 k else v)
      (0 : Byte)).getLsbD i) = (decide (i < m) && p i) := by
    intro p m
    induction m with
    | zero => simp
    | succ m ih =>
      rw [List.range_succ, List.foldl_append, List.foldl_cons, List.foldl_nil]
      split
      case isTrue hp =>
        rw [BitVec.getLsbD_or, ih, BitVec.getLsbD_twoPow]
        by_cases him : i = m
        · subst him
          simp [hi, hp]
        · grind
      case isFalse hp =>
        rw [ih]
        by_cases him : i = m
        · subst him
          simp [hp]
        · grind
  rw [sampledByte, hfold, decide_eq_true hi, Bool.true_and]

@[simp] theorem sampleOr_nil (n k : Nat) (v : Bool) : sampleOr [] n k v = v := rfl

@[simp] theorem sampledByte_nil (n : Nat) (v : Byte) : sampledByte [] n v = v :=
  BitVec.eq_of_getLsbD_eq fun i hi => by rw [getLsbD_sampledByte [] n v hi, sampleOr_nil]

/-- A line of spans of one length holds, within its k-th span, the k-th level. -/
theorem levelAt_map (levels : List Bool) (n t : Nat) (ht : t < n) (k : Nat) :
    levelAt (levels.map fun x => ⟨x, n⟩) (k * n + t) = levels[k]? := by
  induction levels generalizing k with
  | nil => rfl
  | cons x rest ih =>
    rw [List.map_cons, levelAt]
    cases k with
    | zero => rw [if_pos (by simpa using ht)]; rfl
    | succ k =>
      rw [if_neg (by nlinarith), List.getElem?_cons_succ, ← ih k]
      congr 1
      change (k + 1) * n + t - n = _
      rw [Nat.succ_mul]
      omega

/-- The eighth tick of a bit time falls within it (R22). -/
theorem tickLengths_take_sum_lt {n : Nat} (hn : 32 ≤ n) : ((tickLengths n).take 8).sum < n := by
  have hle : ∀ x ∈ (tickLengths n).take 8, x ≤ n / 16 + 1 := by
    intro x hx
    obtain ⟨i, _, rfl⟩ := List.mem_map.mp (List.mem_of_mem_take hx)
    split <;> omega
  have hlen : ((tickLengths n).take 8).length = 8 := by simp [tickLengths]
  have := List.sum_le_card_nsmul _ _ hle
  rw [hlen, smul_eq_mul] at this
  omega

/-- A frame that hears an element sent with its own divisor samples the element's bits (R19). -/
theorem sampleOr_heard {levels : List Bool} {n k : Nat} {x : Bool} (hn : 32 ≤ n) (hx : levels[k]? = some x) (carried : Bool) :
    sampleOr (levels.map fun v => ⟨v, n⟩) n k carried = x := by
  unfold sampleOr sampleTime
  rw [levelAt_map levels n _ (tickLengths_take_sum_lt hn) k, hx]
  rfl

/-! ## The bits of a frame (R2, R10) -/

theorem Framing.frame_start (f : Framing) (v : Byte) : (f.frame v)[0]? = some false := rfl

theorem Framing.frame_data (f : Framing) (v : Byte) {i : Nat} (hi : i < f.dataBits) : (f.frame v)[i + 1]? = some (v.getLsbD i) := by
  unfold Framing.frame
  rw [List.append_assoc, List.getElem?_append_left (by simp [Framing.dataOf, hi])]
  simp [Framing.dataOf, hi]

theorem Framing.frame_parity (f : Framing) (v : Byte) (hp : f.parityBits = 1) :
    (f.frame v)[1 + f.dataBits]? = some (f.parityOf (f.dataOf v)) := by
  unfold Framing.frame
  rw [hp, List.append_assoc, List.getElem?_append_right (by simp [Framing.dataOf, Nat.add_comm])]
  simp [Framing.dataOf, Nat.add_comm]

theorem Framing.frame_stop (f : Framing) (v : Byte) (hs : 1 ≤ f.stopBits) :
    (f.frame v)[1 + f.dataBits + f.parityBits]? = some true := by
  unfold Framing.frame
  rw [List.getElem?_append_right (by simp [Framing.dataOf])]
  rw [List.getElem?_replicate_of_lt (by simp [Framing.dataOf]; omega)]

/-! ## A character's value and parity (R2, R4) -/

/-- The data bits up to the line's count, with the bits above it 0, are the value received. -/
theorem Framing.received_eq {data v : Byte} (hv : ∀ i, i < 8 → v.getLsbD i = (decide (i < f.dataBits) && data.getLsbD i)) :
    f.received data = v := by
  refine BitVec.eq_of_getLsbD_eq fun i hi => ?_
  rw [hv i hi, Framing.received, BitVec.getLsbD_and, BitVec.getLsbD_ofNat, Nat.testBit_two_pow_sub_one, decide_eq_true hi,
    Bool.true_and, Bool.and_comm]

/-- The parity is judged over the data bits alone. -/
theorem Framing.dataOf_congr {data v : Byte} (h8 : f.dataBits ≤ 8)
    (hv : ∀ i, i < 8 → v.getLsbD i = (decide (i < f.dataBits) && data.getLsbD i)) : f.dataOf v = f.dataOf data := by
  refine List.map_congr_left fun i hi => ?_
  have hi := List.mem_range.mp hi
  rw [hv i (by omega), decide_eq_true hi, Bool.true_and]

theorem Framing.parityRight_eq (f : Framing) (v : Byte) (parity : Bool) :
    f.parityRight v parity = match f.parity with
      | .none => true
      | .even => decide ((f.dataOf v).count true % 2 = if parity then 1 else 0)
      | .odd => decide ((f.dataOf v).count true % 2 = if parity then 0 else 1) := by
  unfold Framing.parityRight Framing.parityOf
  have h2 := Nat.mod_two_eq_zero_or_one ((f.dataOf v).count true)
  cases f.parity
  case none => rfl
  all_goals rcases h2 with h | h <;> rw [h] <;> cases parity <;> rfl

/-! ## The receiver's commands -/

theorem exec_startEdge {internal : Bool} (hc : (s.slice b).line.canFall internal = true) :
    exec (.startEdge b internal) s = .next (s.withLine b
      (if (s.slice b).line.config.loopback = internal then
        (if internal then (s.slice b).line else { (s.slice b).line with conRx := false }).fall internal
      else if internal then (s.slice b).line else { (s.slice b).line with conRx := false })) := by
  change execStartEdge b internal s = _
  unfold execStartEdge
  rw [if_pos hc, modLine_eq_withLine]
  cases internal <;> simp [Line.observes]

/-- A RUNNING line whose receiver hunts enters FRAME with the fall (R3, R26). -/
theorem Line.fall_hunt {internal : Bool} (hrun : l.rate.detection = none) (hhunt : l.receiver = .hunt) :
    l.fall internal = { l with
      lowPeriod := some ⟨l.charTime, true, (l.course internal).map lowTime⟩
      receiver := .frame l.config.framing l.rate.divisor ((l.course internal).getD [])
      looped := if internal then (l.course internal).map (List.dropWhile fun x => !x.high) else l.looped } := by
  simp [Line.fall, hrun, hhunt]

theorem exec_startEdge_none {internal : Bool} (hc : (s.slice b).line.canFall internal = false) :
    exec (.startEdge b internal) s = .next s := by
  change execStartEdge b internal s = _
  exact if_neg (by simp [hc])

/-- A frame whose start bit samples low completes a character with the samples it takes (R3, R4, R19). -/
theorem exec_characterReceived {n : Nat} {heard : List Span} (data : Byte) (parity stop : Bool)
    (hr : (s.slice b).line.receiver = .frame f n heard) (hs : sampleOr heard n 0 false = false) :
    exec (.characterReceived b data parity stop) s = .next (takeCharacter b f (sampledByte heard n data)
      (sampleOr heard n (1 + f.dataBits) parity) (sampleOr heard n (1 + f.dataBits + f.parityBits) stop) s) := by
  change execCharacterReceived b data parity stop s = _
  unfold execCharacterReceived
  rw [hr]
  exact congrArg Host.Outcome.next (if_neg (by simp [hs]))

/-- A frame that hears no element takes the levels of the event. -/
theorem exec_characterReceived_unheard {n : Nat} (data : Byte) (parity stop : Bool) (hr : (s.slice b).line.receiver = .frame f n []) :
    exec (.characterReceived b data parity stop) s = .next (takeCharacter b f data parity stop s) := by
  rw [exec_characterReceived data parity stop hr rfl]
  simp only [sampledByte_nil, sampleOr_nil]

theorem exec_falseStart {n : Nat} {heard : List Span} (hr : (s.slice b).line.receiver = .frame f n heard) :
    exec (.falseStart b) s =
      .next (if sampleOr heard n 0 true then s.withLine b { (s.slice b).line with receiver := .hunt } else s) := by
  change execFalseStart b s = _
  unfold execFalseStart
  rw [hr]
  rfl

theorem takeCharacter_stop {data : Byte} {parity : Bool} :
    takeCharacter b f data parity true s =
      handEntry b ⟨if f.parityRight (f.received data) parity then .data else .parity, f.received data⟩
        (s.withLine b { (s.slice b).line with receiver := .hunt }) := rfl

theorem takeCharacter_deferred {data : Byte} {parity : Bool} {low : LowPeriod} (hl : (s.slice b).line.lowPeriod = some low)
    (ho : low.ownStart = true) :
    takeCharacter b f data parity false s = s.withLine b { (s.slice b).line with receiver := .holdLow true } := by
  simp only [takeCharacter, Bool.false_eq_true, if_false]
  exact if_pos (by simp [hl, ho])

theorem takeCharacter_framing {data : Byte} {parity : Bool}
    (hl : ∀ low, (s.slice b).line.lowPeriod = some low → low.ownStart = false) :
    takeCharacter b f data parity false s =
      handEntry b ⟨.framing, f.received data⟩ (s.withLine b { (s.slice b).line with receiver := .holdLow false }) := by
  simp only [takeCharacter, Bool.false_eq_true, if_false]
  refine if_neg ?_
  cases h : (s.slice b).line.lowPeriod with
  | none => simp
  | some low => simp [hl low h]

/-- A frame that hears an element with its own framing and divisor receives the character sent, as DATA (R19). -/
theorem exec_characterReceived_heard {n : Nat} {sent v : Byte} (data : Byte) (parity stop : Bool) (hn : 32 ≤ n) (h8 : f.dataBits ≤ 8)
    (hstop : 1 ≤ f.stopBits) (hr : (s.slice b).line.receiver = .frame f n ((f.frame sent).map fun x => ⟨x, n⟩))
    (hv : ∀ i, i < 8 → v.getLsbD i = (decide (i < f.dataBits) && sent.getLsbD i)) :
    exec (.characterReceived b data parity stop) s =
      .next (handEntry b ⟨.data, v⟩ (s.withLine b { (s.slice b).line with receiver := .hunt })) := by
  have hbits : ∀ i, i < 8 → v.getLsbD i =
      (decide (i < f.dataBits) && (sampledByte ((f.frame sent).map fun x => ⟨x, n⟩) n data).getLsbD i) := by
    intro i hi
    rw [hv i hi, getLsbD_sampledByte _ _ _ hi]
    by_cases hd : i < f.dataBits
    · rw [sampleOr_heard hn (f.frame_data sent hd)]
    · rw [decide_eq_false hd, Bool.false_and, Bool.false_and]
  have hparity : f.parityRight v (sampleOr ((f.frame sent).map fun x => ⟨x, n⟩) n (1 + f.dataBits) parity) = true := by
    by_cases hp : f.parity = .none
    · simp [Framing.parityRight, hp]
    · rw [sampleOr_heard hn (f.frame_parity sent (if_neg hp)), Framing.parityRight, Framing.dataOf_congr h8 hv]
      simp
  rw [exec_characterReceived data parity stop hr (sampleOr_heard hn (f.frame_start sent) false),
    sampleOr_heard hn (f.frame_stop sent hstop), takeCharacter_stop, Framing.received_eq hbits, hparity]
  rfl

/-- The part of R46 that O16 repeats: a full ring loses its oldest entry, with the cursor that stood there. -/
theorem History.append_eq (h : History) (e : HistoryEntry) (full : Bool) (hf : full = decide (h.pages * 1024 ≤ h.entries.length)) :
    h.append e = { h with
      entries := (if full then h.entries.drop 1 else h.entries) ++ [e]
      next := h.next + 1
      idleExpired := false
      stream := if full then h.stream.map fun st =>
          if st.cursor = h.next - BitVec.ofNat 32 h.entries.length then
            { st with cursor := st.cursor + 1, gap := min (st.gap + 1) 4294967295 } else st
        else h.stream } := by
  subst hf
  rcases Nat.lt_or_ge h.entries.length h.capacity with hroom | hfull
  · rw [History.append_of_room hroom, decide_eq_false (show ¬ h.pages * 1024 ≤ h.entries.length from hroom.not_ge)]
    rfl
  · rw [History.append_of_full hfull, decide_eq_true (show h.pages * 1024 ≤ h.entries.length from hfull)]
    rfl

/-- A falling edge of the internal signal: with nothing low left to drive none comes about, and otherwise the character hears what is left
from the fall on (R19). -/
theorem exec_startEdge_internal {xs : List Span} (hloop : (s.slice b).line.config.loopback = true)
    (hlow : (s.slice b).line.lowPeriod = none) (hx : (s.slice b).line.looped = some xs) :
    (fromFall xs = [] → exec (.startEdge b true) s = .next s) ∧
    (fromFall xs ≠ [] → exec (.startEdge b true) s = .next (s.withLine b ((s.slice b).line.fall true))) := by
  refine ⟨fun h => exec_startEdge_none (by simp [Line.canFall, Line.course, hx, h]), fun h => ?_⟩
  rw [exec_startEdge (by simp [Line.canFall, Line.course, hx, h, hlow]), if_pos hloop]
  rfl

/-- Settles O16: the frame's samples are the event's where no element is heard and the element's where one is, and an entry handed on is the
append and then the consumers. -/
theorem charactersAreReceived : Obligations.CharactersAreReceived := by
  unfold Obligations.CharactersAreReceived
  refine ⟨fun s b => ⟨fun hloop hpin hrun hhunt => ?_, fun f n hr => exec_falseStart hr⟩,
    fun s b f n data parity hr => ⟨fun hp h8 hroom hh hd hm hw => ?_, fun low hl ho => ?_, fun v right h8 hv hright => ⟨?_, fun hown => ?_⟩⟩,
    fun s b e h full hh hf => ?_, fun s b l hl hloop => ⟨?_, fun xs fallen hlow hx hfall => ⟨fun hnone => ?_, fun hsome hrun hhunt => ?_⟩,
    fun f n sent v data parity stop hn h8 hstop hr hv => ⟨?_, ?_⟩⟩⟩
  · rw [exec_startEdge (by simpa [Line.canFall] using hpin), if_pos hloop]
    exact congrArg (fun l => Host.Outcome.next (s.withLine b l))
      (Line.fall_hunt (l := { (s.slice b).line with conRx := false }) hrun hhunt)
  · have hvalue : f.received data = data := Framing.received_eq fun i hi => by simp [h8, hi]
    have hcount : ((s.slice b).line.rate.window.count .data).characters = (s.slice b).line.rate.window.characters + 1 := by
      simp only [WindowCounts.count, bump, Config.counterMax]
      omega
    have hright : f.parityRight data parity = true := by simp [Framing.parityRight, hp]
    rw [exec_characterReceived_unheard data parity true hr, takeCharacter_stop, hvalue, hright, if_pos rfl,
      handEntry_unheard (by simpa [State.withLine] using hroom) (by simpa [State.withLine] using hh)
        (by simpa [State.withLine] using hd) (.inr (by simpa [State.withLine] using hm)) (by simpa [hcount] using hw)]
    have hbump : (s.slice b).line.rate.window.count .data =
        { (s.slice b).line.rate.window with characters := (s.slice b).line.rate.window.characters + 1 } := by
      rw [← hcount]
      rfl
    simp [State.withLine, hbump]
  · rw [exec_characterReceived_unheard data parity false hr, takeCharacter_deferred hl ho]
  · rw [exec_characterReceived_unheard data parity true hr, takeCharacter_stop, Framing.received_eq hv, Framing.parityRight_eq,
      Framing.dataOf_congr h8 hv, hright]
    rfl
  · rw [exec_characterReceived_unheard data parity false hr, takeCharacter_framing hown, Framing.received_eq hv]
  · subst hh
    rw [handEntry_history, History.append_eq _ e full hf]
  · subst hl
    by_cases hpin : (s.slice b).line.conRx = true
    · rw [exec_startEdge (by simpa [Line.canFall] using hpin), if_neg (by simp [hloop])]
      rfl
    · have hpin : (s.slice b).line.conRx = false := by simpa using hpin
      rw [exec_startEdge_none (by simpa [Line.canFall] using hpin), withLine_same]
      rw [← hpin]
  · subst hl hfall
    exact (exec_startEdge_internal hloop hlow hx).1 hnone
  · subst hl hfall
    rw [(exec_startEdge_internal hloop hlow hx).2 hsome, Line.fall_hunt hrun hhunt, Line.course, hx]
    rfl
  · subst hl
    exact exec_characterReceived_heard data parity stop hn h8 hstop hr hv
  · subst hl
    rw [exec_falseStart hr, sampleOr_heard hn (f.frame_start sent)]
    rfl

end Sys2Proof.Machine
end

section
/-! PROOFS. The statement of chapters 1 and 2 about the end of a low period (R5, R19, R26, R32 to R35): what the edge delivers, what the
break judgement makes of it, and what tracking does with a pulse. -/

namespace Sys2Proof.Machine

variable {s : State} {b : Bay} {l : Line} {len c : Nat} {r : RateUnit}

theorem withRate_same (h : r = (s.slice b).line.rate) : s.withRate b r = s := by
  subst h
  exact withLine_same rfl

/-! ## The edge (R19, R26) -/

/-- An edge that is not observed reaches the pin at most (R19). -/
theorem exec_lowPulseEnd_unobserved {internal : Bool} (length : Nat) (h : internal ≠ (s.slice b).line.config.loopback) :
    exec (.lowPulseEnd b internal length) s =
      .next (if internal then s else s.withLine b { (s.slice b).line with conRx := true }) := by
  change execLowPulseEnd b internal length s = _
  have ho : (s.slice b).line.observes internal = false := by simpa [Line.observes] using h.symm
  unfold execLowPulseEnd
  simp only [ho]
  cases internal
  case true => rfl
  case false =>
    cases hp : (s.slice b).line.conRx
    · rfl
    · exact congrArg Host.Outcome.next (withLine_same (by rw [← hp])).symm

/-- An edge that is observed delivers the pulse (R26). -/
theorem exec_lowPulseEnd_observed {internal : Bool} (length : Nat) (h : internal = (s.slice b).line.config.loopback)
    (hp : internal = false → (s.slice b).line.conRx = false) :
    exec (.lowPulseEnd b internal length) s = .next (risePulse b ((s.slice b).line.pulseLength length)
      (if internal then s else s.withLine b { (s.slice b).line with conRx := true })) := by
  change execLowPulseEnd b internal length s = _
  have ho : (s.slice b).line.observes internal = true := by simp [Line.observes, h]
  unfold execLowPulseEnd
  simp only [ho]
  cases internal
  case true => rfl
  case false => rw [hp rfl]; rfl

theorem risePulse_running {low : LowPeriod} (hrun : (s.slice b).line.rate.detection = none) (hl : (s.slice b).line.lowPeriod = some low) :
    risePulse b len s = judgeBreak b len low.charTime (decide ((s.slice b).line.receiver = .holdLow true))
      (trackingPulse b len low.charTime
        (s.withLine b { (s.slice b).line with lowPeriod := none, receiver := (s.slice b).line.receiver.rise })) := by
  unfold risePulse
  simp only [hrun, hl, modLine_eq_withLine, withLine_line, withLine_withLine]

theorem judgeBreak_eq (deferred : Bool) :
    judgeBreak b len c deferred s = if c < len then handEntry b ⟨.brk, BitVec.ofNat 8 (min (len / c) 255)⟩ s
      else if deferred = true then handEntry b ⟨.framing, 0⟩ s else s := rfl

/-- The pulse a RUNNING line takes: tracking first, then the judgement (log entry 21). -/
theorem exec_lowPulseEnd_running {internal : Bool} {length : Nat} {low : LowPeriod} (hi : internal = (s.slice b).line.config.loopback)
    (hp : internal = false → (s.slice b).line.conRx = false) (hrun : (s.slice b).line.rate.detection = none)
    (hl : (s.slice b).line.lowPeriod = some low) (hlen : len = min (low.length.getD length) 16777215) :
    exec (.lowPulseEnd b internal length) s = .next (judgeBreak b len low.charTime (decide ((s.slice b).line.receiver = .holdLow true))
      (trackingPulse b len low.charTime (s.withLine b { (s.slice b).line with
        conRx := if internal then (s.slice b).line.conRx else true
        lowPeriod := none
        receiver := (s.slice b).line.receiver.rise }))) := by
  rw [exec_lowPulseEnd_observed length hi hp, Line.pulseLength, hl]
  subst hlen
  cases internal
  case true => exact congrArg Host.Outcome.next (risePulse_running hrun hl)
  case false =>
    refine congrArg Host.Outcome.next ((risePulse_running (by simpa using hrun) (by simpa using hl)).trans ?_)
    simp [Config.edgeTimerMax]

/-! ## Tracking (R32 to R35) -/

/-- A step that stays within the bounds clears the drift mark: a mark stands only where B is at a bound (R34). -/
theorem driftAfter_up {lo hi : Nat} {x : Stepping} (h : x.Wf lo hi) (hb : x.b < hi) : driftAfter lo hi (x.b + 1) x.drift = .none := by
  cases hx : x.drift with
  | none => rfl
  | lower => exact if_neg (by have := h.lower hx; omega)
  | upper => exact absurd (h.upper hx) (by omega)

theorem driftAfter_down {lo hi : Nat} {x : Stepping} (h : x.Wf lo hi) (hb : lo < x.b) : driftAfter lo hi (x.b - 1) x.drift = .none := by
  cases hx : x.drift with
  | none => rfl
  | lower => exact absurd (h.lower hx) (by omega)
  | upper => exact if_neg (by have := h.upper hx; omega)

theorem stepUp_within {lo hi : Nat} (n : Nat) : ∀ x : Stepping, x.Wf lo hi → x.flagged = false → x.b + n ≤ hi →
    stepUp lo hi n x = ⟨x.b + n, x.a - 256 * n, if n = 0 then x.drift else .none, false⟩ := by
  induction n with
  | zero => rintro ⟨xb, a, d, v⟩ _ rfl _; simp [stepUp]
  | succ n ih =>
    intro x h hf hn
    have hb := h.divisor
    rw [stepUp, if_neg (by omega), driftAfter_up h (by omega), ih ⟨x.b + 1, x.a - 256, .none, x.flagged⟩
      ⟨by simp only; omega, by simp, by simp⟩ hf (by simp only; omega)]
    simp only [ite_self, Nat.add_one_ne_zero, if_false, Stepping.mk.injEq, and_true]
    push_cast
    omega

theorem stepUp_bound {lo hi : Nat} (n : Nat) : ∀ x : Stepping, x.Wf lo hi → hi < x.b + n →
    stepUp lo hi n x = ⟨hi, 255, .upper, decide (x.drift ≠ .upper)⟩ := by
  induction n with
  | zero => intro x h hn; have := h.divisor; omega
  | succ n ih =>
    intro x h hn
    have hb := h.divisor
    rw [stepUp]
    split
    case isTrue hhi => rw [show x.b = hi by omega]
    case isFalse hhi =>
      have hx : x.drift ≠ .upper := fun hx => by have := h.upper hx; omega
      rw [driftAfter_up h (by omega), ih ⟨x.b + 1, x.a - 256, .none, x.flagged⟩ ⟨by simp only; omega, by simp, by simp⟩
        (by simp only; omega)]
      simp [hx]

theorem stepDown_within {lo hi : Nat} (n : Nat) : ∀ x : Stepping, x.Wf lo hi → x.flagged = false → lo + n ≤ x.b →
    stepDown lo hi n x = ⟨x.b - n, x.a + 256 * n, if n = 0 then x.drift else .none, false⟩ := by
  induction n with
  | zero => rintro ⟨xb, a, d, v⟩ _ rfl _; simp [stepDown]
  | succ n ih =>
    intro x h hf hn
    have hb := h.divisor
    rw [stepDown, if_neg (by omega), driftAfter_down h (by omega), ih ⟨x.b - 1, x.a + 256, .none, x.flagged⟩
      ⟨by simp only; omega, by simp, by simp⟩ hf (by simp only; omega)]
    simp only [ite_self, Nat.add_one_ne_zero, if_false, Stepping.mk.injEq, and_true]
    push_cast
    omega

theorem stepDown_bound {lo hi : Nat} (n : Nat) : ∀ x : Stepping, x.Wf lo hi → x.b < lo + n →
    stepDown lo hi n x = ⟨lo, -255, .lower, decide (x.drift ≠ .lower)⟩ := by
  induction n with
  | zero => intro x h hn; have := h.divisor; omega
  | succ n ih =>
    intro x h hn
    have hb := h.divisor
    rw [stepDown]
    split
    case isTrue hlo => rw [show x.b = lo by omega]
    case isFalse hlo =>
      have hx : x.drift ≠ .lower := fun hx => by have := h.lower hx; omega
      rw [driftAfter_down h (by omega), ih ⟨x.b - 1, x.a + 256, .none, x.flagged⟩ ⟨by simp only; omega, by simp, by simp⟩
        (by simp only; omega)]
      simp [hx]

theorem trackingPulse_discarded (hr : r = (s.slice b).line.rate)
    (h : r.mode = .manual ∨ c < len ∨ wholeBits len r.divisor < 1 ∨ 10 < wholeBits len r.divisor) : trackingPulse b len c s = s := by
  subst hr
  exact if_pos h

theorem trackingPulse_rejected (hr : r = (s.slice b).line.rate)
    (h : ¬(r.mode = .manual ∨ c < len ∨ wholeBits len r.divisor < 1 ∨ 10 < wholeBits len r.divisor))
    (he : r.divisor / 4 < ((len : Int) - (wholeBits len r.divisor * r.divisor : Nat)).natAbs) :
    trackingPulse b len c s = s.withRate b { r with rejected := min (r.rejected + 1) 65535 } := by
  subst hr
  exact (if_neg h).trans (if_pos he)

theorem trackingPulse_hold (hr : r = (s.slice b).line.rate)
    (h : ¬(r.mode = .manual ∨ c < len ∨ wholeBits len r.divisor < 1 ∨ 10 < wholeBits len r.divisor))
    (he : ¬ r.divisor / 4 < ((len : Int) - (wholeBits len r.divisor * r.divisor : Nat)).natAbs) (hm : r.mode = .hold) :
    trackingPulse b len c s = s := by
  subst hr
  exact (if_neg h).trans ((if_neg he).trans (if_pos hm))

/-- In TRACK the residual joins A, and B is stepped until A is back in its range (R33, R34). -/
theorem trackingPulse_stepped {x : Stepping} (hr : r = (s.slice b).line.rate)
    (h : ¬(r.mode = .manual ∨ c < len ∨ wholeBits len r.divisor < 1 ∨ 10 < wholeBits len r.divisor))
    (he : ¬ r.divisor / 4 < ((len : Int) - (wholeBits len r.divisor * r.divisor : Nat)).natAbs) (hm : r.mode ≠ .hold)
    (hx : stepDivisor (trackMin r.lock) (trackMax r.lock)
      ⟨r.divisor, r.acc + ((len : Int) - (wholeBits len r.divisor * r.divisor : Nat)), r.drift, false⟩ = x) :
    trackingPulse b len c s = setFlagIf x.flagged b .rateDrift (s.withRate b { r with divisor := x.b, acc := x.a, drift := x.drift }) := by
  subst hr hx
  exact (if_neg h).trans ((if_neg he).trans (if_neg hm))

theorem stepDivisor_up {lo hi : Nat} {x : Stepping} (h : 0 ≤ x.a) : stepDivisor lo hi x = stepUp lo hi (x.a.natAbs / 256) x := if_pos h

theorem stepDivisor_down {lo hi : Nat} {x : Stepping} (h : x.a < 0) : stepDivisor lo hi x = stepDown lo hi (x.a.natAbs / 256) x :=
  if_neg (by omega)

theorem tracking_takes {k : Nat} (hm : r.mode ≠ .manual) (hc : len ≤ c) (h1 : 1 ≤ k) (h10 : k ≤ 10) :
    ¬(r.mode = .manual ∨ c < len ∨ k < 1 ∨ 10 < k) := by
  simp only [not_or, not_lt]
  exact ⟨hm, hc, h1, h10⟩

theorem setFlagIf_ne {d m : DriftMark} (f : BayFlag) : setFlagIf (decide (d ≠ m)) b f s = if d = m then s else setFlag b f s := by
  by_cases h : d = m <;> simp [setFlagIf, h]

/-- What O17 states of tracking, for a pulse and a line. -/
theorem trackingPulse_spec {k lo hi : Nat} {e : Int} (hr : r = (s.slice b).line.rate) (hw : r.Wf)
    (hlo : lo = trackMin r.lock) (hhi : hi = trackMax r.lock) (hk : k = wholeBits len r.divisor)
    (he : e = (len : Int) - (k * r.divisor : Nat)) (hm : r.mode = .track) (hc : len ≤ c) (h1 : 1 ≤ k) (h10 : k ≤ 10)
    (hres : e.natAbs ≤ r.divisor / 4) {a : Int} {m : Nat} (ha : a = r.acc + e) (hsteps : m = a.natAbs / 256) :
    (0 ≤ a → r.divisor + m ≤ hi → trackingPulse b len c s =
      s.withRate b { r with divisor := r.divisor + m, acc := a - 256 * m, drift := if m = 0 then r.drift else .none }) ∧
    (0 ≤ a → hi < r.divisor + m → ∀ u, u = s.withRate b { r with divisor := hi, acc := 255, drift := .upper } →
      trackingPulse b len c s = if r.drift = .upper then u else setFlag b .rateDrift u) ∧
    (a < 0 → lo + m ≤ r.divisor → trackingPulse b len c s =
      s.withRate b { r with divisor := r.divisor - m, acc := a + 256 * m, drift := if m = 0 then r.drift else .none }) ∧
    (a < 0 → r.divisor < lo + m → ∀ u, u = s.withRate b { r with divisor := lo, acc := -255, drift := .lower } →
      trackingPulse b len c s = if r.drift = .lower then u else setFlag b .rateDrift u) := by
  have hgo := tracking_takes (r := r) (by simp [hm]) hc h1 h10
  have hx : Stepping.Wf lo hi ⟨r.divisor, a, r.drift, false⟩ := by
    subst hlo hhi
    exact ⟨hw.divisor, hw.lower, hw.upper⟩
  have hstep {x : Stepping} (h : stepDivisor lo hi ⟨r.divisor, a, r.drift, false⟩ = x) :
      trackingPulse b len c s =
        setFlagIf x.flagged b .rateDrift (s.withRate b { r with divisor := x.b, acc := x.a, drift := x.drift }) := by
    subst hlo hhi hk ha
    rw [he] at h hres
    exact trackingPulse_stepped hr hgo hres.not_gt (by simp [hm]) h
  subst hsteps
  refine ⟨fun h0 hb => ?_, fun h0 hb u hu => ?_, fun h0 hb => ?_, fun h0 hb u hu => ?_⟩
  · rw [hstep ((stepDivisor_up h0).trans (stepUp_within _ _ hx rfl hb))]
    rfl
  · rw [hstep ((stepDivisor_up h0).trans (stepUp_bound _ _ hx hb)), setFlagIf_ne, hu]
  · rw [hstep ((stepDivisor_down h0).trans (stepDown_within _ _ hx rfl hb))]
    rfl
  · rw [hstep ((stepDivisor_down h0).trans (stepDown_bound _ _ hx hb)), setFlagIf_ne, hu]

/-- Settles O17: the pulse of an observed edge goes to tracking and then to the judgement, and tracking's steps are summed up by whether they
stay within the bounds. -/
theorem lowPulseIsJudged : Obligations.LowPulseIsJudged := by
  unfold Obligations.LowPulseIsJudged
  refine ⟨fun s b length low hloop hpin hrun hman hl hlen => ⟨fun hle hmax hr => ?_, fun hlt hmax hr hroom hh hd hw hb => ?_⟩,
    fun s b internal length l hl => ⟨fun hi => ?_, fun low len u hi hp hrun hlow hlen hu => ?_⟩,
    fun s b len c k lo hi e r hr hw hlo hhi hk he => ⟨fun h => ?_, fun hm hc h1 h10 => ⟨fun hres => ?_, fun hres hhold => ?_,
      fun hres htrack a m ha hsteps => ?_⟩⟩⟩
  · rw [exec_lowPulseEnd_running (len := length) hloop.symm (fun _ => hpin) hrun hl (by simp [hlen, hmax]),
      trackingPulse_discarded (r := (s.slice b).line.rate) (by simp) (.inl hman), judgeBreak_eq, if_neg hle.not_gt, if_neg (by simp [hr]), hr]
    rfl
  · rw [exec_lowPulseEnd_running (len := length) hloop.symm (fun _ => hpin) hrun hl (by simp [hlen, hmax]),
      trackingPulse_discarded (r := (s.slice b).line.rate) (by simp) (.inl hman), judgeBreak_eq, if_pos hlt,
      handEntry_unheard (by simpa [State.withLine] using hroom) (by simpa [State.withLine] using hh)
        (by simpa [State.withLine] using hd) (.inl (by simp)) (by simpa [WindowCounts.count] using hw)]
    have hbump : bump (s.slice b).line.rate.window.breaks = (s.slice b).line.rate.window.breaks + 1 := Nat.min_eq_left hb
    simp [State.withLine, WindowCounts.count, hbump, hr, Receiver.rise]
  · subst hl
    exact exec_lowPulseEnd_unobserved length hi
  · subst hl hu
    rw [exec_lowPulseEnd_running hi hp hrun hlow hlen, judgeBreak_eq]
    simp only [decide_eq_true_eq]
    rfl
  · exact trackingPulse_discarded hr (by rw [hk] at h; simpa only [wholeBits, Nat.lt_one_iff] using h)
  · subst hk he
    exact trackingPulse_rejected hr (tracking_takes hm hc h1 h10) (by simpa [wholeBits] using hres)
  · subst hk he
    exact trackingPulse_hold hr (tracking_takes hm hc h1 h10) (by simpa [wholeBits] using hres) hhold
  · exact trackingPulse_spec hr hw hlo hhi hk (by rw [he]; push_cast; rfl) htrack hc h1 h10 hres ha hsteps

end Sys2Proof.Machine
end

section
/-! PROOFS. The statements of chapters 2 and 3 about RATE_SET, a detection's end and CREDIT and DETACH (R28 to R31, R38, R52 to R55): the
nearest table entry, what a detection's evaluation leaves, and what a pulse does to a detection. -/

namespace Sys2Proof.Machine

variable {s : State} {b : Bay} {l : Line} {tag : Byte}

/-! ## CREDIT, DETACH and the idle flush (R52 to R55) -/

theorem creditAct_attached {st : Stream} (n : Nat) (h : (s.slice b).history.stream = some st) :
    creditAct n b s = accept (s.withHistory b { (s.slice b).history with stream := some { st with credit := min (st.credit + n) 65535 } })
      (le2 (min (st.credit + n) 65535)) := by
  unfold creditAct
  rw [h]
  rfl

theorem creditAct_detached (n : Nat) (h : (s.slice b).history.stream = none) : creditAct n b s = refuse .state s := by
  unfold creditAct
  rw [h]

/-- Settles O26: the owner's two cases of CREDIT, and DETACH and the expiry, which have one. -/
theorem creditAndDetach : Obligations.CreditAndDetach := by
  unfold Obligations.CreditAndDetach
  refine fun s tag => ⟨fun ht => ⟨fun b n st h => ?_, fun b n h => ?_, fun b => ?_, fun line hl => ⟨fun n => ?_, ?_⟩⟩, fun b h => ?_,
    fun b => rfl⟩
  · exact congrArg Host.Outcome.next (takeRequest_onBay_accepted (kind := 0x1C) ht (creditAct_attached (s := toHunt s) n.toNat h))
  · exact congrArg Host.Outcome.next
      (takeRequest_onBay_refused (kind := 0x1C) (c := .state) ht (creditAct_detached (s := toHunt s) n.toNat h))
  · exact congrArg Host.Outcome.next
      (takeRequest_onBay_accepted (kind := 0x1D) (fields := []) ht (act := detachAct) (s := s) (b := b) rfl)
  · exact congrArg Host.Outcome.next (takeRequest_refused (kind := 0x1C) (c := .range) ht (onBay_above hl _ _))
  · exact congrArg Host.Outcome.next (takeRequest_refused (kind := 0x1D) (c := .range) ht (onBay_above hl _ _))
  · unfold Slice.eligible
    rw [h]

/-! ## RATE_SET (R38) -/

/-- A rate unit set to a divisor and an index in MANUAL (R38). -/
def RateUnit.set (n index : Nat) (r : RateUnit) : RateUnit :=
  { r with divisor := n, lock := n, index := index, acc := 0, drift := .none, mode := .manual }

theorem setRate_running (n index : Nat) (h : (s.slice b).line.rate.detection = none) :
    setRate n index b s = accept (s.withRate b ((s.slice b).line.rate.set n index)) (le4 n ++ le1 index ++ le4 (reportedRate n)) := by
  simp only [setRate, modLine_eq_withLine, State.withRate, RateUnit.set, h]

theorem setRate_cancels (n index : Nat) {q c : Nat} (h : (s.slice b).line.rate.detection = some ⟨none, q, c⟩) :
    setRate n index b s = accept (s.withLine b ((s.slice b).line.endDetection
        { (s.slice b).line.rate.set n index with record := ⟨.cancelled, none, none, none, none, some q, some c⟩ }))
      (le4 n ++ le1 index ++ le4 (reportedRate n)) := by
  simp only [setRate, modLine_eq_withLine, h]
  rfl

theorem exec_rateSet (tag line : Byte) (byDivisor : Bool) (value : BitVec 32) (s : State) :
    exec (.rateSet tag line (onOffByte byDivisor) value) s =
      .next (takeRequest 0x10 tag (onBay line (rateSetAct byDivisor value.toNat)) s) :=
  congrArg (fun act => Host.Outcome.next (takeRequest 0x10 tag act s)) (withField_onOffByte byDivisor _)

theorem rateSetAct_index {v n : Nat} (h : Config.divisorTable[v]? = some n) : rateSetAct false v b s = setRate n v b s := by
  have hv := (List.getElem?_eq_some_iff.mp h).1
  rw [rateSetAct, if_neg Bool.false_ne_true, if_pos hv, List.getD_eq_getElem?_getD, h]
  rfl

theorem rateSetAct_range {v : Nat} (h : 10 < v) : rateSetAct false v b s = refuse .range s := by
  rw [rateSetAct, if_neg Bool.false_ne_true, if_neg (by simp [Config.divisorTable, Config.rateTable]; omega)]

/-- Settles O18: the owner's three cases, and its two for the line's state. -/
theorem rateSetSetsTheRateInForce : Obligations.RateSetSetsTheRateInForce := by
  unfold Obligations.RateSetSetsTheRateInForce
  refine ⟨fun s tag b value ht hrun => ⟨?_, fun n hn => ?_, fun hv => ?_⟩, fun s tag b value q c ht hd => ?_⟩
  · refine (exec_rateSet tag _ true value s).trans (congrArg Host.Outcome.next ?_)
    exact takeRequest_onBay_accepted (kind := 0x10) ht
      (setRate_running (s := toHunt s) (clamp divisorMin divisorMax value.toNat) Config.customIndex hrun)
  · refine (exec_rateSet tag _ false value s).trans (congrArg Host.Outcome.next ?_)
    exact takeRequest_onBay_accepted (kind := 0x10) ht ((rateSetAct_index hn).trans (setRate_running (s := toHunt s) n value.toNat hrun))
  · refine (exec_rateSet tag _ false value s).trans (congrArg Host.Outcome.next ?_)
    exact takeRequest_onBay_refused (kind := 0x10) (c := .range) ht (rateSetAct_range hv)
  · refine (exec_rateSet tag _ true value s).trans (congrArg Host.Outcome.next ?_)
    exact takeRequest_onBay_accepted (kind := 0x10) ht
      (setRate_cancels (s := toHunt s) (clamp divisorMin divisorMax value.toNat) Config.customIndex hd)

/-! ## The nearest entry (R30) -/

/-- A best so far that no entry left is nearer than is the result. -/
theorem nearestFrom_best (w : Nat) (es : List Nat) (i : Nat) (best : Nat × Nat) (h : ∀ m ∈ es, best.2 ≤ ppmDistance w m) :
    nearestFrom w es i best = best := by
  induction es generalizing i with
  | nil => rfl
  | cons m rest ih =>
    rw [nearestFrom_cons, if_neg (h m List.mem_cons_self).not_gt]
    exact ih (i + 1) fun m' hm => h m' (List.mem_cons_of_mem _ hm)

/-- An entry nearer than the best so far and than every entry before it, and no farther than any after it, is the result. -/
theorem nearestFrom_entry (w : Nat) {k n : Nat} (es : List Nat) (i : Nat) (best : Nat × Nat) (hk : es[k]? = some n)
    (hbest : ppmDistance w n < best.2)
    (hall : ∀ j m : Nat, es[j]? = some m → ppmDistance w n < ppmDistance w m ∨ (ppmDistance w n = ppmDistance w m ∧ k ≤ j)) :
    nearestFrom w es i best = (i + k, ppmDistance w n) := by
  induction es generalizing i best k with
  | nil => simp at hk
  | cons m rest ih =>
    rw [nearestFrom_cons]
    cases k with
    | zero =>
      obtain rfl : m = n := by simpa using hk
      rw [if_pos hbest, nearestFrom_best]
      · rfl
      · intro m' hm
        obtain ⟨j, hj⟩ := List.getElem?_of_mem hm
        have := hall (j + 1) m' (by simpa using hj)
        dsimp only
        omega
    | succ k =>
      have h0 : ppmDistance w n < ppmDistance w m := (hall 0 m rfl).resolve_right (by omega)
      rw [ih (i + 1) _ (by simpa using hk) (by split; exacts [h0, hbest]) fun j m' hj => ?_, Nat.add_right_comm, Nat.add_assoc]
      have := hall (j + 1) m' (by simpa using hj)
      omega

theorem nearestEntry_eq (w : Nat) {k n : Nat} (hk : Config.divisorTable[k]? = some n)
    (hall : ∀ j m : Nat, Config.divisorTable[j]? = some m →
      ppmDistance w n < ppmDistance w m ∨ (ppmDistance w n = ppmDistance w m ∧ k ≤ j)) :
    nearestEntry w = (k, ppmDistance w n) := by
  have htable : Config.divisorTable = Config.divisorTable.headD 0 :: Config.divisorTable.drop 1 := rfl
  unfold nearestEntry
  rw [htable] at hk hall
  cases k with
  | zero =>
    obtain rfl : Config.divisorTable.headD 0 = n := by simpa using hk
    refine nearestFrom_best w _ _ _ fun m hm => ?_
    obtain ⟨j, hj⟩ := List.getElem?_of_mem hm
    have := hall (j + 1) m (by simpa using hj)
    omega
  | succ k =>
    have h0 := (hall 0 _ rfl).resolve_right (by omega)
    rw [nearestFrom_entry w (k := k) _ _ _ (by simpa using hk) h0 fun j m hj => ?_, Nat.add_comm]
    have := hall (j + 1) m (by simpa using hj)
    omega

/-! ## The end of a detection (R29 to R31) -/

theorem exec_detectionWindowExpiry_noSignal {w : Option Nat} {q c : Nat} (hc : c < 2)
    (h : (s.slice b).line.rate.detection = some ⟨w, q, c⟩) :
    exec (.detectionWindowExpiry b) s =
      .next (failDetection b ⟨.noSignal, none, none, none, none, some q, some c⟩ s) := by
  change execDetectionWindowExpiry b s = _
  unfold execDetectionWindowExpiry
  rw [h]
  cases w with
  | none => rfl
  | some w => exact congrArg Host.Outcome.next (if_neg hc.not_ge)

/-- What a detection that holds W_min comes to, by the d of the entry found and the line's custom-rate allowance. -/
theorem concludeDetection_table {k d w q c n : Nat} (hd : d ≤ 40000) (hk : Config.divisorTable[k]? = some n) :
    concludeDetection b (k, d) w q c s = lockLine b n k ⟨.table, some k, some w, some k, some d, some q, some c⟩ s := by
  unfold concludeDetection
  rw [if_pos (show (k, d).2 ≤ ppmLimit from hd), List.getD_eq_getElem?_getD, hk]
  rfl

theorem concludeDetection_custom {k d w q c : Nat} (hd : 40000 < d) (hc : (s.slice b).line.config.customRate = true) :
    concludeDetection b (k, d) w q c s =
      lockLine b (max 32 (min w 1048575)) 255 ⟨.custom, some 255, some w, some k, some d, some q, some c⟩ s :=
  (if_neg hd.not_ge).trans (if_pos hc)

theorem concludeDetection_failed {k d w q c : Nat} (hd : 40000 < d) (hc : (s.slice b).line.config.customRate = false) :
    concludeDetection b (k, d) w q c s = failDetection b ⟨.failed, none, some w, some k, some d, some q, some c⟩ s :=
  (if_neg hd.not_ge).trans (if_neg (by simp [hc]))

/-! ## A pulse delivered to a detection (R28) -/

theorem detectionPulse_ignored {len : Nat} {d : Detection} (h : len < 32 ∨ len = 16777215) : detectionPulse b len d s = s := if_pos h

/-- A pulse that qualifies makes its steps, is activity, and may end the detection. -/
theorem detectionPulse_counted {len : Nat} {d : Detection} (h : ¬(len < 32 ∨ len = 16777215)) :
    detectionPulse b len d s =
      if 8 ≤ (d.step len).q ∧ 4 ≤ (d.step len).c then
        evaluateDetection b ((d.step len).wMin.getD len) (d.step len).q (d.step len).c
          (outputActivity b (s.withRate b { (s.slice b).line.rate with detection := some (d.step len) }))
      else outputActivity b (s.withRate b { (s.slice b).line.rate with detection := some (d.step len) }) := if_neg h

theorem Detection.step_wMin (d : Detection) (len : Nat) : ∃ w, (d.step len).wMin = some w := by
  unfold Detection.step
  split
  · exact ⟨_, rfl⟩
  · split_ifs <;> exact ⟨_, rfl⟩

/-- The steps of R28 by the place of the pulse against W_min. -/
theorem Detection.step_eq {d e : Detection} {len : Nat} (hnone : d.wMin = none → e = ⟨some len, min (d.q + 1) 65535, 1⟩)
    (hsome : ∀ w, d.wMin = some w →
      (max len w - min len w ≤ w / 8 → e = ⟨some (min w len), min (d.q + 1) 65535, min (d.c + 1) 65535⟩) ∧
      (w / 8 < max len w - min len w → len < w → e = ⟨some len, min (d.q + 1) 65535, 1⟩) ∧
      (w / 8 < max len w - min len w → w < len → e = ⟨some w, min (d.q + 1) 65535, d.c⟩)) : d.step len = e := by
  unfold Detection.step
  split
  case h_1 h => exact (hnone h).symm
  case h_2 w h =>
    obtain ⟨hnear, hbelow, habove⟩ := hsome w h
    have hdiff : absDiff len w = max len w - min len w := rfl
    split_ifs with h1 h2
    · exact (hnear h1).symm
    · exact (hbelow (not_le.mp h1) h2).symm
    · refine (habove (not_le.mp h1) (Nat.lt_of_le_of_ne (not_lt.mp h2) ?_)).symm
      rintro rfl
      simp [absDiff] at h1

/-- A detection that has the pulses it wants ends as at its window's expiry. -/
theorem exec_detectionWindowExpiry_full {d : Detection} {len : Nat} (hd : (s.slice b).line.rate.detection = some d)
    (hw : ∃ w, d.wMin = some w) (hc : 4 ≤ d.c) :
    exec (.detectionWindowExpiry b) s = .next (evaluateDetection b (d.wMin.getD len) d.q d.c s) := by
  obtain ⟨w, hw⟩ := hw
  rw [exec_detectionWindowExpiry_evaluates (w := w) (q := d.q) (c := d.c) (by omega) (by rw [hd, ← hw]), hw]
  rfl

theorem outputActivity_eq (b : Bay) (s : State) :
    outputActivity b s = s.withMonitor b
      (if (s.slice b).monitor.settings.source = .anyOutput ∧
          ((s.slice b).monitor.state = .grace ∨ (s.slice b).monitor.state = .watching ∨ (s.slice b).monitor.state = .expired) then
        { (s.slice b).monitor with state := .watching, timer := some (s.slice b).monitor.settings.period }
      else (s.slice b).monitor) := by
  change s.withMonitor b _ = _
  congr 1
  beta_reduce
  by_cases hs : (s.slice b).monitor.settings.source = .anyOutput
  · rw [if_pos hs]
    unfold Monitor.activity
    cases hm : (s.slice b).monitor.state <;> simp [hs]
  · rw [if_neg hs, if_neg (fun h => hs h.1)]

/-- The pulse that an observed edge delivers to a DETECTING line. -/
theorem exec_lowPulseEnd_detecting {internal : Bool} {length len : Nat} {low : LowPeriod} {d : Detection} {u : Line}
    (hi : internal = (s.slice b).line.config.loopback) (hp : internal = false → (s.slice b).line.conRx = false)
    (hd : (s.slice b).line.rate.detection = some d) (hl : (s.slice b).line.lowPeriod = some low)
    (hlen : len = min (low.length.getD length) 16777215)
    (hu : u = { (s.slice b).line with conRx := if internal then (s.slice b).line.conRx else true, lowPeriod := none }) :
    exec (.lowPulseEnd b internal length) s = .next (detectionPulse b len d (s.withLine b u)) := by
  have hrise : ∀ t : State, (t.slice b).line.rate.detection = some d → (t.slice b).line.lowPeriod = some low →
      risePulse b len t = detectionPulse b len d (t.withLine b { (t.slice b).line with lowPeriod := none }) := by
    intro t ht htl
    unfold risePulse
    simp only [ht, htl, modLine_eq_withLine]
  rw [exec_lowPulseEnd_observed length hi hp, Line.pulseLength, hl]
  subst hlen hu
  cases internal
  case true => exact congrArg Host.Outcome.next (hrise s hd hl)
  case false =>
    refine congrArg Host.Outcome.next ((hrise _ (by simpa using hd) (by simpa using hl)).trans ?_)
    simp

/-- Settles O21: the entry the statement describes is the one the search finds, and a pulse that ends the detection does so as the expiry. -/
theorem detectionWindowEnds : Obligations.DetectionWindowEnds := by
  unfold Obligations.DetectionWindowEnds
  intro s b l table dist hl htable hdist
  subst hl
  refine ⟨fun w q c k n d hc hd hk hn hall mode hmode => ?_, fun w q c hc hd => ?_,
    fun internal length len low d e m u hi hp hd hl hlen hu hm => ⟨fun hout => ?_, fun h32 hmax hnone hsome t ht => ?_⟩⟩
  · have hdivisors : Config.divisorTable = table := by
      rw [htable]
      rfl
    have hppm : ∀ x m, dist x m = ppmDistance x m := hdist
    have hnear : nearestEntry w = (k, d) := by
      rw [hn, hppm]
      exact nearestEntry_eq w (by rw [hdivisors, hk]) fun j m hj => by
        rw [← hppm, ← hppm, ← hn]
        exact hall j m (by rw [← hdivisors, hj])
    have hmode : (s.slice b).line.config.loopPolicy.mode = mode := by
      rw [hmode]
      cases (s.slice b).line.config.loopPolicy <;> rfl
    rw [exec_detectionWindowExpiry_evaluates hc hd, evaluateDetection, hnear]
    refine ⟨fun hle => ?_, fun hlt hcustom => ?_, fun hlt hcustom => ?_⟩
    · rw [concludeDetection_table hle (by rw [hdivisors, hk]), ← hmode]
      rfl
    · rw [concludeDetection_custom hlt hcustom, ← hmode]
      rfl
    · rw [concludeDetection_failed hlt hcustom]
      rfl
  · rw [exec_detectionWindowExpiry_noSignal hc hd]
    rfl
  · rw [exec_lowPulseEnd_detecting hi hp hd hl hlen hu, detectionPulse_ignored hout]
  · have hstep : d.step len = e := Detection.step_eq hnone hsome
    have hact : outputActivity b ((s.withLine b u).withRate b { u.rate with detection := some e }) = t := by
      rw [outputActivity_eq, ht, hm, hu]
      simp [State.withMonitor, State.withRate, State.withLine]
    rw [exec_lowPulseEnd_detecting hi hp hd hl hlen hu, detectionPulse_counted (by omega), hstep, withLine_line, hact]
    split
    case isTrue hends =>
      refine (exec_detectionWindowExpiry_full ?_ (hstep ▸ d.step_wMin len) hends.2).symm
      simp [ht]
    case isFalse => rfl

end Sys2Proof.Machine
end

section
/-! PROOFS. The statement of chapter 2 about QUALITY and the quality windows (R36, R37, R41): the fields of the reply, which parts of the
state and which flags the consumers of an entry before the window leave, and what a window's close does. -/

namespace Sys2Proof.Machine

variable {s : State} {b : Bay} {l : Line} {tag : Byte} {e : HistoryEntry} {f : BayFlag} {p : Part}

/-! ## QUALITY (R41) -/

theorem optional_eq {opt : Nat → (Nat → List Byte) → Option Nat → List Byte} (hs : ∀ k enc n, opt k enc (some n) = 1 :: enc n)
    (hn : ∀ k enc, opt k enc none = 0 :: List.replicate k 0) (k : Nat) (enc : Nat → List Byte) (v : Option Nat) :
    optional k enc v = opt k enc v := by
  cases v with
  | none => exact (hn k enc).symm
  | some n => exact (hs k enc n).symm

theorem deviation_eq (lock n : Nat) :
    deviation lock n = if lock < n then -(((2 * ((max lock n - min lock n) * 1000000) + n) / (2 * n) : Nat) : Int)
      else ((2 * ((max lock n - min lock n) * 1000000) + n) / (2 * n) : Nat) := by
  have habs : (((lock : Int) - (n : Int)) * 1000000).natAbs = (max lock n - min lock n) * 1000000 := by omega
  unfold deviation
  simp only [habs]
  by_cases h : lock < n
  · rw [if_pos h, if_pos (by omega)]
  · rw [if_neg h, if_neg (by omega)]

/-- The owner clears the rejected-pulse counter where it is asked to, and reports the unit as it was (R41). -/
theorem qualityAct_eq (clear : Bool) (b : Bay) (s : State) :
    qualityAct clear b s = accept
      (s.withRate b { (s.slice b).line.rate with rejected := if clear then 0 else (s.slice b).line.rate.rejected })
      (qualityAct clear b s).fields := by
  unfold qualityAct
  cases clear
  · exact congrArg (accept · _) (withRate_same rfl).symm
  · rfl

/-! ## The consumers before the window -/

/-- The state in which the quality window is presented an entry. -/
def presented (b : Bay) (e : HistoryEntry) (s : State) : State :=
  presentToMonitor b e (presentToPrompt b e (presentToHeartbeat b e (s.modHistory b fun h => h.append e)))

theorem handEntry_eq (b : Bay) (e : HistoryEntry) (s : State) : handEntry b e s = presentToWindow b e.kind (presented b e s) := rfl

/-- What neither the ring, the matchers, the responder, the monitor nor the transmit side is, these consumers leave. -/
theorem presented_same (hh : p ≠ .history b) (hb : p ≠ .heartbeat b) (hm : p ≠ .monitor b) (hr : p ≠ .responder b)
    (hs : p.sending b = false) : p.Same s (presented b e s) :=
  (modHistory_same hh).trans ((presentToHeartbeat_same hb hm).trans ((presentToPrompt_apart hr hs).trans (presentToMonitor_same hm)))

@[simp] theorem presented_rate (b : Bay) (e : HistoryEntry) (s : State) :
    ((presented b e s).slice b).line.rate = (s.slice b).line.rate :=
  presented_same (p := .rate b) (by simp) (by simp) (by simp) (by simp) rfl

@[simp] theorem presented_config (b : Bay) (e : HistoryEntry) (s : State) :
    ((presented b e s).slice b).line.config = (s.slice b).line.config :=
  presented_same (p := .lineConfig b) (by simp) (by simp) (by simp) (by simp) rfl

theorem flag_of_same {t : State} (h : (Part.flags b).Same s t) (f : BayFlag) : t.flag b f = s.flag b f :=
  congrArg (fun v : BitVec 19 => v.getLsbD f.bit) h

theorem flag_setFlag_ne {g : BayFlag} (h : f ≠ g) (s : State) : (setFlag b g s).flag b f = s.flag b f := by simp [flag_setFlag, h]

@[simp] theorem flag_setFlag_self (b : Bay) (f : BayFlag) (s : State) : (setFlag b f s).flag b f = true := by simp [flag_setFlag]

/-- The start of elements flags CTS_CHANGED and TX_DRAINED alone (R17, R18). -/
theorem startFrom_flag (hc : f ≠ .ctsChanged) (hd : f ≠ .txDrained) (q : List TxElement) :
    ∀ s, (startFrom b q s).flag b f = s.flag b f := by
  have hline (t : State) (g : Line → Line) : (t.modLine b g).flag b f = t.flag b f := flag_of_same (modSlice_same fun _ => rfl) f
  have hcts (t : State) : (ctsCheck b t).flag b f = t.flag b f := by
    unfold ctsCheck setFlagIf
    dsimp only
    split
    · rw [flag_setFlag_ne hc, hline]
    · rw [hline]
  have hdrain (t : State) : (drainCheck b t).flag b f = t.flag b f := by
    unfold drainCheck
    dsimp only
    split
    · rw [flag_setFlag_ne hd, hline]
    · rfl
  induction q with
  | nil => exact fun s => rfl
  | cons e rest ih =>
    intro s
    unfold startFrom
    dsimp only
    split
    · cases e with
      | data v => exact hline _ _
      | brk d => exact hline _ _
      | rts level => rw [ih, hdrain, hcts, hline]
    · rfl

theorem startTx_flag (hc : f ≠ .ctsChanged) (hd : f ≠ .txDrained) (s : State) : (startTx b s).flag b f = s.flag b f := by
  unfold startTx
  split
  · exact startFrom_flag hc hd _ s
  · rfl

/-- A match of the prompt matcher flags what became of the response, and what the start of its first byte flags (R68). -/
theorem promptMatch_flag (ha : f ≠ .promptAnswered) (hdr : f ≠ .promptDropped) (hc : f ≠ .ctsChanged) (hd : f ≠ .txDrained) (s : State) :
    (promptMatch b s).flag b f = s.flag b f := by
  have hresponder (t : State) (g : Responder → Responder) : (t.modResponder b g).flag b f = t.flag b f :=
    flag_of_same (modSlice_same fun _ => rfl) f
  unfold promptMatch
  dsimp only
  rw [startTx_flag hc hd, hresponder, disarmResponder, hresponder]
  split
  · rw [flag_setFlag_ne ha, flag_of_same (appendTx_same (by simp))]
  · rw [flag_setFlag_ne hdr]

theorem presented_flag (ha : f ≠ .promptAnswered) (hdr : f ≠ .promptDropped) (hc : f ≠ .ctsChanged) (hd : f ≠ .txDrained) (s : State) :
    (presented b e s).flag b f = s.flag b f := by
  have hprompt (t : State) : (presentToPrompt b e t).flag b f = t.flag b f := by
    unfold presentToPrompt
    dsimp only
    split
    · split
      · rw [promptMatch_flag ha hdr hc hd]
        exact flag_of_same (modSlice_same fun _ => rfl) f
      · exact flag_of_same (modSlice_same fun _ => rfl) f
    · rfl
  have hbefore : (Part.flags b).Same s (presentToHeartbeat b e (s.modHistory b fun h => h.append e)) :=
    (modHistory_same (by simp)).trans (presentToHeartbeat_same (by simp) (by simp))
  unfold presented
  rw [flag_of_same (presentToMonitor_same (by simp)), hprompt, flag_of_same hbefore]

@[simp] theorem flag_withRate (b : Bay) (r : RateUnit) (f : BayFlag) (s : State) : (s.withRate b r).flag b f = s.flag b f := by
  simp [State.flag, State.withRate, State.withLine]

/-! ## The window (R36, R37) -/

theorem presentToWindow_below {k : EntryKind}
    (h : ((s.slice b).line.rate.window.count k).characters < (s.slice b).line.config.window.characters) :
    presentToWindow b k s = s.withRate b { (s.slice b).line.rate with window := (s.slice b).line.rate.window.count k } :=
  if_neg h.not_ge

theorem presentToWindow_full {k : EntryKind}
    (h : (s.slice b).line.config.window.characters ≤ ((s.slice b).line.rate.window.count k).characters) :
    presentToWindow b k s = redetectCheck b ((s.slice b).line.rate.window.count k)
      (closeWindow b ((s.slice b).line.rate.window.count k) s) := if_pos h

theorem closeWindow_line (b : Bay) (w : WindowCounts) (s : State) :
    ((closeWindow b w s).slice b).line = { (s.slice b).line with
      rate := { (s.slice b).line.rate with window := {}, lastWindow := w, lastNumber := ((s.slice b).line.rate.lastNumber + 1) % 256 } } := by
  simp [closeWindow]

theorem closeWindow_flag (b : Bay) (w : WindowCounts) (f : BayFlag) (s : State) :
    (closeWindow b w s).flag b f = (decide (f = .qualityReady) || s.flag b f) := by
  unfold closeWindow
  rw [flag_setFlag, flag_of_same (modSlice_same fun _ => rfl)]
  simp

/-- The closed window has more errors than the line's threshold allows, and the line's mode lets it look for another rate (R37). -/
def Line.loses (l : Line) (w : WindowCounts) : Prop :=
  l.config.errorThreshold ≠ 0 ∧ l.config.errorThreshold < w.parityErrors + w.framingErrors ∧ l.rate.mode ≠ .manual

theorem redetectCheck_lost {w : WindowCounts} (h : (s.slice b).line.loses w) :
    redetectCheck b w s = (setFlag b .rateLost s).withSlice b ((setFlag b .rateLost s).slice b).detectionStarted :=
  (if_pos h).trans (startDetection_eq_withSlice b _)

theorem redetectCheck_kept {w : WindowCounts} (h : ¬ (s.slice b).line.loses w) : redetectCheck b w s = s := if_neg h

theorem flag_withSlice_detectionStarted (b : Bay) (f : BayFlag) (s : State) :
    (s.withSlice b (s.slice b).detectionStarted).flag b f = s.flag b f := by simp [State.flag, Slice.detectionStarted]

/-- The window's counts, kind by kind (R36). -/
theorem WindowCounts.count_eq (w : WindowCounts) (k : EntryKind) :
    w.count k = { characters := if k = .brk then w.characters else min (w.characters + 1) 65535
                  parityErrors := if k = .parity then min (w.parityErrors + 1) 65535 else w.parityErrors
                  framingErrors := if k = .framing then min (w.framingErrors + 1) 65535 else w.framingErrors
                  breaks := if k = .brk then min (w.breaks + 1) 65535 else w.breaks } := by
  cases k <;> rfl

/-- What O22 states of a full window, with the loss of the rate as a proposition. -/
theorem handEntry_closes {w : WindowCounts} (hw : (s.slice b).line.rate.window.count e.kind = w)
    (hfull : (s.slice b).line.config.window.characters ≤ w.characters) :
    (¬ (s.slice b).line.loses w → handEntry b e s = closeWindow b w (presented b e s)) ∧
    ((s.slice b).line.loses w → handEntry b e s =
      (setFlag b .rateLost (closeWindow b w (presented b e s))).withSlice b
        ((setFlag b .rateLost (closeWindow b w (presented b e s))).slice b).detectionStarted) := by
  have hloses : ((closeWindow b w (presented b e s)).slice b).line.loses w ↔ (s.slice b).line.loses w := by
    simp [Line.loses, closeWindow_line]
  have hclose : handEntry b e s = redetectCheck b w (closeWindow b w (presented b e s)) := by
    rw [handEntry_eq, presentToWindow_full (by simpa [hw] using hfull), presented_rate, hw]
  rw [hclose]
  exact ⟨fun h => redetectCheck_kept (hloses.not.mpr h), fun h => redetectCheck_lost (hloses.mpr h)⟩

theorem handEntry_below {w : WindowCounts} (hw : (s.slice b).line.rate.window.count e.kind = w)
    (hbelow : w.characters < (s.slice b).line.config.window.characters) :
    handEntry b e s = (presented b e s).withRate b { (s.slice b).line.rate with window := w } := by
  have hopen := presentToWindow_below (s := presented b e s) (b := b) (k := e.kind) (by simpa [hw] using hbelow)
  rwa [presented_rate, hw] at hopen

/-- What O22 states of a window that has not filled. -/
theorem handEntry_below_rate {w : WindowCounts} (hw : (s.slice b).line.rate.window.count e.kind = w)
    (hbelow : w.characters < (s.slice b).line.config.window.characters) :
    ((handEntry b e s).slice b).line.rate = { (s.slice b).line.rate with window := w } ∧
      (handEntry b e s).flag b .qualityReady = s.flag b .qualityReady ∧ (handEntry b e s).flag b .rateLost = s.flag b .rateLost := by
  rw [handEntry_below hw hbelow, flag_withRate, flag_withRate]
  exact ⟨by simp [State.withRate], presented_flag (by simp) (by simp) (by simp) (by simp) s,
    presented_flag (by simp) (by simp) (by simp) (by simp) s⟩

/-- What O22 states of a window that has filled. -/
theorem handEntry_closes_rate {w : WindowCounts} {lost : Bool} (hw : (s.slice b).line.rate.window.count e.kind = w)
    (hfull : (s.slice b).line.config.window.characters ≤ w.characters) (hlost : lost = true ↔ (s.slice b).line.loses w) :
    ((handEntry b e s).slice b).line.rate = { (s.slice b).line.rate with
        window := {}, lastWindow := w, lastNumber := ((s.slice b).line.rate.lastNumber + 1) % 256
        detection := if lost then some ⟨none, 0, 0⟩ else (s.slice b).line.rate.detection } ∧
      (handEntry b e s).flag b .qualityReady = true ∧ (handEntry b e s).flag b .rateLost = (lost || s.flag b .rateLost) ∧
      (lost = true → ((handEntry b e s).slice b).line.receiver = .waitHigh ∧ ((handEntry b e s).slice b).line.lowPeriod = none ∧
        ((handEntry b e s).slice b).heartbeat.j = 0 ∧ ((handEntry b e s).slice b).responder.j = 0) := by
  obtain ⟨hkept, hgone⟩ := handEntry_closes hw hfull
  have hrate : (presented b e s).flag b .rateLost = s.flag b .rateLost :=
    presented_flag (by simp) (by simp) (by simp) (by simp) s
  cases lost with
  | false =>
    rw [hkept (by simpa using hlost.not), closeWindow_line, closeWindow_flag, closeWindow_flag, hrate]
    simp
  | true =>
    rw [hgone (hlost.mp rfl), flag_withSlice_detectionStarted, flag_withSlice_detectionStarted, flag_setFlag_ne (by simp),
      flag_setFlag_self, closeWindow_flag, slice_withSlice_self]
    simp [Slice.detectionStarted, closeWindow_line]

/-- Settles O22: the reply's fields one by one, and a window's close after the consumers that touch neither its rate unit nor its flags. -/
theorem qualityReports : Obligations.QualityReports := by
  unfold Obligations.QualityReports
  refine ⟨fun s tag b clear r opt size dev ht hr hs hn hsize hdev => ?_, fun s t b e l w size lost hl ht hw hsize hlost =>
    ⟨fun hbelow => ?_, fun hfull => ?_⟩⟩
  · have hopt := optional_eq hs hn
    have hmode : r.mode.code = (match r.mode with | .manual => 0 | .track => 1 | .hold => 2) := by cases r.mode <;> rfl
    have hresult : r.record.result.code = (match r.record.result with
        | .none => 0 | .table => 1 | .custom => 2 | .failed => 3 | .noSignal => 4 | .cancelled => 5) := by
      cases r.record.result <;> rfl
    have hacc : twosComplement 16 r.acc = (r.acc % 65536).toNat := rfl
    have hrate : twosComplement 32 (deviation r.lock r.divisor) = (dev % 4294967296).toNat := by
      rw [deviation_eq, ← hsize, ← hdev]
      rfl
    have hreply := takeRequest_onBay_accepted (kind := 0x13) (act := qualityAct clear) (b := b)
      (t := s.withRate b { r with rejected := if clear then 0 else r.rejected }) ht
      ((qualityAct_eq clear b (toHunt s)).trans (by rw [hr]; rfl))
    refine (congrArg (fun act => Host.Outcome.next (takeRequest 0x13 tag act s)) (withField_onOffByte clear _)).trans
      ((congrArg Host.Outcome.next hreply).trans ?_)
    subst hr
    simp only [qualityAct, accept, toHunt_slice, hacc, hrate, hmode, WindowCounts.encode, DetectionRecord.encode, hresult, hopt,
      List.append_assoc]
    rfl
  all_goals
    have hcount : (s.slice b).line.rate.window.count e.kind = w := by rw [WindowCounts.count_eq, hw, hl]
    have hsize : (s.slice b).line.config.window.characters = size := by
      rw [hsize, hl]
      cases (s.slice b).line.config.window <;> rfl
    subst ht
  · rw [hl]
    exact handEntry_below_rate hcount (by rwa [hsize])
  · rw [hl]
    exact handEntry_closes_rate hcount (by rwa [hsize]) (by rw [hlost, decide_eq_true_iff, hl]; rfl)

end Sys2Proof.Machine
end

section
/-! PROOFS. The statement of chapter 4 about MATCH_SET, the matchers and the prompt responder (R62 to R69): what the matching rule gives,
what each consumer of an entry does to its own unit, and what a match of the prompt matcher does with its response. -/

namespace Sys2Proof.Machine

variable {s : State} {b : Bay} {l : Line} {tag : Byte} {e : HistoryEntry} {f : BayFlag} {p : Part} {k : Nat} {hit : Bool}

/-! ## The matching rule (R62) -/

/-- The greatest length at which an ending of the text begins the pattern is the one found. -/
theorem longestEnding_eq {text pattern : List Byte} {n : Nat} (hn : text.drop (text.length - n) = pattern.take n) :
    ∀ m, n ≤ m → (∀ i, n < i → i ≤ m → text.drop (text.length - i) ≠ pattern.take i) → longestEnding text pattern m = n := by
  intro m
  induction m with
  | zero => exact fun h _ => (Nat.le_zero.mp h).symm
  | succ m ih =>
    intro h hmax
    rw [longestEnding]
    by_cases hm : n = m + 1
    · rw [← hm, if_pos hn]
    · rw [if_neg (hmax (m + 1) (by omega) le_rfl)]
      exact ih (by omega) fun i hi him => hmax i hi (by omega)

theorem matchStep_eq {pattern : List Byte} {j : Nat} (h : MatchTaken pattern j e k hit) : matchStep pattern j e = (k, hit) := by
  obtain ⟨hno, hyes⟩ := h
  unfold matchStep
  by_cases hp : pattern = []
  · obtain ⟨rfl, rfl⟩ := hno (.inl hp)
    rw [if_pos (by simp [hp])]
  · rw [if_neg (by simpa using hp)]
    by_cases hk : e.kind = .data
    · obtain ⟨n, text, rfl, hn, heq, hmax, hres⟩ := hyes hp hk
      simp only [hk]
      rw [longestEnding_eq heq _ hn hmax]
      split at hres
      case isTrue hfull =>
        rw [if_pos hfull, hres.1, hres.2]
      case isFalse hpart =>
        rw [if_neg hpart, hres.1, hres.2]
    · obtain ⟨rfl, rfl⟩ := hno (.inr hk)
      cases hkind : e.kind <;> simp_all

/-! ## The consumers, each in its own unit -/

/-- The monitor after a heartbeat match (R66). -/
def Monitor.beat (m : Monitor) : Monitor :=
  if m.settings.source = .heartbeat then Monitor.activity { m with count := 0 } else { m with count := 0 }

theorem Monitor.activity_eq (m : Monitor) : m.activity =
    if m.state = .grace ∨ m.state = .watching ∨ m.state = .expired then
      { m with state := .watching, timer := some m.settings.period }
    else m := by
  unfold Monitor.activity
  cases h : m.state <;> simp

theorem presentToHeartbeat_slice (h : matchStep (s.slice b).heartbeat.pattern (s.slice b).heartbeat.j e = (k, hit)) :
    (presentToHeartbeat b e s).slice b = { s.slice b with
      heartbeat := { (s.slice b).heartbeat with j := k }
      monitor := if hit then (s.slice b).monitor.beat else (s.slice b).monitor } := by
  unfold presentToHeartbeat
  simp only [h]
  cases hit with
  | false => simp
  | true => simp [heartbeatMatch, Monitor.beat]

theorem presentToMonitor_slice (b : Bay) (e : HistoryEntry) (s : State) :
    (presentToMonitor b e s).slice b = { s.slice b with
      monitor := if e.kind = .data ∧ (s.slice b).monitor.settings.source = .anyOutput then (s.slice b).monitor.activity
        else (s.slice b).monitor } := by
  unfold presentToMonitor outputActivity
  by_cases hk : e.kind = .data <;> simp [hk]

theorem presentToPrompt_missed (ha : (s.slice b).responder.armed ≠ none)
    (h : matchStep (s.slice b).responder.pattern (s.slice b).responder.j e = (k, false)) :
    presentToPrompt b e s = s.modResponder b fun r => { r with j := k } := by
  unfold presentToPrompt
  simp only [h]
  rw [if_pos (Option.isSome_iff_ne_none.mpr ha)]
  rfl

theorem presentToPrompt_hit (ha : (s.slice b).responder.armed ≠ none)
    (h : matchStep (s.slice b).responder.pattern (s.slice b).responder.j e = (k, true)) :
    presentToPrompt b e s = promptMatch b (s.modResponder b fun r => { r with j := k }) := by
  unfold presentToPrompt
  simp only [h]
  rw [if_pos (Option.isSome_iff_ne_none.mpr ha)]
  rfl

/-! ## A match of the prompt matcher (R68) -/

/-- The responder after its match: disarmed, and with one-shot on no longer enabled (R68). -/
def promptDone (b : Bay) (s : State) : State :=
  (disarmResponder b s).modResponder b fun r => { r with enable := r.enable && !r.oneShot }

theorem promptDone_slice (b : Bay) (s : State) :
    (promptDone b s).slice b = { s.slice b with responder := { (s.slice b).responder with
      armed := none, j := 0, enable := (s.slice b).responder.enable && !(s.slice b).responder.oneShot } } := by
  simp [promptDone, disarmResponder]

theorem promptMatch_answered (h : (s.slice b).responder.response.length ≤ (s.slice b).line.free) :
    promptMatch b s = startTx b (promptDone b (setFlag b .promptAnswered (s.withLine b { (s.slice b).line with
      queue := (s.slice b).line.queue ++ (s.slice b).responder.response.map .data }))) :=
  congrArg (fun t => startTx b (promptDone b t)) (if_pos h)

theorem promptMatch_dropped (h : ¬ (s.slice b).responder.response.length ≤ (s.slice b).line.free) :
    promptMatch b s = startTx b (promptDone b (setFlag b .promptDropped s)) :=
  congrArg (fun t => startTx b (promptDone b t)) (if_neg h)

/-- Whether the response was appended or dropped, the responder is done. -/
theorem promptMatch_responder (b : Bay) (s : State) : ((promptMatch b s).slice b).responder = { (s.slice b).responder with
    armed := none, j := 0, enable := (s.slice b).responder.enable && !(s.slice b).responder.oneShot } := by
  have hstart (t : State) : ((startTx b t).slice b).responder = (t.slice b).responder := startTx_same (p := .responder b) rfl
  by_cases h : (s.slice b).responder.response.length ≤ (s.slice b).line.free
  · rw [promptMatch_answered h, hstart, promptDone_slice]
    simp [State.withLine]
  · rw [promptMatch_dropped h, hstart, promptDone_slice]
    simp

theorem flag_promptDone (b : Bay) (f : BayFlag) (s : State) : (promptDone b s).flag b f = s.flag b f := by
  simp [State.flag, promptDone_slice]

theorem flag_withLine (b : Bay) (l : Line) (f : BayFlag) (s : State) : (s.withLine b l).flag b f = s.flag b f := by
  simp [State.flag, State.withLine]

/-- Behind an element in flight the response waits, if it fits (R68). -/
theorem promptMatch_waits (htx : (s.slice b).line.tx ≠ .idle)
    (hfit : (s.slice b).line.queue.length + (s.slice b).responder.response.length ≤ 256) :
    ((promptMatch b s).slice b).line =
        { (s.slice b).line with queue := (s.slice b).line.queue ++ (s.slice b).responder.response.map .data } ∧
      (promptMatch b s).flag b .promptAnswered = true ∧ (promptMatch b s).flag b .promptDropped = s.flag b .promptDropped := by
  rw [promptMatch_answered (by simp only [Line.free, Config.txQueueMax]; omega), startTx_busy (by simpa [promptDone_slice] using htx),
    promptDone_slice, flag_promptDone, flag_promptDone, flag_setFlag_self, flag_setFlag_ne (by simp), flag_withLine]
  simp

theorem promptMatch_drops (htx : (s.slice b).line.tx ≠ .idle) (hq : (s.slice b).line.queue.length ≤ 256)
    (hfit : 256 < (s.slice b).line.queue.length + (s.slice b).responder.response.length) :
    ((promptMatch b s).slice b).line = (s.slice b).line ∧
      (promptMatch b s).flag b .promptDropped = true ∧ (promptMatch b s).flag b .promptAnswered = s.flag b .promptAnswered := by
  rw [promptMatch_dropped (by simp only [Line.free, Config.txQueueMax]; omega), startTx_busy (by simpa [promptDone_slice] using htx),
    promptDone_slice, flag_promptDone, flag_promptDone, flag_setFlag_self, flag_setFlag_ne (by simp)]
  simp

theorem promptMatch_drainMark (htx : (s.slice b).line.tx ≠ .idle) :
    ((promptMatch b s).slice b).line.drainMark = (s.slice b).line.drainMark := by
  by_cases h : (s.slice b).responder.response.length ≤ (s.slice b).line.free
  · rw [promptMatch_answered h, startTx_busy (by simpa [promptDone_slice] using htx), promptDone_slice]
    simp
  · rw [promptMatch_dropped h, startTx_busy (by simpa [promptDone_slice] using htx), promptDone_slice]
    simp

/-- On an idle line the first byte of the response is in flight (R9, R68). -/
theorem promptMatch_starts {v : Byte} {rest : List Byte} (hl : (s.slice b).line = l) (htx : l.tx = .idle) (hq : l.queue = [])
    (hh : l.config.ctsHonour = false) (hr : (s.slice b).responder.response = v :: rest) (h16 : (s.slice b).responder.response.length ≤ 16) :
    ((promptMatch b s).slice b).line.queue = rest.map .data ∧ (promptMatch b s).flag b .promptAnswered = true ∧
      ((promptMatch b s).slice b).line.tx = .character (l.config.framing.frame v) l.rate.divisor := by
  have hfit : (s.slice b).responder.response.length ≤ (s.slice b).line.free := by
    simp only [Line.free, Config.txQueueMax, hl, hq, List.length_nil]
    omega
  rw [promptMatch_answered hfit]
  generalize ht : promptDone b (setFlag b .promptAnswered (s.withLine b { (s.slice b).line with
      queue := (s.slice b).line.queue ++ (s.slice b).responder.response.map .data })) = t
  have hline : (t.slice b).line = { l with queue := .data v :: rest.map .data } := by
    rw [← ht, promptDone_slice]
    simp [hl, hq, hr]
  have hflag : t.flag b .promptAnswered = true := by rw [← ht, flag_promptDone, flag_setFlag_self]
  have hstart := startTx_data (s := t) (b := b) (v := v) (rest := rest.map .data) (l := { l with queue := .data v :: rest.map .data })
    htx rfl (Line.startAllowed_of_ctsHonour hh)
  rw [withLine_same hline.symm] at hstart
  rw [startTx_flag (by simp) (by simp), hstart, hflag]
  simp

/-! ## An entry handed on, where the window starts no detection -/

/-- The window starts no detection at an entry of this line, whatever the entry (R37). -/
def Line.keepsRate (l : Line) : Prop :=
  l.config.errorThreshold = 0 ∨ l.rate.mode = .manual ∨ l.rate.window.characters + 1 < 256

theorem handEntry_cases (h : (s.slice b).line.keepsRate) :
    (∃ r, handEntry b e s = (presented b e s).withRate b r) ∨
      handEntry b e s = closeWindow b ((s.slice b).line.rate.window.count e.kind) (presented b e s) := by
  rcases Nat.lt_or_ge ((s.slice b).line.rate.window.count e.kind).characters (s.slice b).line.config.window.characters with hw | hw
  · exact .inl ⟨_, handEntry_below rfl hw⟩
  · refine .inr ((handEntry_closes rfl hw).1 fun ⟨ht, _, hm⟩ => ?_)
    have hsize : 256 ≤ (s.slice b).line.config.window.characters := by cases (s.slice b).line.config.window <;> decide
    have hcount : ((s.slice b).line.rate.window.count e.kind).characters ≤ (s.slice b).line.rate.window.characters + 1 := by
      rw [WindowCounts.count_eq]
      dsimp only
      split <;> omega
    obtain h | h | h := h
    · exact ht h
    · exact hm h
    · omega

theorem handEntry_same_presented (h : (s.slice b).line.keepsRate) (hp : p ≠ .rate b) (hf : p.flagging b = false) :
    p.Same (presented b e s) (handEntry b e s) := by
  obtain ⟨r, hr⟩ | hr := handEntry_cases (e := e) h
  · rw [hr]
    exact modSlice_same (f := fun x => { x with line := { x.line with rate := r } }) (by cases p <;> simp_all [Part.SameIn])
  · rw [hr]
    exact closeWindow_same hp hf

theorem handEntry_flag_presented (h : (s.slice b).line.keepsRate) (hf : f ≠ .qualityReady) :
    (handEntry b e s).flag b f = (presented b e s).flag b f := by
  obtain ⟨r, hr⟩ | hr := handEntry_cases (e := e) h
  · rw [hr, flag_withRate]
  · rw [hr, closeWindow_flag, decide_eq_false hf, Bool.false_or]

/-- The state in which the prompt matcher is presented an entry. -/
def beforePrompt (b : Bay) (e : HistoryEntry) (s : State) : State := presentToHeartbeat b e (s.modHistory b fun h => h.append e)

theorem beforePrompt_same (hh : p ≠ .history b) (hb : p ≠ .heartbeat b) (hm : p ≠ .monitor b) : p.Same s (beforePrompt b e s) :=
  (modHistory_same hh).trans (presentToHeartbeat_same hb hm)

@[simp] theorem beforePrompt_responder (b : Bay) (e : HistoryEntry) (s : State) :
    ((beforePrompt b e s).slice b).responder = (s.slice b).responder :=
  beforePrompt_same (p := .responder b) (by simp) (by simp) (by simp)

@[simp] theorem presentToHeartbeat_line (b : Bay) (e : HistoryEntry) (s : State) :
    ((presentToHeartbeat b e s).slice b).line = (s.slice b).line := by
  unfold presentToHeartbeat heartbeatMatch
  dsimp only
  split <;> simp

@[simp] theorem beforePrompt_line (b : Bay) (e : HistoryEntry) (s : State) :
    ((beforePrompt b e s).slice b).line = (s.slice b).line := by simp [beforePrompt]

theorem beforePrompt_flag (b : Bay) (e : HistoryEntry) (f : BayFlag) (s : State) : (beforePrompt b e s).flag b f = s.flag b f :=
  flag_of_same (beforePrompt_same (by simp) (by simp) (by simp)) f

theorem presented_same_prompt (hm : p ≠ .monitor b) : p.Same (presentToPrompt b e (beforePrompt b e s)) (presented b e s) :=
  presentToMonitor_same hm

/-- After the prompt matcher an entry changes neither the responder nor what is to be sent. -/
theorem handEntry_responder (h : (s.slice b).line.keepsRate) :
    ((handEntry b e s).slice b).responder = ((presentToPrompt b e (beforePrompt b e s)).slice b).responder :=
  Part.Same.trans (p := .responder b) (presented_same_prompt (by simp)) (handEntry_same_presented h (by simp) rfl)

theorem handEntry_transmit (h : (s.slice b).line.keepsRate) :
    (Part.transmit b).Same (presentToPrompt b e (beforePrompt b e s)) (handEntry b e s) :=
  (presented_same_prompt (by simp)).trans (handEntry_same_presented h (by simp) rfl)

theorem handEntry_flag_prompt (h : (s.slice b).line.keepsRate) (hf : f ≠ .qualityReady) :
    (handEntry b e s).flag b f = (presentToPrompt b e (beforePrompt b e s)).flag b f :=
  (handEntry_flag_presented h hf).trans (flag_of_same (presented_same_prompt (by simp)) f)

theorem handEntry_heartbeat (h : (s.slice b).line.keepsRate)
    (hm : matchStep (s.slice b).heartbeat.pattern (s.slice b).heartbeat.j e = (k, hit)) :
    ((handEntry b e s).slice b).heartbeat = { (s.slice b).heartbeat with j := k } := by
  have hafter : (Part.heartbeat b).Same (beforePrompt b e s) (handEntry b e s) :=
    ((presentToPrompt_apart (by simp) rfl).trans (presented_same_prompt (by simp))).trans (handEntry_same_presented h (by simp) rfl)
  refine Eq.trans hafter ?_
  rw [beforePrompt, presentToHeartbeat_slice (k := k) (hit := hit) (by simpa using hm)]
  simp

/-- The state in which a match of the prompt matcher is taken. -/
theorem presentToPrompt_beforePrompt_hit (ha : (s.slice b).responder.armed ≠ none)
    (hm : matchStep (s.slice b).responder.pattern (s.slice b).responder.j e = (k, true)) :
    ∃ t, presentToPrompt b e (beforePrompt b e s) = promptMatch b t ∧ (t.slice b).responder = { (s.slice b).responder with j := k } ∧
      (t.slice b).line = (s.slice b).line ∧ ∀ f, t.flag b f = s.flag b f := by
  refine ⟨_, presentToPrompt_hit (by simpa using ha) (by simpa using hm), by simp, by simp, fun f => ?_⟩
  exact (flag_of_same (modSlice_same fun _ => rfl) f).trans (beforePrompt_flag b e f s)

/-! ## MATCH_SET (R64, R65) -/

theorem exec_matchSetPrompt (tag line : Byte) (enable oneShot : Bool) (window : BitVec 16) (pattern response : List Byte) (s : State) :
    exec (.matchSetPrompt tag line (onOffByte enable) (onOffByte oneShot) window pattern response) s =
      .next (takeRequest 0x20 tag (onBay line (matchPromptAct enable oneShot window.toNat pattern response)) s) := by
  refine congrArg (fun act => Host.Outcome.next (takeRequest 0x20 tag act s)) ((withField_onOffByte enable _).trans ?_)
  exact withField_onOffByte oneShot _

theorem matchPromptAct_accepted {enable oneShot : Bool} {window : Nat} {pattern response : List Byte} (hp : pattern.length ≤ 16)
    (hr : response.length ≤ 16) (he : enable = true → pattern ≠ [] ∧ response ≠ []) :
    matchPromptAct enable oneShot window pattern response b s =
      accept (s.withSlice b { s.slice b with responder := ⟨pattern, response, max 1 (min window 600), enable, oneShot,
          if enable then (s.slice b).responder.armed else none, 0⟩ })
        (le1 pattern.length ++ le1 response.length ++ le2 (max 1 (min window 600)) ++ bit enable ++ bit oneShot) := by
  refine if_neg ?_
  cases enable
  · simp
    omega
  · obtain ⟨h1, h2⟩ := he rfl
    simp [h1, h2]
    omega

theorem matchPromptAct_malformed {enable oneShot : Bool} {window : Nat} {pattern response : List Byte}
    (h : 16 < pattern.length ∨ 16 < response.length ∨ (enable = true ∧ (pattern = [] ∨ response = []))) :
    matchPromptAct enable oneShot window pattern response b s = refuse .malformed s := by
  refine if_pos ?_
  simpa [or_assoc] using h

/-- Settles O27: the matching rule's step is the one the statement describes, and each consumer after a matcher leaves the matcher, the
responder and the queue as they are. -/
theorem matchersAreSetAndExpire : Obligations.MatchersAreSetAndExpire := by
  unfold Obligations.MatchersAreSetAndExpire
  refine ⟨fun s tag b pattern ht => ⟨fun hp => ?_, fun hp => ?_⟩, fun s tag b enable oneShot window pattern response ht =>
    ⟨fun hp hr he => ?_, fun h => ?_⟩, fun s b n ha => ?_, fun s t b e k hit l h r ht hl hh hr hkeep => ⟨fun hm => ?_, fun ha => ?_,
      fun ha hm => ⟨fun hmiss => ?_, fun hhit => ?_⟩⟩⟩
  · exact congrArg Host.Outcome.next (takeRequest_onBay_accepted (kind := 0x20) (act := matchHeartbeatAct pattern) ht (if_neg hp.not_gt))
  · exact congrArg Host.Outcome.next
      (takeRequest_onBay_refused (kind := 0x20) (c := .malformed) (act := matchHeartbeatAct pattern) ht (if_pos hp))
  · rw [exec_matchSetPrompt]
    exact congrArg Host.Outcome.next (takeRequest_onBay_accepted (kind := 0x20) ht (matchPromptAct_accepted (s := toHunt s) hp hr he))
  · rw [exec_matchSetPrompt]
    exact congrArg Host.Outcome.next (takeRequest_onBay_refused (kind := 0x20) (c := .malformed) ht (matchPromptAct_malformed h))
  · exact if_pos (Option.isSome_iff_exists.mpr ⟨n, ha⟩)
  · subst ht hl hh
    exact handEntry_heartbeat hkeep (matchStep_eq hm)
  · subst ht hl hr
    have hprompt : presentToPrompt b e (beforePrompt b e s) = beforePrompt b e s := presentToPrompt_disarmed (by simpa using ha)
    obtain ⟨hq, htx, _, _⟩ := handEntry_transmit (e := e) hkeep
    rw [handEntry_responder hkeep, hq, htx, hprompt]
    simp
  · subst ht hl hr hmiss
    obtain ⟨hq, htx, _, _⟩ := handEntry_transmit (e := e) hkeep
    rw [handEntry_responder hkeep, hq, htx, presentToPrompt_missed (by simpa using ha) (by simpa using matchStep_eq hm)]
    simp
  · subst ht hl hr hhit
    obtain ⟨u, hu, hresponder, hline, hflag⟩ := presentToPrompt_beforePrompt_hit ha (matchStep_eq hm)
    obtain ⟨hq, htx, _, hdrain⟩ := handEntry_transmit (e := e) hkeep
    rw [handEntry_responder hkeep, hq, htx, hdrain, handEntry_flag_prompt hkeep (by simp), handEntry_flag_prompt hkeep (by simp), hu,
      promptMatch_responder, hresponder, ← hflag, ← hflag, ← hline]
    refine ⟨rfl, fun hbusy => ?_, fun hbusy hfit => ?_, fun hbusy hq hfit => ?_, fun v rest hidle hq hh hresp h16 => ?_⟩
    · exact promptMatch_drainMark hbusy
    · obtain ⟨hl, hanswered, hdropped⟩ := promptMatch_waits hbusy (by rwa [hresponder])
      rw [hl, hresponder]
      exact ⟨rfl, rfl, hanswered, hdropped⟩
    · obtain ⟨hl, hdropped, hanswered⟩ := promptMatch_drops hbusy hq (by rwa [hresponder])
      rw [hl]
      exact ⟨rfl, rfl, hdropped, hanswered⟩
    · exact promptMatch_starts rfl hidle hq hh (by rw [hresponder, hresp]) (by rwa [hresponder])

end Sys2Proof.Machine
end

section
/-! PROOFS. The statement of chapter 4 about the hang monitor (R66, R70 to R75): where WATCH_SET places it, what its timer's expiry does, and
what an entry handed on is to it. -/

namespace Sys2Proof.Machine

variable {s : State} {b : Bay} {tag : Byte} {e : HistoryEntry} {k : Nat} {hit : Bool} {m : Monitor}

/-! ## WATCH_SET (R70) -/

theorem watchSourceOf_defined {v : Byte} (h : v.toNat ≤ 1) :
    watchSourceOf v = some (if v = 0 then .anyOutput else .heartbeat) ∧
      le1 (if v = 0 then WatchSource.anyOutput else .heartbeat).code = [v] := by
  revert v
  decide

theorem watchActionOf_defined {v : Byte} (h : v.toNat ≤ 2) :
    watchActionOf v = some (if v = 0 then .notify else if v = 1 then .reset else .cycle) ∧
      le1 (if v = 0 then WatchAction.notify else if v = 1 then .reset else .cycle).code = [v] := by
  revert v
  decide

/-- The four fields that R70 places, by enable and the sequencer's state. -/
theorem Monitor.place_eq (on : Bool) (m : Monitor) : m.place on = { m with
    state := if m.settings.enable then if on then .grace else .suspended else .disabled
    timer := if m.settings.enable then if on then some m.settings.grace else none else none } := by
  unfold Monitor.place
  cases m.settings.enable <;> cases on <;> rfl

theorem watchSetAct_accepted (source : WatchSource) (action : WatchAction) (enable : Bool) (f : WatchFields) {n : Monitor} {w : WatchSettings}
    (hw : w = ⟨source, max 5 f.period.toNat, max 10 f.grace.toNat, action, min f.limit.toNat 15, enable⟩)
    (hn : n = { settings := w
                state := if enable then if (s.slice b).sequencer.state = .on then .grace else .suspended else .disabled
                timer := if enable then if (s.slice b).sequencer.state = .on then some (max 10 f.grace.toNat) else none else none
                count := 0
                outstanding := if (s.slice b).monitor.state = .acting then none else (s.slice b).monitor.outstanding }) :
    watchSetAct source action enable f b s = accept (s.withMonitor b n) (w.encode ++ le1 n.state.code ++ le1 0) := by
  have hplace : Monitor.place ((s.slice b).sequencer.state = .on) { (s.slice b).monitor with
      settings := w, count := 0
      outstanding := if (s.slice b).monitor.state = .acting then none else (s.slice b).monitor.outstanding } = n := by
    rw [Monitor.place_eq, hn, hw]
    simp only [decide_eq_true_eq]
  unfold watchSetAct
  dsimp only
  rw [State.slice_modSlice_self]
  subst hw
  exact congrArg (fun m : Monitor => accept (s.withMonitor b m) (_ ++ le1 m.state.code ++ le1 0)) hplace

theorem exec_watchSet {source action : Byte} (hs : source.toNat ≤ 1) (ha : action.toNat ≤ 2) (tag bay : Byte) (period grace : BitVec 16)
    (limit : Byte) (enable : Bool) (s : State) :
    exec (.watchSet tag bay ⟨source, period, grace, action, limit, onOffByte enable⟩) s =
      .next (takeRequest 0x21 tag (onBay bay (watchSetAct (if source = 0 then .anyOutput else .heartbeat)
        (if action = 0 then .notify else if action = 1 then .reset else .cycle) enable
        ⟨source, period, grace, action, limit, onOffByte enable⟩)) s) := by
  change Host.Outcome.next (takeRequest 0x21 tag (withField (watchSourceOf source) _) s) = _
  simp only [(watchSourceOf_defined hs).1, (watchActionOf_defined ha).1, onOff_onOffByte]
  rfl

/-! ## The watch timer (R72, R73, R75) -/

theorem exec_watchTimerExpiry_checks {n : Nat} (ht : (s.slice b).monitor.timer = some n)
    (hs : (s.slice b).monitor.state = .grace ∨ (s.slice b).monitor.state = .watching) :
    exec (.watchTimerExpiry b) s = .next (actionCheck b (setFlag b .hang s)) := if_pos ⟨by simp [ht], hs⟩

theorem actionCheck_requests {r : WatchRequest} (hm : m = (s.slice b).monitor)
    (ha : (m.settings.action = .reset ∧ r = .reset) ∨ (m.settings.action = .cycle ∧ r = .cycle)) (hc : m.count < m.settings.limit) :
    actionCheck b s =
      s.withMonitor b { m with state := .acting, timer := none, count := m.count + 1, outstanding := some r } := by
  subst hm
  unfold actionCheck
  obtain ⟨ha, rfl⟩ | ⟨ha, rfl⟩ := ha
  all_goals
    simp only [ha]
    exact if_pos hc

theorem actionCheck_limit (hm : m = (s.slice b).monitor) (ha : m.settings.action ≠ .notify) (hc : ¬ m.count < m.settings.limit) :
    actionCheck b s = setFlag b .hangLimit (s.withMonitor b { m with state := .expired, timer := none }) := by
  subst hm
  unfold actionCheck
  cases h : (s.slice b).monitor.settings.action with
  | notify => exact absurd h ha
  | reset => simp only [h]; exact if_neg hc
  | cycle => simp only [h]; exact if_neg hc

theorem actionCheck_notifies (hm : m = (s.slice b).monitor) (ha : m.settings.action = .notify) :
    actionCheck b s = s.withMonitor b { m with state := .expired, timer := none } := by
  subst hm
  unfold actionCheck
  simp only [ha]
  rfl

/-! ## An entry handed on (R66, R71) -/

/-- After the heartbeat matcher and the hang monitor an entry reaches no monitor. -/
theorem handEntry_monitor (hm : matchStep (s.slice b).heartbeat.pattern (s.slice b).heartbeat.j e = (k, hit)) {n : Monitor}
    (hn : n = if hit then (s.slice b).monitor.beat else (s.slice b).monitor) :
    ((handEntry b e s).slice b).monitor = if e.kind = .data ∧ n.settings.source = .anyOutput then n.activity else n := by
  have hbefore : ((presentToPrompt b e (beforePrompt b e s)).slice b).monitor = n := by
    refine Eq.trans (presentToPrompt_apart (p := .monitor b) (by simp) rfl) ?_
    rw [beforePrompt, presentToHeartbeat_slice (k := k) (hit := hit) (by simpa using hm), hn]
    simp
  refine Eq.trans (presentToWindow_same (p := .monitor b) rfl rfl) ?_
  change ((presentToMonitor b e (presentToPrompt b e (beforePrompt b e s))).slice b).monitor = _
  rw [presentToMonitor_slice, hbefore]

/-- A heartbeat match and activity of the line, as R66 and R71 put them together. -/
theorem Monitor.beat_activity (m : Monitor) {active data : Bool} (hd : hit = true → data = true)
    (ha : active = if m.settings.source = .anyOutput then data else hit) {n : Monitor} (hn : n = if hit then m.beat else m) :
    (if data = true ∧ n.settings.source = .anyOutput then n.activity else n) =
      if active = true ∧ (m.state = .grace ∨ m.state = .watching ∨ m.state = .expired) then
        { m with count := if hit then 0 else m.count, state := .watching, timer := some m.settings.period }
      else { m with count := if hit then 0 else m.count } := by
  subst ha hn
  cases hsource : m.settings.source <;> cases hit <;> cases data <;> simp_all [Monitor.beat, Monitor.activity_eq]
  all_goals split <;> simp_all

/-- Settles O28: the owner's fields as clamped and placed, the action check's three outcomes, and the two consumers of an entry that reach
the monitor. -/
theorem monitorIsSetAndExpires : Obligations.MonitorIsSetAndExpires := by
  unfold Obligations.MonitorIsSetAndExpires
  refine ⟨fun s tag b period grace limit enable ht source action hs ha => ?_, fun s b m n hm htimer hstate => ?_,
    fun s b e k hit active m n hm hmatch hn hactive => ?_⟩
  · rw [exec_watchSet hs ha]
    obtain ⟨n, hn⟩ : ∃ n : Monitor, n =
        { settings := ⟨if source = 0 then .anyOutput else .heartbeat, max 5 period.toNat, max 10 grace.toNat,
            if action = 0 then .notify else if action = 1 then .reset else .cycle, min limit.toNat 15, enable⟩
          state := if enable then if (s.slice b).sequencer.state = .on then .grace else .suspended else .disabled
          timer := if enable then if (s.slice b).sequencer.state = .on then some (max 10 grace.toNat) else none else none
          count := 0
          outstanding := if (s.slice b).monitor.state = .acting then none else (s.slice b).monitor.outstanding } := ⟨_, rfl⟩
    have hcode : le1 n.state.code = [if enable then if (s.slice b).sequencer.state = .on then 2 else 1 else 0] := by
      rw [hn]
      split_ifs <;> rfl
    refine congrArg Host.Outcome.next ((takeRequest_onBay_accepted (kind := 0x21) (t := s.withMonitor b n) ht
      (watchSetAct_accepted (s := toHunt s) (b := b) _ _ _ _ rfl hn)).trans ?_)
    rw [hcode]
    simp only [WatchSettings.encode, (watchSourceOf_defined hs).2, (watchActionOf_defined ha).2, hn]
    rfl
  · subst hm
    have hmonitor : ((setFlag b .hang s).slice b).monitor = (s.slice b).monitor := by simp
    rw [exec_watchTimerExpiry_checks htimer hstate]
    refine ⟨fun ha hc => ?_, fun ha hc => ?_, fun ha hc => ?_, fun ha => ?_⟩
    · rw [actionCheck_requests hmonitor.symm (.inl ⟨ha, rfl⟩) hc]
    · rw [actionCheck_requests hmonitor.symm (.inr ⟨ha, rfl⟩) hc]
    · rw [actionCheck_limit hmonitor.symm ha hc.not_lt]
    · rw [actionCheck_notifies hmonitor.symm ha]
  · have hdata : hit = true → decide (e.kind = .data) = true := by
      intro h
      by_contra hk
      have := (hmatch.1 (.inr (by simpa using hk))).2
      simp [h] at this
    rw [handEntry_monitor (matchStep_eq hmatch) rfl, ← hm]
    have := m.beat_activity (data := decide (e.kind = .data)) hdata hactive rfl
    simp only [decide_eq_true_eq] at this
    rw [this, hn]

end Sys2Proof.Machine
end

section
/-! PROOFS. The statements of chapters 5 and 6 that move no bay's power: the POWER actions without a transition (R81, R82, R89), POWER_SET
(R80), the grant queue's own events (R105 to R109) and the masking of BTN_SENSE (R92, R93). -/

namespace Sys2Proof.Machine

variable {s : State} {b : Bay} {tag : Byte} {q : Sequencer}

/-! ## POWER actions without a transition (R81, R82, R89) -/

/-- A POWER action is refused with the code its owner gives, or taken with what its owner leaves. -/
theorem power_refused {act : Bay → State → Answer} (c : ReplyCode) (ht : takesRequest tag s)
    (ha : act b (toHunt s) = refuse c (toHunt s)) :
    Host.Outcome.next (takeRequest 0x28 tag (onBay (bayByte b) act) s) =
      (.next (replied 0xA8 tag [c.byte] s) : Host.Outcome State Fault Refusal) :=
  congrArg _ (takeRequest_onBay_refused (kind := 0x28) ht ha)

theorem power_accepted {act : Bay → State → Answer} {t : State} {fields : List Byte} (ht : takesRequest tag s)
    (ha : act b (toHunt s) = accept (toHunt t) fields) :
    Host.Outcome.next (takeRequest 0x28 tag (onBay (bayByte b) act) s) =
      (.next (replied 0xA8 tag (0 :: fields) t) : Host.Outcome State Fault Refusal) :=
  congrArg _ (takeRequest_onBay_accepted (kind := 0x28) ht ha)

/-- Two actions that do the same in the state at hand are one request. -/
theorem power_alike {act act' : Bay → State → Answer} (ht : takesRequest tag s) (ha : act b (toHunt s) = act' b (toHunt s)) :
    (Host.Outcome.next (takeRequest 0x28 tag (onBay (bayByte b) act) s) : Host.Outcome State Fault Refusal) =
      .next (takeRequest 0x28 tag (onBay (bayByte b) act') s) := by
  rw [takeRequest_taken _ ht, takeRequest_taken _ ht, onBay_bayByte, onBay_bayByte, ha]

/-- The last commanded state is recorded in the policy store alone (R82). -/
theorem powerDone_eq (on : Bool) (b : Bay) (s : State) :
    powerDone on b s = accept (s.withPolicy (setLastCommanded on b s).policy)
      (le1 (s.slice b).sequencer.state.code ++ bit (s.slice b).sequencer.pendingOn) := rfl

/-- A POWER request that changes no sequencer records the last commanded state and is replied with the sequencer as it stands. -/
theorem power_unchanged {act : Bay → State → Answer} (on : Bool) (ht : takesRequest tag s)
    (ha : act b (toHunt s) = powerDone on b (toHunt s)) :
    ∃ p, PolicyStore.Commanded on b s.policy p ∧
      Host.Outcome.next (takeRequest 0x28 tag (onBay (bayByte b) act) s) =
        (.next (replied 0xA8 tag
          ([0] ++ le1 (s.slice b).sequencer.state.code ++ bit (s.slice b).sequencer.pendingOn) (s.withPolicy p)) :
          Host.Outcome State Fault Refusal) :=
  ⟨_, setLastCommanded_commanded on b s, power_accepted (t := s.withPolicy _) ht (ha.trans (powerDone_eq on b _))⟩

/-- In HOLDOFF a POWER request sets or clears pending-on (R89). -/
theorem power_pending {act : Bay → State → Answer} (on v : Bool) (ht : takesRequest tag s)
    (hst : (s.slice b).sequencer.state = .holdOff) (ha : act b (toHunt s) = powerDone on b (setPendingOn v b (toHunt s))) :
    ∃ p, PolicyStore.Commanded on b s.policy p ∧
      Host.Outcome.next (takeRequest 0x28 tag (onBay (bayByte b) act) s) =
        (.next (replied 0xA8 tag [0, 6, if v then 1 else 0]
          ((s.withSeq b { (s.slice b).sequencer with pendingOn := v }).withPolicy p)) : Host.Outcome State Fault Refusal) := by
  refine ⟨_, setLastCommanded_commanded on b s,
    power_accepted (t := (s.withSeq b { (s.slice b).sequencer with pendingOn := v }).withPolicy _) ht
      (ha.trans ((powerDone_eq on b _).trans ?_))⟩
  rw [setPendingOn_sequencer_self, toHunt_slice, hst]
  cases v <;> rfl

/-- Settles O31: each entry of Table 5-4 without a transition, read off the action's own case of it. -/
theorem powerActionsWithoutTransition : Obligations.PowerActionsWithoutTransition := by
  unfold Obligations.PowerActionsWithoutTransition
  intro s tag b ht
  refine ⟨fun h => ?_, fun h => ?_, fun h => ?_, fun h => ?_, fun h => ?_, fun h => ?_, fun h => ?_, fun h => ?_, fun h => ?_, fun h => ?_,
    fun h => ?_⟩
  · refine ⟨power_refused .busy ht ?_, power_refused .busy ht ?_, power_refused .busy ht ?_⟩
    · obtain h | h := h <;> simp [powerOnAct, h]
    · obtain h | h := h <;> simp [powerCycleAct, h]
    · obtain h | h := h <;> simp [powerResetAct, h]
  · exact ⟨power_refused .busy ht (by simp [powerOffSoftAct, h]), power_refused .busy ht (by simp [powerCycleAct, h]),
      power_refused .busy ht (by simp [powerResetAct, h])⟩
  · exact power_refused .busy ht (by simp [powerOffSoftAct, h])
  · refine power_refused .state ht ?_
    obtain h | h | h := h <;> simp [powerResetAct, h]
  · refine power_refused .state ht ?_
    unfold powerClearFaultAct
    split
    · exact absurd ‹_› h
    · rfl
  · exact ⟨power_refused .faulted ht (by simp [powerOnAct, h]), power_refused .faulted ht (by simp [powerOffSoftAct, h]),
      power_refused .faulted ht (by simp [powerCycleAct, h]), power_refused .faulted ht (by simp [powerResetAct, h])⟩
  · refine power_unchanged true ht ?_
    obtain h | h | h := h <;> simp [powerOnAct, h]
  · exact power_alike ht (by simp [powerOnAct, powerCycleAct, h])
  · refine power_unchanged false ht ?_
    obtain h | h := h <;> simp [powerOffSoftAct, h]
  · exact power_alike ht (by simp [powerOffSoftAct, powerOffHardAct, h])
  · obtain ⟨p, hp, he⟩ := power_pending (act := powerOnAct) true true ht h (by simp [powerOnAct, h])
    obtain ⟨p', hp', he'⟩ := power_pending (act := powerOffSoftAct) false false ht h (by simp [powerOffSoftAct, h])
    exact ⟨⟨p, hp, he, power_alike ht (by simp [powerOnAct, powerCycleAct, h])⟩,
      p', hp', he', power_alike ht (by simp [powerOffSoftAct, powerOffHardAct, h])⟩

/-! ## POWER_SET (R80) -/

/-- The record of six settings that POWER_SET writes, each clamped. -/
theorem powerSetAct_written {p : PowerSettings}
    (h : ¬(((s.slice b).sequencer.state = .queued ∨ (s.slice b).sequencer.state = .powering) ∧ p.weight ≠ (s.slice b).sequencer.settings.weight)) :
    powerSetAct p b s = accept (s.withSeq b { (s.slice b).sequencer with settings := p }) p.encode := if_neg h

theorem powerSetAct_refused {p : PowerSettings}
    (h : ((s.slice b).sequencer.state = .queued ∨ (s.slice b).sequencer.state = .powering) ∧ p.weight ≠ (s.slice b).sequencer.settings.weight) :
    powerSetAct p b s = refuse .state s := if_pos h

/-- Settles O32: the two cases of the owner. -/
theorem powerSetWritesTheSettings : Obligations.PowerSetWritesTheSettings := by
  unfold Obligations.PowerSetWritesTheSettings
  refine fun s tag b f ht => ⟨fun h => ?_, fun h hw => ?_⟩
  · refine congrArg Host.Outcome.next (takeRequest_onBay_accepted (kind := 0x29) ht
      (powerSetAct_written (s := toHunt s) (b := b) fun hn => ?_))
    obtain ⟨hstate, hweight⟩ := hn
    exact h.elim (fun ⟨hq, hp⟩ => hstate.elim hq hp) hweight
  · exact congrArg Host.Outcome.next (takeRequest_onBay_refused (kind := 0x29) (c := .state) ht
      (powerSetAct_refused (s := toHunt s) (b := b) ⟨h, hw⟩))

/-! ## The grant queue (R105 to R109) -/

/-- An attempt on no queue, or at a head that is not grantable, grants nothing (R105). -/
theorem attempt_idle (h : ∀ b rest, s.grant.queue = b :: rest → grantable b s = false) : attempt s = s := by
  unfold attempt
  cases hq : s.grant.queue with
  | nil => rfl
  | cons b rest =>
    unfold attemptFrom
    exact if_neg (by simp [h b rest hq])

theorem attempt_empty (h : s.grant.queue = []) : attempt s = s := attempt_idle (by simp [h])

/-- A grantable head that waits alone is granted, and the attempt ends. -/
theorem attempt_single (h : s.grant.queue = [b]) (hg : grantable b s = true) : attempt s = grantHead b [] s := by
  unfold attempt
  rw [h]
  exact if_pos hg

theorem grantable_iff (b : Bay) (s : State) :
    grantable b s = true ↔ s.grant.sag = false ∧ s.grant.timer = .ended ∧
      s.grant.sum + min (s.slice b).sequencer.settings.weight s.grant.budget ≤ s.grant.budget := by
  unfold grantable effectiveWeight
  simp only [Bool.and_eq_true, decide_eq_true_eq, Bool.not_eq_true', and_assoc]

/-- Granted, a bay leaves the queue, its effective weight is counted and it enters POWERING (R84, R104, R105). -/
theorem grantHead_powering (rest : List Bay) (hq : q = (s.slice b).sequencer) (hp : q.pgood = false) :
    grantHead b rest s = setFlag b .powerState
      { s.withSeq b { q with state := .powering, timer := some (.powerGood, q.settings.powerGood) } with
        grant := { s.grant with
          queue := rest, granted := s.grant.granted.set b (some (min q.settings.weight s.grant.budget)) } } := by
  subst hq
  refine if_neg ?_
  rw [changeState_sequencer_self]
  exact (Bool.eq_false_iff).mp hp

theorem budgetAct_refused {budget delay : Nat} (h : max 1 (min budget 60) < s.grant.sum) :
    budgetAct budget delay s = refuse .conflict s := if_pos h

/-- A budget written where the attempt it makes grants nothing. -/
theorem budgetAct_written {budget delay n : Nat} (hn : n = max 1 (min budget 60)) (h : s.grant.sum ≤ n)
    (hg : ∀ b rest, s.grant.queue = b :: rest → grantable b { s with grant := { s.grant with budget := n, restoreDelay := delay } } = false) :
    budgetAct budget delay s = accept { s with grant := { s.grant with budget := n, restoreDelay := delay } }
      (le1 n ++ le1 delay ++ le1 s.grant.sum ++ encodeBays s.grant.queue ++ bit (s.grant.timer = .ended)) := by
  have hidle := attempt_idle (s := { s with grant := { s.grant with budget := n, restoreDelay := delay } }) hg
  subst hn
  refine (if_neg h.not_gt).trans ?_
  exact hidle.symm ▸ rfl

theorem exec_restoreDelayEnd {n : Nat} (h : s.grant.timer = .running n) :
    exec .restoreDelayEnd s = .next (attempt { s with grant := { s.grant with timer := .ended } }) := by
  change execRestoreDelayEnd s = _
  unfold execRestoreDelayEnd
  rw [h]
  rfl

/-- Settles O33: BUDGET with an attempt that grants nothing, the restore delay's end with a head that fits or not, and both changes of SAG. -/
theorem grantQueueIsServed : Obligations.GrantQueueIsServed := by
  unfold Obligations.GrantQueueIsServed
  refine ⟨fun s tag budget delay n ht hn => ⟨fun hsum hhead => ?_, fun hsum => ?_⟩,
    fun s b rest n htimer hsag hqueue => ⟨fun hfit hrest hpgood => ?_, fun hover => ?_⟩, fun s => ⟨fun h => ?_, fun h hq => ?_⟩⟩
  · have hact := budgetAct_written (s := toHunt s) (delay := delay.toNat) hn hsum (fun b rest hq => ?_)
    · rw [encodeBays_eq, le1_toNat] at hact
      exact congrArg Host.Outcome.next (takeRequest_accepted (kind := 0x2A) ht hact)
    · rw [Bool.eq_false_iff, Ne, grantable_iff]
      rintro ⟨hs, he, hfit⟩
      obtain h | h | h | ⟨c, rest', hc, hover⟩ := hhead
      · rw [show s.grant.queue = _ from hq] at h
        cases h
      · exact absurd (hs.symm.trans h) (by decide)
      · exact h he
      · rw [show s.grant.queue = _ from hq] at hc
        cases hc
        exact absurd hfit hover.not_ge
  · subst hn
    exact congrArg Host.Outcome.next (takeRequest_refused (kind := 0x2A) (c := .conflict) ht (budgetAct_refused (s := toHunt s) hsum))
  · subst hrest
    rw [exec_restoreDelayEnd htimer]
    refine congrArg Host.Outcome.next ((attempt_single (s := { s with grant := { s.grant with timer := .ended } }) (b := b) hqueue ((grantable_iff _ _).mpr ⟨hsag, rfl, hfit⟩)).trans
      ((grantHead_powering [] (s := { s with grant := { s.grant with timer := .ended } }) rfl hpgood).trans rfl))
  · rw [exec_restoreDelayEnd htimer, attempt_idle fun c rest' hq => ?_]
    obtain ⟨rfl, _⟩ := List.cons_eq_cons.mp (hqueue.symm.trans hq)
    rw [Bool.eq_false_iff, Ne, grantable_iff]
    rintro ⟨_, _, hfit⟩
    exact absurd hfit hover.not_ge
  · exact (if_neg (by simp [h])).trans rfl
  · refine (if_neg (by simp [h])).trans ?_
    exact congrArg Host.Outcome.next (attempt_empty hq)

/-! ## BTN_SENSE (R92, R93) -/

/-- A change of the level seen, told by what it was before. -/
theorem btnSenseCheck_withSeq (before : Bool) (s : State) (b : Bay) (q : Sequencer) :
    btnSenseCheck b before (s.withSeq b q) =
      if q.btnSeen = before ∨ q.btnSeen = q.snapshotBtn then s.withSeq b q else setFlag b .senseChanged (s.withSeq b q) := by
  unfold btnSenseCheck setFlagIf
  simp only [State.withSeq, slice_withSlice_self]
  by_cases h : q.btnSeen = before ∨ q.btnSeen = q.snapshotBtn
  · rw [if_pos h, if_neg (by simpa [or_iff_not_imp_left] using h)]
  · rw [if_neg h, if_pos (by simpa [not_or] using h)]

/-- A change of the pin outside a masking hold that goes on after its press. -/
theorem exec_btnSenseChange (level : Bool) (hq : q = (s.slice b).sequencer) (hp : ∀ h, q.buttonHold = some h → h.pressing = true) :
    exec (.btnSenseChange b level) s = .next (btnSenseCheck b q.btnSeen (s.withSeq b { q with btnSense := level })) := by
  subst hq
  refine congrArg (fun x => Host.Outcome.next (btnSenseCheck b _ (s.withSeq b x))) ?_
  cases h : (s.slice b).sequencer.buttonHold with
  | none => simp only [h]
  | some k => simp [h, hp k h]

theorem exec_btnSenseMaskEnd {held : Bool} (hq : q = (s.slice b).sequencer) (h : q.buttonHold = some ⟨held, false⟩) :
    exec (.btnSenseMaskEnd b) s = .next (btnSenseCheck b held (s.withSeq b { q with buttonHold := none })) := by
  subst hq
  change execBtnSenseMaskEnd b s = _
  unfold execBtnSenseMaskEnd
  rw [h]
  rfl

/-- Settles O35: the level seen before and after, with no hold, in a press and at the mask's end. -/
theorem btnSenseIsMasked : Obligations.BtnSenseIsMasked := by
  unfold Obligations.BtnSenseIsMasked
  intro s b level
  refine ⟨fun hh hp => ?_, fun held hh => ?_, fun held hh hp => ?_, fun held hh hp hsnap => ?_⟩
  · rw [exec_btnSenseChange level rfl (by simp [hh]), btnSenseCheck_withSeq]
    simp only [Sequencer.btnSeen, hh, hp, Bool.not_eq_self, false_or, eq_comm (a := level)]
  · rw [exec_btnSenseChange level rfl (by simp [hh]), btnSenseCheck_withSeq,
      if_pos (.inl (by simp only [Sequencer.btnSeen, hh]))]
  · rw [exec_btnSenseMaskEnd rfl hh, btnSenseCheck_withSeq, if_pos (.inl (by simp only [Sequencer.btnSeen, hp]))]
  · rw [exec_btnSenseMaskEnd rfl hh, btnSenseCheck_withSeq, if_neg]
    simp only [Sequencer.btnSeen, hp, hsnap, Bool.not_eq_self, or_self, not_false_iff]

end Sys2Proof.Machine
end

section
/-! PROOFS. The statements of chapters 7 and 8 that start no engine: INSERT (R111, R112), CACHE_SET (R148) and CACHE_QUERY (R149). -/

namespace Sys2Proof.Machine

variable {s : State} {b : Bay} {tag : Byte}

/-! ## INSERT (R111, R112) -/

theorem exec_insert (tag bay : Byte) (capacity : BitVec 32) (writable eject : Bool) (s : State) :
    exec (.insert tag bay capacity (onOffByte writable) (onOffByte eject)) s =
      .next (takeRequest 0x30 tag (onBay bay (insertAct capacity.toNat writable eject)) s) :=
  congrArg (fun act => Host.Outcome.next (takeRequest 0x30 tag act s))
    ((withField_onOffByte writable _).trans (withField_onOffByte eject _))

theorem insertAct_zero (writable eject : Bool) : insertAct 0 writable eject b s = refuse .range s := rfl

theorem insertAct_occupied {capacity : Nat} (writable eject : Bool) (hc : capacity ≠ 0) (hm : (s.slice b).medium.state ≠ .empty) :
    insertAct capacity writable eject b s = refuse .state s := (if_neg hc).trans (if_pos hm)

theorem insertAct_placed {capacity : Nat} (writable eject : Bool) (hc : capacity ≠ 0) (hm : (s.slice b).medium.state = .empty) {g : Nat}
    (hg : g = nextGeneration (s.slice b).medium.generation) :
    insertAct capacity writable eject b s =
      accept (s.withSlice b { s.slice b with medium := ⟨.present, g, some capacity, writable, eject, true⟩ }) (le2 g) := by
  subst hg
  exact (if_neg hc).trans (if_neg (not_not.mpr hm))

theorem nextGeneration_eq {g : Nat} (h : g ≤ 65535) : nextGeneration g = if g = 65535 then 1 else g + 1 :=
  if_congr ⟨fun h' => le_antisymm h h', fun h' => h'.ge⟩ rfl rfl

/-- Settles O42: the three cases of the owner. -/
theorem insertPlacesADisk : Obligations.InsertPlacesADisk := by
  unfold Obligations.InsertPlacesADisk
  intro s tag b capacity writable eject ht
  have hne : capacity ≠ 0 → capacity.toNat ≠ 0 := fun h hz => h (BitVec.eq_of_toNat_eq hz)
  rw [exec_insert]
  refine ⟨fun hc hm hg g hgen => ?_, fun hc => ?_, fun hc hm => ?_⟩
  · exact congrArg Host.Outcome.next (takeRequest_onBay_accepted (kind := 0x30) ht
      (insertAct_placed (s := toHunt s) (b := b) writable eject (hne hc) hm (hgen.trans (nextGeneration_eq hg).symm)))
  · subst hc
    exact congrArg Host.Outcome.next (takeRequest_onBay_refused (kind := 0x30) (c := .range) ht (insertAct_zero writable eject))
  · exact congrArg Host.Outcome.next (takeRequest_onBay_refused (kind := 0x30) (c := .state) ht
      (insertAct_occupied (s := toHunt s) (b := b) writable eject (hne hc) hm))

/-! ## CACHE_SET and CACHE_QUERY (R148, R149) -/

/-- The entries of a bay in a state outside FREE, counted as the statement counts them. -/
theorem Cache.countIn_eq (c : Cache) (b : Bay) {st : EntryState} (h : st ≠ .free) :
    c.countIn b st = c.count fun e => e.state = st && e.key.any fun k => k.bay = b := by
  unfold Cache.countIn Cache.count CacheEntry.heldBy
  congr 1
  funext e
  by_cases he : e.state = st
  · simp [he, h]
  · simp [he]

theorem reservedPlaces_eq_sub (s : State) : usedPlaces s - s.cache.writebacks.length = reservedPlaces s := by
  unfold usedPlaces
  omega

theorem cacheSetAct_accepted (f : CacheFields) {c : Cache} (hc : c = { s.cache with
      reserves := f.reserves.map fun r => min r.toNat 32
      readAhead := min f.readAhead.toNat 7
      fetchTimeout := max 1 (min f.fetchTimeout.toNat 60)
      writebackTimeout := max 1 (min f.writebackTimeout.toNat 120) }) :
    cacheSetAct f s = accept (s.withCache c)
      (f.reserves.toList.flatMap (fun r => le1 (min r.toNat 32)) ++ le1 (min f.readAhead.toNat 7) ++
        le1 (max 1 (min f.fetchTimeout.toNat 60)) ++ le1 (max 1 (min f.writebackTimeout.toNat 120))) := by
  have hreserves : (f.reserves.map fun r => min r.toNat 32).toList.flatMap le1 =
      f.reserves.toList.flatMap fun r => le1 (min r.toNat 32) := by
    rw [Vector.toList_map, List.flatMap_map]
  subst hc
  rw [← hreserves]
  rfl

/-- Settles O47: both owners as they stand, the counts by bay and the reservations as the statement writes them. -/
theorem cacheSettingsAndQuery : Obligations.CacheSettingsAndQuery := by
  unfold Obligations.CacheSettingsAndQuery
  refine fun s tag ht => ⟨fun f => ?_, ?_⟩
  · exact congrArg Host.Outcome.next (takeRequest_accepted (kind := 0x32) ht (cacheSetAct_accepted (s := toHunt s) f rfl))
  · refine congrArg Host.Outcome.next ((takeRequest_accepted (kind := 0x33) ht (by rfl)).trans ?_)
    rw [reservedPlaces_eq_sub]
    simp only [← le1_bay, ← Cache.countIn_eq s.cache _ (st := .filling) nofun, ← Cache.countIn_eq s.cache _ (st := .valid) nofun,
      ← Cache.countIn_eq s.cache _ (st := .dirty) nofun, Cache.encodeSettings]
    rfl

end Sys2Proof.Machine
end

section
/-! PROOFS. What the transfer engines may change as the ports take a report (R121 to R124, R133, R136): no queue, status, medium or
writeback record, no DIRTY entry, and nothing of a bay that has no request queued. -/

namespace Sys2Proof.Machine

variable {s t u : State} {b : Bay} {c d : Cache} {i : Fin 256} {busy : Bay → Prop}

/-! ## Entries and tables -/

/-- An entry before and after the engines' work: what it holds stays, or it was not DIRTY and is of a bay that is busy, or FREE. -/
def CacheEntry.Moves (busy : Bay → Prop) (e f : CacheEntry) : Prop :=
  (f.state = e.state ∧ f.key = e.key ∧ f.data = e.data ∧ f.owner = e.owner) ∨
  (e.state ≠ .dirty ∧ f.state ≠ .dirty ∧ ∀ b, f.heldBy b = true → busy b)

/-- The cache before and after the engines' work. -/
structure Cache.Moves (busy : Bay → Prop) (c d : Cache) : Prop where
  entries : ∀ i, (c.entry i).Moves busy (d.entry i)
  writebacks : d.writebacks = c.writebacks ∧ d.lastWritebackId = c.lastWritebackId
  fetches : ∃ new, d.fetches = c.fetches ++ new ∧ ∀ r ∈ new, busy r.bay

theorem CacheEntry.Moves.refl (e : CacheEntry) : e.Moves busy e := .inl ⟨rfl, rfl, rfl, rfl⟩

theorem CacheEntry.Moves.trans {e f g : CacheEntry} (h : e.Moves busy f) (h' : f.Moves busy g) : e.Moves busy g := by
  rcases h' with ⟨hs', hk', hd', ho'⟩ | ⟨hs', hg, hb⟩
  · rcases h with ⟨hs, hk, hd, ho⟩ | ⟨he, hf, hb⟩
    · exact .inl ⟨hs'.trans hs, hk'.trans hk, hd'.trans hd, ho'.trans ho⟩
    · refine .inr ⟨he, hs' ▸ hf, fun b hg => hb b ?_⟩
      rwa [CacheEntry.heldBy, ← hs', ← hk']
  · refine .inr ⟨?_, hg, hb⟩
    rcases h with ⟨hs, _⟩ | ⟨he, _⟩
    · exact hs ▸ hs'
    · exact he

theorem Cache.Moves.refl (c : Cache) : Cache.Moves busy c c :=
  ⟨fun _ => .refl _, ⟨rfl, rfl⟩, [], (List.append_nil _).symm, nofun⟩

theorem Cache.Moves.trans {e : Cache} (h : Cache.Moves busy c d) (h' : Cache.Moves busy d e) : Cache.Moves busy c e := by
  obtain ⟨new, hn, hb⟩ := h.fetches
  obtain ⟨new', hn', hb'⟩ := h'.fetches
  refine ⟨fun i => (h.entries i).trans (h'.entries i), ⟨h'.writebacks.1.trans h.writebacks.1, h'.writebacks.2.trans h.writebacks.2⟩,
    new ++ new', by rw [hn', hn, List.append_assoc], fun r hr => ?_⟩
  exact (List.mem_append.mp hr).elim (hb r) (hb' r)

theorem Cache.Moves.of_entries (h : ∀ i, (c.entry i).Moves busy (d.entry i)) (hf : d.fetches = c.fetches) (hw : d.writebacks = c.writebacks)
    (hl : d.lastWritebackId = c.lastWritebackId) : Cache.Moves busy c d :=
  ⟨h, ⟨hw, hl⟩, [], by rw [hf, List.append_nil], nofun⟩

/-- A transfer's entry is pinned and records a use (R123, R124). -/
theorem Cache.Moves.pin (c : Cache) (i : Fin 256) : Cache.Moves busy c ((c.modEntry i fun e => { e with pinned := true }).use i) := by
  refine .of_entries (fun j => ?_) rfl rfl rfl
  rw [Cache.entry_pin]
  split
  case isTrue h => exact h ▸ .inl ⟨rfl, rfl, rfl, rfl⟩
  case isFalse => exact .refl _

/-- A victim is taken for a block of a busy bay (R133, R134). -/
theorem Cache.Moves.take {k : BlockKey} {st : EntryState} {o : Option Owner} (hv : c.victim b = some i) (hk : busy k.bay)
    (hst : st ≠ .dirty) : Cache.Moves busy c (c.take i k st o) := by
  refine .of_entries (fun j => ?_) rfl rfl rfl
  rw [Cache.entry_take]
  split
  case isTrue h =>
    subst h
    obtain ⟨_, hs⟩ := Cache.victim_spec hv
    refine .inr ⟨fun hd => ?_, hst, fun b' hb => ?_⟩
    · rw [hd] at hs
      exact hs.elim nofun nofun
    · simp only [CacheEntry.heldBy, Bool.and_eq_true, Option.any_some, decide_eq_true_eq] at hb
      exact hb.2 ▸ hk
  case isFalse => exact .refl _

/-! ## The state -/

/-- A bay with a request queued. -/
def State.waits (s : State) (b : Bay) : Prop := (s.slice b).port.queue ≠ []

/-- What stands after the engines' work on `s`. -/
structure Engines (s t : State) : Prop where
  port : ∀ b, (t.slice b).port = { (s.slice b).port with transfer := (t.slice b).port.transfer }
  idle : ∀ b, (s.slice b).port.queue = [] → (t.slice b).port = (s.slice b).port
  cache : Cache.Moves s.waits s.cache t.cache

theorem Engines.refl (s : State) : Engines s s := ⟨fun _ => rfl, fun _ _ => rfl, .refl _⟩

theorem Engines.queue (h : Engines s t) (b : Bay) : (t.slice b).port.queue = (s.slice b).port.queue := by rw [h.port b]

theorem Engines.sent (h : Engines s t) (b : Bay) : (t.slice b).port.sent = (s.slice b).port.sent := by rw [h.port b]

theorem Engines.waits (h : Engines s t) (hb : (t.slice b).port.queue ≠ []) : s.waits b := fun hs => hb ((h.queue b).trans hs)

/-- The start of a transfer for a busy bay is the engines' work. -/
theorem Engines.startTransfer {r : ServerRequest} (h : Engines s t) (hb : (t.slice b).port.queue ≠ [])
    (hc : Cache.Moves s.waits s.cache u.cache) (hu : ∀ b, (u.slice b).port = (t.slice b).port) :
    Engines s (startTransfer b r i u) := by
  have hslice (x : Bay) : ((Machine.startTransfer b r i u).slice x).port =
      { (u.slice x).port with transfer := ((Machine.startTransfer b r i u).slice x).port.transfer } := by
    by_cases hx : x = b
    · subst hx
      simp [Machine.startTransfer]
    · have : (Machine.startTransfer b r i u).slice x = u.slice x := State.slice_modSlice_ne _ b x _ hx
      rw [this]
  refine ⟨fun x => ?_, fun x hx => ?_, hc.trans (Cache.Moves.pin _ i)⟩
  · rw [hslice x, hu x, h.port x]
  · have hne : x ≠ b := fun e => h.waits hb (e ▸ hx)
    have : (Machine.startTransfer b r i u).slice x = u.slice x := State.slice_modSlice_ne _ b x _ hne
    rw [this, hu x, h.idle x hx]

/-- Asking for a fetch for a busy bay is the engines' work (R136). -/
theorem Engines.askFetch {block last : Nat} (h : Engines s t) (hb : (t.slice b).port.queue ≠ []) :
    Engines s (askFetch b block last t).1 := by
  have hport (x : Bay) : ((Machine.askFetch b block last t).1.slice x).port = (t.slice x).port := askFetch_same (p := .port x) nofun
  refine ⟨fun x => by rw [hport x, h.port x], fun x hx => by rw [hport x, h.idle x hx], ?_⟩
  unfold Machine.askFetch
  split
  · exact h.cache
  · dsimp only
    split
    · exact h.cache
    · obtain ⟨_, hm⟩ := takeVictims_keeps (b := b) (key := t.key b) (id := t.cache.nextFetchId)
        (fun _ _ d => Cache.Moves s.waits s.cache d ∧ d.fetches = t.cache.fetches)
        (fun n block rest d i hd hv => ⟨hd.1.trans (Cache.Moves.take hv (h.waits hb) nofun), hd.2⟩)
        (fetchExtent t b (last + t.cache.readAhead) 8 block) 0 t.cache ⟨h.cache, rfl⟩
      obtain ⟨hmoves, hfetches⟩ := hm
      refine ⟨hmoves.entries, hmoves.writebacks, ?_⟩
      obtain ⟨new, hn, hbusy⟩ := hmoves.fetches
      refine ⟨new ++ [_], by simp only [State.modCache_cache, hn, List.append_assoc]; rfl, fun r hr => ?_⟩
      refine (List.mem_append.mp hr).elim (hbusy r) fun hl => ?_
      rw [List.mem_singleton.mp hl]
      exact h.waits hb

theorem enginesKeep (s : State) : EngineKeeps (Engines s) where
  transfer _ _ _ _ hr _ _ _ _ h := h.startTransfer (List.ne_nil_of_mem hr) h.cache fun _ => rfl
  victim _ _ _ _ hr _ _ hv _ _ _ h :=
    h.startTransfer (List.ne_nil_of_mem hr) (h.cache.trans (Cache.Moves.take hv (h.waits (List.ne_nil_of_mem hr)) nofun)) fun _ => rfl
  ask _ _ _ _ hb h := h.askFetch hb

/-- The ports' taking of an event's reports is the engines' work. -/
theorem settle_engines (b : Bay) (s t : State) : Engines t (settle b s t) := (enginesKeep t).settle (.refl t)

theorem serve_engines (n : Nat) (rs : List Report) (s : State) : Engines s (serve n rs s) := (enginesKeep s).serve n rs s (.refl s)

/-! ## What follows -/

theorem Engines.moves_of_idle (h : Engines s t) (hb : (s.slice b).port.queue = []) (i : Fin 256) :
    (t.cache.entry i).heldBy b = true → (s.cache.entry i).heldBy b = true := by
  intro hi
  rcases h.cache.entries i with ⟨hs, hk, _⟩ | ⟨_, _, hbusy⟩
  · rwa [CacheEntry.heldBy, ← hs, ← hk]
  · exact absurd hb (hbusy b hi)

/-- Two caches count alike where each entry counts alike. -/
theorem Cache.count_congr {p q : CacheEntry → Bool} (h : ∀ i, p (c.entry i) = q (d.entry i)) : c.count p = d.count q := by
  have hmap : c.entries.toList.map p = d.entries.toList.map q := by
    apply List.ext_getElem (by simp)
    intro n h₁ h₂
    simpa [Cache.entry, Vector.get_eq_getElem] using h ⟨n, by simpa using h₁⟩
  have := congrArg (List.count true) hmap
  simpa [Cache.count, List.count, List.countP_map, Function.comp_def] using this

theorem Cache.count_eq_zero {p : CacheEntry → Bool} : c.count p = 0 ↔ ∀ i, p (c.entry i) = false := by
  simp only [Cache.count, List.countP_eq_zero, Vector.mem_toList_iff, Bool.not_eq_true]
  refine ⟨fun h i => h _ (Vector.getElem_mem i.isLt), fun h e he => ?_⟩
  obtain ⟨i, hi, rfl⟩ := Vector.getElem_of_mem he
  exact h ⟨i, hi⟩

/-- The DIRTY entries of every bay stay. -/
theorem Engines.dirtyCount (h : Engines s t) (b : Bay) : dirtyCount b t = dirtyCount b s := by
  refine Cache.count_congr fun i => ?_
  rcases h.cache.entries i with ⟨hs, hk, _⟩ | ⟨he, hf, _⟩
  · simp only [CacheEntry.heldBy, hs, hk]
  · simp [he, hf]

theorem Engines.fetch_mem (h : Engines s t) (hb : (s.slice b).port.queue = []) {r : FetchRecord} (hr : r ∈ t.cache.fetches) (hrb : r.bay = b) :
    r ∈ s.cache.fetches := by
  obtain ⟨new, hn, hbusy⟩ := h.cache.fetches
  rw [hn] at hr
  exact (List.mem_append.mp hr).resolve_right fun hnew => hbusy r hnew (hrb ▸ hb)

/-! ## With nothing queued (R121) -/

theorem judgePorts_quiet (ask : Bool) (h : s.quiet) (bs : List Bay) : judgePorts ask bs s = (s, []) := by
  induction bs with
  | nil => rfl
  | cons b rest ih =>
    have hj : judgeQueue ask b s = (s, []) := by
      unfold judgeQueue
      rw [h b]
      rfl
    unfold judgePorts
    rw [hj]
    dsimp only
    rw [ih]
    rfl

theorem serve_quiet (h : s.quiet) (n : Nat) : ∀ rs, serve n rs s = s := by
  induction n with
  | zero => exact fun rs => by cases rs <;> rfl
  | succ n ih =>
    intro rs
    cases rs with
    | nil => rfl
    | cons r rest =>
      unfold serve
      rw [judgePorts_quiet r.freed h]
      exact ih _

/-- With no request queued on any port no report moves anything. -/
theorem settle_quiet (b : Bay) (s : State) (h : t.quiet) : settle b s t = t := serve_quiet h _ _

end Sys2Proof.Machine
end

section
/-! PROOFS. What an abandoned transfer, a link going DOWN, an eject and a loss of power leave of a bay's slice and of the cache (R113 to R118,
R126, R141, R98). -/

namespace Sys2Proof.Machine

open State.Agrees (discarded discarded_dirty ejectPresent_eq dirtyCount_eq_zero)

variable {s t : State} {b : Bay} {i : Fin 256} {f : BayFlag}

/-! ## Flags by the slice -/

theorem flag_of_slice {x : Slice} (h : t.slice b = x) (f : BayFlag) : t.flag b f = x.flags.getLsbD f.bit := by rw [State.flag, h]

theorem flags_set (v : BitVec 19) (f g : BayFlag) : (v ||| BitVec.twoPow 19 g.bit).getLsbD f.bit = (v.getLsbD f.bit || decide (f = g)) := by
  have hbit : f.bit = g.bit ↔ f = g := ⟨fun h => by revert h; cases f <;> cases g <;> decide, fun h => h ▸ rfl⟩
  have hlt : f.bit < 19 := by cases f <;> decide
  simp [hlt, hbit]

/-! ## Abandonment and the link (R117, R126) -/

theorem abandon_none (h : (s.slice b).port.transfer = none) : abandon b s = s := by
  unfold abandon
  rw [h]

theorem abandon_some {x : Transfer} (h : (s.slice b).port.transfer = some x) :
    abandon b s = (s.modCache fun c => c.modEntry x.entry fun e =>
      if x.write then { e with pinned := false }.release else { e with pinned := false }).modPort b
        fun p => { p with transfer := none } := by
  unfold abandon
  rw [h]

@[simp] theorem abandon_slice (b : Bay) (s : State) :
    (abandon b s).slice b = { s.slice b with port := { (s.slice b).port with transfer := none } } := by
  cases h : (s.slice b).port.transfer with
  | none => rw [abandon_none h, ← h]
  | some x =>
    rw [abandon_some h]
    simp

theorem abandon_tables (b : Bay) (s : State) :
    (abandon b s).cache.fetches = s.cache.fetches ∧ (abandon b s).cache.writebacks = s.cache.writebacks := by
  cases h : (s.slice b).port.transfer with
  | none => rw [abandon_none h]; exact ⟨rfl, rfl⟩
  | some x => rw [abandon_some h]; exact ⟨rfl, rfl⟩

/-- Every DIRTY entry but that of a WRITE's transfer stays DIRTY with its block, and no other becomes so. -/
theorem abandon_dirtyCount (b c : Bay)
    (h : ∀ x, (s.slice b).port.transfer = some x → x.write = true →
      (s.cache.entry x.entry).heldBy c = true → (s.cache.entry x.entry).state ≠ .dirty) :
    dirtyCount c (abandon b s) = dirtyCount c s := by
  cases hx : (s.slice b).port.transfer with
  | none => rw [abandon_none hx]
  | some x =>
    rw [abandon_some hx]
    refine Cache.count_congr fun i => ?_
    simp only [State.modSlice_cache, State.modCache_cache, Cache.entry_modEntry]
    split
    case isFalse => rfl
    case isTrue hi =>
      subst hi
      split
      case isTrue hw =>
        have hd := h x hx hw
        cases hc : (s.cache.entry x.entry).heldBy c <;> simp_all [CacheEntry.heldBy, CacheEntry.release]
      case isFalse => rfl

@[simp] theorem forgetRequests_slice (b c : Bay) (s : State) : (forgetRequests b s).slice c = s.slice c := rfl

theorem linkDown_up (h : (s.slice b).port.up = true) :
    linkDown b s = setFlag b .mediaLink ((forgetRequests b (abandon b s)).modPort b fun p => { p with up := false, queue := [] }) := if_pos h

theorem linkDown_down (h : (s.slice b).port.up = false) : linkDown b s = s := if_neg (by simp [h])

theorem linkDown_slice (h : (s.slice b).port.up = true) :
    (linkDown b s).slice b = { s.slice b with
      port := { up := false, sent := (s.slice b).port.sent }
      flags := (s.slice b).flags ||| BitVec.twoPow 19 BayFlag.mediaLink.bit } := by
  rw [linkDown_up h]
  simp

theorem setFlag_cache (b : Bay) (f : BayFlag) (s : State) : (setFlag b f s).cache = s.cache := setFlag_same (p := .cache) rfl

theorem linkDown_cache (h : (s.slice b).port.up = true) :
    (linkDown b s).cache = { (abandon b s).cache with
      writebacks := s.cache.writebacks.map fun r => if r.bay = b then { r with request := none } else r } := by
  rw [linkDown_up h, setFlag_cache, ← (abandon_tables b s).2]
  rfl

/-- The port of a bay whose link is DOWN afterwards (R117). -/
theorem linkDown_port (h : (s.slice b).port.Wf) : ((linkDown b s).slice b).port = { up := false, sent := (s.slice b).port.sent } := by
  cases hup : (s.slice b).port.up with
  | true => rw [linkDown_slice hup]
  | false =>
    obtain ⟨hq, ht⟩ := h.down hup
    rw [linkDown_down hup, ← hq, ← ht, ← hup]

/-! ## What an eject leaves (R113 to R115, R141) -/

theorem discarded_slice (b : Bay) (s : State) :
    (discarded b s).slice b = { s.slice b with port := { (s.slice b).port with
      queue := [], transfer := none, sent := (s.slice b).port.sent ++ (s.slice b).port.queue.map fun r => .status r.tag .notReady } } := by
  have h : (discarded b s).slice b = (endRequests b (abandon b s)).slice b := rfl
  rw [h]
  simp [endRequests]

/-- The bay's FILLING and VALID entries are freed, its live fetch records become orphans, and its writeback records forget their requests. -/
theorem discarded_cache (b : Bay) (s : State) : (discarded b s).cache = { (abandon b s).cache with
    entries := (abandon b s).cache.entries.map fun e => if e.heldBy b && decide (e.state ≠ .dirty) then e.release else e
    fetches := orphanFetches b s.cache.fetches
    writebacks := s.cache.writebacks.map fun r => if r.bay = b then { r with request := none } else r } := by
  obtain ⟨hf, hw⟩ := abandon_tables b s
  rw [← hf, ← hw]
  refine congrArg (fun v => ({ (abandon b s).cache with entries := v, fetches := _, writebacks := _ } : Cache)) ?_
  change Vector.map _ (Vector.map _ (abandon b s).cache.entries) = _
  rw [Vector.map_map]
  refine congrArg (fun g => Vector.map g (abandon b s).cache.entries) (funext fun e => ?_)
  cases he : e.state <;> by_cases hb : e.key.any (fun k => k.bay = b) = true <;>
    simp [CacheEntry.heldBy, CacheEntry.release, he, hb]

theorem discarded_entry (b : Bay) (s : State) (i : Fin 256) : (discarded b s).cache.entry i =
    if ((abandon b s).cache.entry i).heldBy b && decide (((abandon b s).cache.entry i).state ≠ .dirty)
    then ((abandon b s).cache.entry i).release else (abandon b s).cache.entry i := by
  rw [discarded_cache]
  exact Cache.entry_mapEntries (abandon b s).cache i _

theorem discarded_dirtyCount (b : Bay) (s : State) : dirtyCount b (discarded b s) = dirtyCount b (abandon b s) := by
  refine Cache.count_congr fun i => ?_
  rw [discarded_entry]
  split
  case isTrue h =>
    obtain ⟨_, hd⟩ := Bool.and_eq_true_iff.mp h
    simp only [decide_eq_true_eq] at hd
    simp [CacheEntry.release, hd]
  case isFalse => rfl

/-- What is held is counted: a bay all of whose entries outside FREE are DIRTY holds as many as it has DIRTY. -/
theorem holding_eq_dirtyCount (h : ∀ i, (s.cache.entry i).heldBy b = true → (s.cache.entry i).state = .dirty) :
    s.cache.holding b = dirtyCount b s := by
  refine Cache.count_congr fun i => ?_
  cases hi : (s.cache.entry i).heldBy b with
  | false => rfl
  | true => simp [h i hi]

@[simp] theorem emptyMedium_slice (b : Bay) (s : State) : (emptyMedium b s).slice b = { s.slice b with
    medium := { state := .empty, generation := (s.slice b).medium.generation, changed := true }
    flags := (s.slice b).flags ||| BitVec.twoPow 19 BayFlag.mediaEjected.bit } := by
  simp [emptyMedium]

theorem emptyMedium_cache (b : Bay) (s : State) : (emptyMedium b s).cache = s.cache := setFlag_cache b _ _

/-- An eject of a PRESENT medium with no DIRTY entry. -/
theorem ejectPresent_clean (force : Bool) (h : dirtyCount b (abandon b s) = 0) :
    ejectPresent force b s = emptyMedium b (discarded b s) := by
  rw [ejectPresent_eq, discarded_dirtyCount, if_pos h]

theorem ejectPresent_forced (h : dirtyCount b (abandon b s) ≠ 0) : ejectPresent true b s = forceEject b (discarded b s) := by
  rw [ejectPresent_eq, discarded_dirtyCount, if_neg h, if_pos rfl]

theorem ejectPresent_pending (h : dirtyCount b (abandon b s) ≠ 0) :
    ejectPresent false b s = (discarded b s).modMedium b fun m => { m with state := .ejectPending } := by
  rw [ejectPresent_eq, discarded_dirtyCount, if_neg h, if_neg (by simp)]

/-! ## The eject at a loss of power (R118) -/

theorem powerOffEject_kept (h : (s.slice b).medium.state ≠ .present ∨ (s.slice b).medium.ejectOnPowerOff = false) : powerOffEject b s = s := by
  refine if_neg ?_
  rintro ⟨hp, he⟩
  exact h.elim (fun h => h hp) fun h => absurd (h.symm.trans he) (by decide)

theorem powerOffEject_ejects (hp : (s.slice b).medium.state = .present) (he : (s.slice b).medium.ejectOnPowerOff = true) :
    powerOffEject b s = ejectPresent false b s := if_pos ⟨hp, he⟩

/-- The link's going DOWN leaves the medium. -/
theorem linkDown_medium (b : Bay) (s : State) : ((linkDown b s).slice b).medium = (s.slice b).medium :=
  linkDown_same (p := .medium b) rfl rfl

theorem linkDown_flag (b : Bay) (s : State) (f : BayFlag) :
    (linkDown b s).flag b f = (s.flag b f || (decide (f = .mediaLink) && (s.slice b).port.up)) := by
  cases hup : (s.slice b).port.up with
  | true =>
    rw [flag_of_slice (linkDown_slice hup), flags_set]
    simp [State.flag]
  | false =>
    rw [linkDown_down hup]
    simp

/-- Two abandonments are one. -/
theorem abandon_linkDown_dirtyCount (b : Bay) (s : State) :
    dirtyCount b (abandon b (linkDown b s)) = dirtyCount b (abandon b s) := by
  cases hup : (s.slice b).port.up with
  | false => rw [linkDown_down hup]
  | true =>
    rw [abandon_none (by rw [linkDown_slice hup])]
    unfold dirtyCount
    rw [linkDown_cache hup]
    rfl

/-! ## An eject, whatever it comes to -/

theorem forceEject_port (b : Bay) (s : State) : ((forceEject b s).slice b).port = (s.slice b).port := by
  unfold forceEject
  rw [emptyMedium_slice]
  rfl

theorem ejectPresent_port (force : Bool) (b : Bay) (s : State) : ((ejectPresent force b s).slice b).port = { (s.slice b).port with
    queue := [], transfer := none, sent := (s.slice b).port.sent ++ (s.slice b).port.queue.map fun r => .status r.tag .notReady } := by
  by_cases hd : dirtyCount b (abandon b s) = 0
  · rw [ejectPresent_clean force hd, emptyMedium_slice, discarded_slice]
  · cases force with
    | true => rw [ejectPresent_forced hd, forceEject_port, discarded_slice]
    | false => rw [ejectPresent_pending hd, State.slice_modSlice_self, discarded_slice]

/-- The tables and the entries after an eject that forces nothing are those left once the requests are ended. -/
theorem ejectPresent_cache (b : Bay) (s : State) : (ejectPresent false b s).cache = (discarded b s).cache := by
  by_cases hd : dirtyCount b (abandon b s) = 0
  · rw [ejectPresent_clean false hd, emptyMedium_cache]
  · rw [ejectPresent_pending hd]
    rfl

theorem ejectPresent_flag (hf : f ≠ .mediaEjected) (b : Bay) (s : State) : (ejectPresent false b s).flag b f = s.flag b f := by
  by_cases hd : dirtyCount b (abandon b s) = 0
  · rw [ejectPresent_clean false hd, flag_of_slice (emptyMedium_slice b _), flags_set, discarded_slice]
    simp [hf, State.flag]
  · rw [ejectPresent_pending hd, flag_of_slice (State.slice_modSlice_self _ b _), discarded_slice]
    rfl

/-! ## The loss of power (R98) -/

/-- A bay before the reports of its loss of power are taken. -/
def unpowered (b : Bay) (s : State) : State := powerOffEject b (linkDown b s)

theorem unpowered_kept (h : (s.slice b).medium.state ≠ .present ∨ (s.slice b).medium.ejectOnPowerOff = false) :
    unpowered b s = linkDown b s := powerOffEject_kept (by rwa [linkDown_medium])

theorem unpowered_ejects (hp : (s.slice b).medium.state = .present) (he : (s.slice b).medium.ejectOnPowerOff = true) :
    unpowered b s = ejectPresent false b (linkDown b s) :=
  powerOffEject_ejects (by rwa [linkDown_medium]) (by rwa [linkDown_medium])

/-- An eject follows the link's going DOWN, or none does. -/
theorem unpowered_eq (b : Bay) (s : State) : unpowered b s = linkDown b s ∨ unpowered b s = ejectPresent false b (linkDown b s) := by
  unfold unpowered powerOffEject
  split
  · exact .inr rfl
  · exact .inl rfl

theorem unpowered_port (h : (s.slice b).port.Wf) : ((unpowered b s).slice b).port = { up := false, sent := (s.slice b).port.sent } := by
  have hd := linkDown_port h
  obtain he | he := unpowered_eq b s
  · rw [he, hd]
  · rw [he, ejectPresent_port, hd]
    simp

theorem unpowered_linkFlag (b : Bay) (s : State) :
    (unpowered b s).flag b .mediaLink = (s.flag b .mediaLink || (s.slice b).port.up) := by
  have hd := linkDown_flag b s .mediaLink
  obtain he | he := unpowered_eq b s
  · rw [he, hd]
    simp
  · rw [he, ejectPresent_flag (by decide), hd]
    simp

theorem unpowered_writebacks (h : (s.slice b).port.up = true) : (unpowered b s).cache.writebacks =
    s.cache.writebacks.map fun r => if r.bay = b then { r with request := none } else r := by
  obtain he | he := unpowered_eq b s
  · rw [he, linkDown_cache h]
  · rw [he, ejectPresent_cache, discarded_cache, linkDown_cache h]
    simp only [List.map_map]
    refine List.map_congr_left fun r _ => ?_
    by_cases hb : r.bay = b <;> simp [hb]

theorem orphanFetches_orphan {rs : List FetchRecord} {r : FetchRecord} (hr : r ∈ orphanFetches b rs) (hb : r.bay = b) : r.orphan = true := by
  obtain ⟨q, _, rfl⟩ := List.mem_map.mp hr
  by_cases h : q.bay = b
  · rw [if_pos h]
  · rw [if_neg h] at hb
    exact absurd hb h

/-- After the loss the monitor and the responder follow; the media side stays as the ports leave it. -/
theorem losePower_eq (own : Bool) (b : Bay) (s : State) : losePower own b s = leaveOn own b (settle b s (unpowered b s)) := rfl

theorem settled_flag (b : Bay) (s t : State) (f : BayFlag) : (settle b s t).flag b f = t.flag b f :=
  flag_of_same (serve_same (p := .flags b) rfl _ _ _) f

theorem settled_medium (b c : Bay) (s t : State) : ((settle b s t).slice c).medium = (t.slice c).medium :=
  serve_same (p := .medium c) rfl _ _ _

theorem losePower_flag (own : Bool) (b : Bay) (s : State) (f : BayFlag) : (losePower own b s).flag b f = (unpowered b s).flag b f := by
  rw [losePower_eq, flag_of_same (leaveOn_same (p := .flags b) (by simp) (by simp)), settled_flag]

theorem losePower_medium (own : Bool) (b : Bay) (s : State) :
    ((losePower own b s).slice b).medium = ((unpowered b s).slice b).medium := by
  rw [losePower_eq, leaveOn_same (p := .medium b) (by simp) (by simp), settled_medium]

/-- What the loss of power leaves of the ports and the cache is what the engines leave after it. -/
theorem losePower_engines (own : Bool) (b : Bay) (s : State) : Engines (unpowered b s) (losePower own b s) := by
  have h := settle_engines b s (unpowered b s)
  rw [losePower_eq]
  generalize settle b s (unpowered b s) = t at h ⊢
  have hport (c : Bay) : ((leaveOn own b t).slice c).port = (t.slice c).port := leaveOn_same (p := .port c) (by simp) (by simp)
  have hcache : (leaveOn own b t).cache = t.cache := leaveOn_same (p := .cache) (by simp) (by simp)
  exact ⟨fun c => by rw [hport c]; exact h.port c, fun c hc => by rw [hport c]; exact h.idle c hc, hcache ▸ h.cache⟩

/-- A bay that holds DIRTY entries alone and has no request queued keeps them so through the engines' work. -/
theorem Engines.held_dirty (h : Engines s t) (hq : (s.slice b).port.queue = [])
    (hd : ∀ i, (s.cache.entry i).heldBy b = true → (s.cache.entry i).state = .dirty) (i : Fin 256)
    (hi : (t.cache.entry i).heldBy b = true) : (t.cache.entry i).state = .dirty := by
  have hs := hd i (h.moves_of_idle hq i hi)
  rcases h.cache.entries i with ⟨hst, _⟩ | ⟨hne, _⟩
  · rw [hst, hs]
  · exact absurd hs hne

/-- A loss of power hands on to port, medium and responder all that R98 names. -/
theorem losePower_lost (own : Bool) (b : Bay) (s : State) : PowerLost b s (losePower own b s) := by
  have hE := losePower_engines own b s
  have hejects (hp : (s.slice b).medium.state = .present) (he : (s.slice b).medium.ejectOnPowerOff = true) :
      ((unpowered b s).slice b).port.queue = [] ∧ (unpowered b s).cache = (discarded b (linkDown b s)).cache := by
    rw [unpowered_ejects hp he, ejectPresent_port, ejectPresent_cache]
    exact ⟨rfl, rfl⟩
  have hheld (hp : (s.slice b).medium.state = .present) (he : (s.slice b).medium.ejectOnPowerOff = true) :
      (losePower own b s).cache.holding b = dirtyCount b (abandon b s) := by
    obtain ⟨hq, hc⟩ := hejects hp he
    rw [holding_eq_dirtyCount (hE.held_dirty hq fun i hi => by rw [hc] at hi ⊢; exact discarded_dirty hi), hE.dirtyCount,
      show dirtyCount b (unpowered b s) = dirtyCount b (discarded b (linkDown b s)) by unfold dirtyCount; rw [hc],
      discarded_dirtyCount, abandon_linkDown_dirtyCount]
  have hcount (hp : (s.slice b).medium.state = .present) (he : (s.slice b).medium.ejectOnPowerOff = true) :
      dirtyCount b (losePower own b s) = dirtyCount b (abandon b s) := by
    obtain ⟨_, hc⟩ := hejects hp he
    rw [hE.dirtyCount,
      show dirtyCount b (unpowered b s) = dirtyCount b (discarded b (linkDown b s)) by unfold dirtyCount; rw [hc],
      discarded_dirtyCount, abandon_linkDown_dirtyCount]
  refine ⟨fun hwf => ?_, ?_, fun hup => ?_, ?_, fun h => ?_, fun hp he hz => ?_, fun hp he hz hx => ?_, fun hp he r hr hb => ?_⟩
  · rw [hE.idle b (by rw [unpowered_port hwf]), unpowered_port hwf]
  · rw [losePower_flag, unpowered_linkFlag]
  · rw [hE.cache.writebacks.1, unpowered_writebacks hup]
  · have hr : ((mediaPowerLoss b s).slice b).responder = (s.slice b).responder := mediaPowerLoss_same (p := .responder b) rfl (by simp) rfl
    have hl : ((losePower own b s).slice b).responder =
        { ((mediaPowerLoss b s).slice b).responder with armed := none, j := 0 } := by
      simp [losePower, leaveOn, suspendMonitor, disarmResponder]
    rw [hl, hr]
  · rw [losePower_medium, losePower_flag, unpowered_kept h, linkDown_medium, linkDown_flag]
    simp
  · have hz' : dirtyCount b (abandon b (linkDown b s)) = 0 := by
      rw [abandon_linkDown_dirtyCount, abandon_dirtyCount b b fun x _ _ hi => dirtyCount_eq_zero.mp hz _ hi, hz]
    rw [hheld hp he, losePower_medium, losePower_flag, unpowered_ejects hp he, ejectPresent_clean false hz', emptyMedium_slice,
      flag_of_slice (emptyMedium_slice b _), flags_set, discarded_slice, ← abandon_linkDown_dirtyCount, hz']
    simp [linkDown_medium]
  · have hsame := abandon_dirtyCount b b fun x h hw _ => hx x h hw
    have hz' : dirtyCount b (abandon b (linkDown b s)) ≠ 0 := by
      rw [abandon_linkDown_dirtyCount, hsame]
      exact hz
    rw [hheld hp he, hcount hp he, hsame, losePower_medium, losePower_flag, unpowered_ejects hp he, ejectPresent_pending hz',
      State.slice_modSlice_self, flag_of_slice (State.slice_modSlice_self _ b _), discarded_slice]
    refine ⟨by simp [linkDown_medium], ?_, rfl, rfl⟩
    exact (linkDown_flag b s .mediaEjected).trans (by simp)
  · obtain ⟨hq, hc⟩ := hejects hp he
    have hm := hE.fetch_mem hq hr hb
    rw [hc, discarded_cache] at hm
    exact orphanFetches_orphan hm hb

end Sys2Proof.Machine
end

section
/-! PROOFS. What the sequencer's transitions and a grant attempt leave of a bay's slice (R84 to R91, R95 to R98, R105). -/

namespace Sys2Proof.Machine

variable {s t u : State} {b c : Bay} {tag : Byte} {q : Sequencer} {f : BayFlag}

/-! ## Grant attempts and the other bays (R105) -/

theorem changeState_slice_ne (st : SeqState) (tm : Option (SeqTimer × Nat)) (s : State) (h : c ≠ b) :
    (changeState b st tm s).slice c = s.slice c := by
  simp [changeState, setFlag, State.slice_modSlice_ne _ _ _ _ h]

theorem startDetection_slice_ne (s : State) (h : c ≠ b) : (startDetection b s).slice c = s.slice c := by
  simp [startDetection, clearMatchers, State.slice_modSlice_ne _ _ _ _ h]

theorem reachOn_slice_ne (s : State) (h : c ≠ b) : (reachOn b s).slice c = s.slice c := by
  have heffects (t : State) : (reachOnEffects b t).slice c = t.slice c := by
    simp [reachOnEffects, armResponder, State.slice_modSlice_ne _ _ _ _ h]
  unfold reachOn
  dsimp only
  split
  · rw [startDetection_slice_ne _ h, heffects, release_slice, changeState_slice_ne _ _ _ h]
  · rw [heffects, release_slice, changeState_slice_ne _ _ _ h]

theorem grantHead_slice_ne (rest : List Bay) (s : State) (h : c ≠ b) : (grantHead b rest s).slice c = s.slice c := by
  unfold grantHead
  dsimp only
  split
  · rw [reachOn_slice_ne _ h, changeState_slice_ne _ _ _ h, State.modGrant_slice]
  · rw [changeState_slice_ne _ _ _ h, State.modGrant_slice]

theorem grantHead_granted_ne (rest : List Bay) (s : State) (h : c ≠ b) :
    (grantHead b rest s).grant.granted.get c = s.grant.granted.get c := by
  unfold grantHead
  dsimp only
  split
  · rw [reachOn_grant, changeState_grant]
    simp only [State.modGrant_grant, get_set_ne _ h]
  · rw [changeState_grant]
    simp only [State.modGrant_grant, get_set_ne _ h]

/-- A bay that does not wait is none of an attempt's, and no bay starts to wait (R105). -/
theorem attemptFrom_apart : ∀ (q : List Bay) (s : State), s.grant.queue = q → c ∉ q →
    (attemptFrom q s).slice c = s.slice c ∧ (attemptFrom q s).grant.granted.get c = s.grant.granted.get c ∧
      c ∉ (attemptFrom q s).grant.queue := by
  intro q
  induction q with
  | nil => exact fun s hq _ => ⟨rfl, rfl, by rw [attemptFrom, hq]; simp⟩
  | cons b rest ih =>
    intro s hq hc
    obtain ⟨hne, hrest⟩ := not_or.mp fun h => hc (List.mem_cons.mpr h)
    unfold attemptFrom
    split
    · obtain ⟨hslice, hgranted, hqueue⟩ := ih _ (grantHead_queue b rest s) hrest
      exact ⟨hslice.trans (grantHead_slice_ne rest s hne), hgranted.trans (grantHead_granted_ne rest s hne), hqueue⟩
    · exact ⟨rfl, rfl, by rw [hq]; exact hc⟩

theorem attempt_slice (h : c ∉ s.grant.queue) : (attempt s).slice c = s.slice c := (attemptFrom_apart _ s rfl h).1

theorem attempt_granted (h : c ∉ s.grant.queue) : (attempt s).grant.granted.get c = s.grant.granted.get c :=
  (attemptFrom_apart _ s rfl h).2.1

theorem attempt_queue (h : c ∉ s.grant.queue) : c ∉ (attempt s).grant.queue := (attemptFrom_apart _ s rfl h).2.2

theorem attempt_cache (s : State) : (attempt s).cache = s.cache := attempt_same (p := .cache) rfl

/-! ## The slice of the bay that changes -/

@[simp] theorem changeState_slice (b : Bay) (st : SeqState) (tm : Option (SeqTimer × Nat)) (s : State) :
    (changeState b st tm s).slice b = { s.slice b with
      sequencer := { (s.slice b).sequencer with state := st, timer := tm }
      flags := (s.slice b).flags ||| BitVec.twoPow 19 BayFlag.powerState.bit } := by
  simp [changeState]

@[simp] theorem suspendMonitor_slice (own : Bool) (b : Bay) (s : State) : (suspendMonitor own b s).slice b = { s.slice b with
    monitor := if own && (s.slice b).monitor.state = .acting then (s.slice b).monitor else (s.slice b).monitor.suspend } := by
  simp [suspendMonitor]

@[simp] theorem leaveOn_slice (own : Bool) (b : Bay) (s : State) : (leaveOn own b s).slice b = { s.slice b with
    responder := { (s.slice b).responder with armed := none, j := 0 }
    monitor := if own && (s.slice b).monitor.state = .acting then (s.slice b).monitor else (s.slice b).monitor.suspend } := by
  simp [leaveOn, disarmResponder]

theorem Monitor.suspend_departed (m : Monitor) : m.Departed m.suspend := by
  unfold Monitor.suspend
  exact ⟨fun h => if_pos h, fun h => if_neg h⟩

/-- A monitor that is none's own request in the making departs. -/
theorem departed_of_suspend {m n : Monitor} {own : Bool} (ho : own = false)
    (h : n = if own && m.state = .acting then m else m.suspend) : m.Departed n := by
  subst h ho
  exact m.suspend_departed

theorem changeState_powerState (b : Bay) (st : SeqState) (tm : Option (SeqTimer × Nat)) (s : State) :
    (changeState b st tm s).flag b .powerState = true := by
  rw [flag_of_slice (changeState_slice b st tm s), flags_set]
  simp

/-! ## A loss of power and its flags, monitor and store -/

theorem unpowered_flag (hl : f ≠ .mediaLink) (he : f ≠ .mediaEjected) (b : Bay) (s : State) :
    (unpowered b s).flag b f = s.flag b f := by
  have hd := linkDown_flag b s f
  simp only [hl, decide_false, Bool.false_and, Bool.or_false] at hd
  obtain hu | hu := unpowered_eq b s
  · rw [hu, hd]
  · rw [hu, ejectPresent_flag he, hd]

/-- A loss of power flags MEDIA_LINK and MEDIA_EJECTED alone. -/
theorem losePower_flag_kept (hl : f ≠ .mediaLink) (he : f ≠ .mediaEjected) (own : Bool) (b : Bay) (s : State) :
    (losePower own b s).flag b f = s.flag b f := by
  rw [losePower_flag, unpowered_flag hl he]

theorem losePower_monitor (own : Bool) (b : Bay) (s : State) : ((losePower own b s).slice b).monitor =
    if own && (s.slice b).monitor.state = .acting then (s.slice b).monitor else (s.slice b).monitor.suspend := by
  have hm : ((mediaPowerLoss b s).slice b).monitor = (s.slice b).monitor := mediaPowerLoss_same (p := .monitor b) rfl (by simp) rfl
  unfold losePower
  rw [leaveOn_slice]
  simp only [hm]

/-- The loss is told by what port, medium, responder, the cache and the two flags were before it. -/
theorem PowerLost.of_before (h : PowerLost b u t) (hp : (u.slice b).port = (s.slice b).port) (hm : (u.slice b).medium = (s.slice b).medium)
    (hr : (u.slice b).responder = (s.slice b).responder) (hc : u.cache = s.cache)
    (hl : u.flag b .mediaLink = s.flag b .mediaLink) (he : u.flag b .mediaEjected = s.flag b .mediaEjected) : PowerLost b s t := by
  have hd : dirtyCount b u = dirtyCount b s := by
    unfold dirtyCount
    rw [hc]
  obtain ⟨h1, h2, h3, h4, h5, h6, h7, h8⟩ := h
  simp only [hp, hm, hr, hc, hl, he, hd] at h1 h2 h3 h4 h5 h6 h7 h8
  exact ⟨h1, h2, h3, h4, h5, h6, h7, h8⟩

/-- What leaves the bay's slice and the cache after a loss leaves the loss as it is. -/
theorem PowerLost.of_after (h : PowerLost b s t) (hs : u.slice b = t.slice b) (hc : u.cache = t.cache) : PowerLost b s u := by
  have hf (f : BayFlag) : u.flag b f = t.flag b f := by
    unfold State.flag
    rw [hs]
  have hd : dirtyCount b u = dirtyCount b t := by
    unfold dirtyCount
    rw [hc]
  obtain ⟨h1, h2, h3, h4, h5, h6, h7, h8⟩ := h
  refine ⟨?_, ?_, ?_, ?_, ?_, ?_, ?_, ?_⟩ <;> simp only [hs, hc, hf, hd] <;> assumption

/-! ## HOLDOFF, and the other transitions that cut power (R87, R88, R90, R91) -/

@[simp] theorem Sequencer.pressEnd_btnSeen (q : Sequencer) : q.pressEnd.btnSeen = q.btnSeen := by
  unfold Sequencer.pressEnd
  cases hq : q.buttonHold with
  | none => rfl
  | some h =>
    dsimp only
    split
    · by_cases hl : q.btnSense = h.level <;> simp [Sequencer.btnSeen, hl, hq]
    · rfl

@[simp] theorem Sequencer.pressEnd_settings (q : Sequencer) : q.pressEnd.settings = q.settings := by
  unfold Sequencer.pressEnd
  split
  · split <;> rfl
  · rfl

@[simp] theorem Sequencer.pressEnd_fault (q : Sequencer) : q.pressEnd.fault = q.fault := by
  unfold Sequencer.pressEnd
  split
  · split <;> rfl
  · rfl

/-- What a transition that cuts a bay's power leaves, from `s` to `t`: POWER_STATE flagged beside what the loss itself flags (R98). -/
structure CutOff (own : Bool) (b : Bay) (s t : State) : Prop where
  down : (t.slice b).port.up = false
  lost : PowerLost b s t
  monitor : (t.slice b).monitor =
    if own && (s.slice b).monitor.state = .acting then (s.slice b).monitor else (s.slice b).monitor.suspend
  flags : ∀ f, f ≠ .mediaLink → f ≠ .mediaEjected → t.flag b f = (s.flag b f || decide (f = .powerState))

/-- The link is DOWN after a loss of power, whatever stood on the port. -/
theorem losePower_down (own : Bool) (b : Bay) (s : State) : ((losePower own b s).slice b).port.up = false := by
  have hdown : ((linkDown b s).slice b).port.up = false := by
    cases hup : (s.slice b).port.up with
    | true => rw [linkDown_slice hup]
    | false => rw [linkDown_down hup, hup]
  rw [(losePower_engines own b s).port b]
  obtain he | he := unpowered_eq b s
  · rw [he, hdown]
  · rw [he, ejectPresent_port, hdown]

theorem CutOff.powerState {own : Bool} (h : CutOff own b s t) : t.flag b .powerState = true := by
  rw [h.flags _ (by decide) (by decide)]
  simp

theorem CutOff.departed (h : CutOff false b s t) : Monitor.Departed (s.slice b).monitor (t.slice b).monitor :=
  departed_of_suspend rfl h.monitor

/-- After a transition of the sequencer alone the loss of power is that of the bay before it. -/
theorem losePower_cutOff (own : Bool) {x : Sequencer} {v : BitVec 19}
    (hu : u.slice b = { s.slice b with sequencer := x, flags := v }) (hc : u.cache = s.cache)
    (hf : ∀ f, u.flag b f = (s.flag b f || decide (f = .powerState))) : CutOff own b s (losePower own b u) where
  down := losePower_down own b u
  lost := (losePower_lost own b u).of_before (by rw [hu]) (by rw [hu]) (by rw [hu]) hc (by simp [hf]) (by simp [hf])
  monitor := by rw [losePower_monitor, hu]
  flags f hl he := by rw [losePower_flag_kept hl he, hf]

theorem CutOff.of_after {own : Bool} (h : CutOff own b s t) (hs : u.slice b = t.slice b) (hc : u.cache = t.cache) : CutOff own b s u where
  down := by rw [hs, h.down]
  lost := h.lost.of_after hs hc
  monitor := by rw [hs, h.monitor]
  flags f hl he := by
    rw [← h.flags f hl he]
    unfold State.flag
    rw [hs]

theorem changeState_cache (b : Bay) (st : SeqState) (tm : Option (SeqTimer × Nat)) (s : State) :
    (changeState b st tm s).cache = s.cache := changeState_same (p := .cache) (by simp) rfl

/-- The sequencer in HOLDOFF (R87 to R89). -/
def Sequencer.heldOff (v : Bool) (q : Sequencer) : Sequencer :=
  { Sequencer.pressEnd { q with state := .holdOff, timer := some (.holdOff, q.settings.holdOff) } with pendingOn := v }

section heldOff

variable (v : Bool) (q : Sequencer)

@[simp] theorem Sequencer.heldOff_state : (q.heldOff v).state = .holdOff := by simp [Sequencer.heldOff]

@[simp] theorem Sequencer.heldOff_timer : (q.heldOff v).timer = some (.holdOff, q.settings.holdOff) := by simp [Sequencer.heldOff]

@[simp] theorem Sequencer.heldOff_pendingOn : (q.heldOff v).pendingOn = v := rfl

@[simp] theorem Sequencer.heldOff_settings : (q.heldOff v).settings = q.settings := by simp [Sequencer.heldOff]

@[simp] theorem Sequencer.heldOff_fault : (q.heldOff v).fault = q.fault := by simp [Sequencer.heldOff]

@[simp] theorem Sequencer.heldOff_btnSeen : (q.heldOff v).btnSeen = q.btnSeen := Sequencer.pressEnd_btnSeen { q with
  state := .holdOff, timer := some (.holdOff, q.settings.holdOff) }

@[simp] theorem Sequencer.heldOff_pwrEn : (q.heldOff v).pwrEn = false := by simp [Sequencer.pwrEn, SeqState.powered]

@[simp] theorem Sequencer.heldOff_rst : (q.heldOff v).rst = false := by simp [Sequencer.rst]

@[simp] theorem Sequencer.heldOff_btn : (q.heldOff v).btn = false := by simp [Sequencer.btn]

end heldOff

/-- A bay before its power is lost on the way to HOLDOFF. -/
def holdingOff (v : Bool) (b : Bay) (s : State) : State :=
  (changeState b .holdOff (some (.holdOff, (s.slice b).sequencer.settings.holdOff)) s).modSeq b fun q => { q.pressEnd with pendingOn := v }

theorem holdingOff_slice (v : Bool) (b : Bay) (s : State) : (holdingOff v b s).slice b = { s.slice b with
    sequencer := (s.slice b).sequencer.heldOff v
    flags := (s.slice b).flags ||| BitVec.twoPow 19 BayFlag.powerState.bit } := by
  simp [holdingOff, Sequencer.heldOff]

theorem holdingOff_cache (v : Bool) (b : Bay) (s : State) : (holdingOff v b s).cache = s.cache := changeState_cache b .holdOff
  (some (.holdOff, (s.slice b).sequencer.settings.holdOff)) s

theorem holdingOff_grant (v : Bool) (b : Bay) (s : State) : (holdingOff v b s).grant = s.grant := changeState_grant b .holdOff
  (some (.holdOff, (s.slice b).sequencer.settings.holdOff)) s

theorem holdingOff_cutOff (own v : Bool) (b : Bay) (s : State) : CutOff own b s (losePower own b (holdingOff v b s)) :=
  losePower_cutOff own (holdingOff_slice v b s) (holdingOff_cache v b s) fun f => by
    rw [flag_of_slice (holdingOff_slice v b s), flags_set]
    rfl

theorem enterHoldOff_kept (own v : Bool) (h : (s.slice b).sequencer.state ≠ .powering) :
    enterHoldOff own v b s = losePower own b (holdingOff v b s) := (enterHoldOff_eq own v b s).trans (if_neg h)

theorem enterHoldOff_released (own v : Bool) (h : (s.slice b).sequencer.state = .powering) :
    enterHoldOff own v b s = attempt (release b (losePower own b (holdingOff v b s))) := (enterHoldOff_eq own v b s).trans (if_pos h)

theorem losePower_holdingOff_sequencer (own v : Bool) (b : Bay) (s : State) :
    ((losePower own b (holdingOff v b s)).slice b).sequencer = (s.slice b).sequencer.heldOff v := by
  rw [losePower_sequencer, holdingOff_slice]

theorem losePower_holdingOff_grant (own v : Bool) (b : Bay) (s : State) : (losePower own b (holdingOff v b s)).grant = s.grant := by
  rw [losePower_grant, holdingOff_grant]

/-- All that entering HOLDOFF leaves of a bay that does not wait. -/
theorem enterHoldOff_leaves (own v : Bool) (hb : b ∉ s.grant.queue) :
    CutOff own b s (enterHoldOff own v b s) ∧ ((enterHoldOff own v b s).slice b).sequencer = (s.slice b).sequencer.heldOff v ∧
    ((s.slice b).sequencer.state ≠ .powering → (enterHoldOff own v b s).grant = s.grant) ∧
    ((s.slice b).sequencer.state = .powering → s.grant.queue = [] →
      (enterHoldOff own v b s).grant = { s.grant with granted := s.grant.granted.set b none }) ∧
    (enterHoldOff own v b s).grant.granted.get b =
      (if (s.slice b).sequencer.state = .powering then none else s.grant.granted.get b) := by
  have hcut := holdingOff_cutOff own v b s
  have hseq := losePower_holdingOff_sequencer own v b s
  have hgrant := losePower_holdingOff_grant own v b s
  by_cases hp : (s.slice b).sequencer.state = .powering
  · rw [enterHoldOff_released own v hp, if_pos hp]
    generalize losePower own b (holdingOff v b s) = w at hcut hseq hgrant ⊢
    have hrelease : (release b w).grant = { s.grant with granted := s.grant.granted.set b none } := by rw [release_grant, hgrant]
    have hout : b ∉ (release b w).grant.queue := by rwa [hrelease]
    have hslice : (attempt (release b w)).slice b = w.slice b := (attempt_slice hout).trans (release_slice b b w)
    refine ⟨hcut.of_after hslice (attempt_cache _), by rw [hslice, hseq], fun h => absurd hp h, fun _ hq => ?_, ?_⟩
    · rw [attempt_empty (by rw [hrelease]; exact hq), hrelease]
    · rw [attempt_granted hout, hrelease, get_set_self]
  · rw [enterHoldOff_kept own v hp, if_neg hp]
    exact ⟨hcut, hseq, fun _ => hgrant, fun h => absurd h hp, by rw [hgrant]⟩

end Sys2Proof.Machine
end

section
/-! PROOFS. The statements of chapter 5 about the sequencer's timers, faults, sense inputs and the monitor's requests (R84 to R98). -/

namespace Sys2Proof.Machine

variable {s t u : State} {b c : Bay} {tag : Byte} {q : Sequencer} {f : BayFlag}

/-! ## A flag and the rest of its slice -/

/-- A flag is set before or after a change of the slice's other fields. -/
theorem setFlag_modSlice (b : Bay) (f : BayFlag) (s : State) (g : Slice → Slice)
    (hg : ∀ x v, g { x with flags := v } = { g x with flags := v }) (hu : ∀ x, (g x).unmasked = x.unmasked) :
    (setFlag b f s).modSlice b g = setFlag b f (s.modSlice b g) := by
  have hf (x : Slice) : (g x).flags = x.flags := (congrArg Slice.flags (hg x x.flags) :)
  rw [modSlice_eq_withSlice, setFlag_slice_self, hg]
  simp only [setFlag, modSlice_eq_withSlice, slice_withSlice_self, hf, hu]
  simp [raiseSummary, State.modLink, State.withSlice]

theorem modSlice_withSlice (s : State) (b : Bay) (x : Slice) (g : Slice → Slice) :
    (s.withSlice b x).modSlice b g = s.withSlice b (g x) := by simp [modSlice_eq_withSlice]

theorem suspendMonitor_setFlag (own : Bool) (b : Bay) (f : BayFlag) (s : State) :
    suspendMonitor own b (setFlag b f s) = setFlag b f (suspendMonitor own b s) := by
  unfold suspendMonitor State.modMonitor
  rw [setFlag_modSlice]
  all_goals
    intros
    rfl

theorem leaveOn_setFlag (own : Bool) (b : Bay) (f : BayFlag) (s : State) : leaveOn own b (setFlag b f s) = setFlag b f (leaveOn own b s) := by
  unfold leaveOn disarmResponder State.modResponder
  rw [setFlag_modSlice, suspendMonitor_setFlag]
  all_goals
    intros
    rfl

theorem reachOnEffects_setFlag (b : Bay) (f : BayFlag) (s : State) : reachOnEffects b (setFlag b f s) = setFlag b f (reachOnEffects b s) := by
  unfold reachOnEffects armResponder State.modResponder State.modMonitor
  rw [setFlag_modSlice, setFlag_modSlice]
  all_goals
    intros
    rfl

theorem startDetection_setFlag (b : Bay) (f : BayFlag) (s : State) : startDetection b (setFlag b f s) = setFlag b f (startDetection b s) := by
  unfold startDetection clearMatchers State.modHeartbeat State.modResponder State.modLine
  rw [setFlag_modSlice, setFlag_modSlice, setFlag_modSlice]
  all_goals
    intros
    rfl

/-! ## The transitions as slices -/

theorem suspendMonitor_withSlice (own : Bool) (x : Slice) : suspendMonitor own b (s.withSlice b x) = s.withSlice b { x with
    monitor := if own && x.monitor.state = .acting then x.monitor else x.monitor.suspend } := by
  unfold suspendMonitor State.modMonitor
  rw [modSlice_withSlice]

theorem leaveOn_withSlice (own : Bool) (x : Slice) : leaveOn own b (s.withSlice b x) = s.withSlice b { x with
    responder := { x.responder with armed := none, j := 0 }
    monitor := if own && x.monitor.state = .acting then x.monitor else x.monitor.suspend } := by
  unfold leaveOn disarmResponder State.modResponder
  rw [modSlice_withSlice, suspendMonitor_withSlice]

theorem reachOnEffects_withSlice (x : Slice) : reachOnEffects b (s.withSlice b x) = s.withSlice b { x with
    responder := if x.responder.enable then { x.responder with armed := some x.responder.window, j := 0 } else x.responder
    monitor := x.monitor.reachOn } := by
  unfold reachOnEffects armResponder State.modResponder State.modMonitor
  rw [modSlice_withSlice, modSlice_withSlice]

theorem startDetection_withSlice (x : Slice) : startDetection b (s.withSlice b x) = s.withSlice b { x with
    line := { x.line with receiver := .waitHigh, lowPeriod := none, rate := { x.line.rate with detection := some {} } }
    heartbeat := { x.heartbeat with j := 0 }
    responder := { x.responder with j := 0 } } := by
  unfold startDetection clearMatchers State.modHeartbeat State.modResponder State.modLine
  rw [modSlice_withSlice, modSlice_withSlice, modSlice_withSlice]

theorem changeState_eq (b : Bay) (st : SeqState) (tm : Option (SeqTimer × Nat)) (s : State) :
    changeState b st tm s = setFlag b .powerState (s.withSlice b { s.slice b with
      sequencer := { (s.slice b).sequencer with state := st, timer := tm } }) := rfl

/-! ## The timers (R85, R86, R89) -/

theorem timing_of {st : SeqState} {tm : SeqTimer} {n : Nat} (hs : (s.slice b).sequencer.state = st)
    (ht : (s.slice b).sequencer.timer = some (tm, n)) : timing b st tm s = true := by
  simp [timing, hs, ht]

theorem Monitor.reachOn_of (m : Monitor) (h : m.state = .suspended ∨ m.state = .acting) :
    m.reachOn = { m with state := .grace, timer := some m.settings.grace } := if_pos h

theorem exec_resetPulseTimerExpiry {n : Nat} (hq : q = (s.slice b).sequencer) (hs : q.state = .resetting)
    (ht : q.timer = some (.resetPulse, n)) (hm : (s.slice b).monitor.state = .suspended ∨ (s.slice b).monitor.state = .acting) :
    exec (.resetPulseTimerExpiry b) s = .next (setFlag b .powerState (s.withSlice b { s.slice b with
      sequencer := { q with state := .on, timer := none }
      responder := if (s.slice b).responder.enable
        then { (s.slice b).responder with armed := some (s.slice b).responder.window, j := 0 } else (s.slice b).responder
      monitor := { (s.slice b).monitor with state := .grace, timer := some (s.slice b).monitor.settings.grace } })) := by
  subst hq
  refine (if_pos (timing_of hs ht)).trans ?_
  rw [changeState_eq, reachOnEffects_setFlag, reachOnEffects_withSlice, Monitor.reachOn_of _ hm]

theorem exec_buttonPressTimerExpiry {n : Nat} (hq : q = (s.slice b).sequencer) (hs : q.state = .softStopping)
    (ht : q.timer = some (.buttonPress, n)) (hh : q.buttonHold = some ⟨q.btnSense, true⟩) :
    exec (.buttonPressTimerExpiry b) s = .next (s.withSeq b { q with timer := some (.softStopWait, q.settings.softStop), buttonHold := none }) := by
  subst hq
  have he : (s.slice b).sequencer.pressEnd = { (s.slice b).sequencer with buttonHold := none } := by
    unfold Sequencer.pressEnd
    rw [hh]
    simp
  refine (if_pos (timing_of hs ht)).trans (congrArg (fun q => Host.Outcome.next (s.withSeq b q)) ?_)
  dsimp only
  rw [he]

/-- The hold-off ends in OFF, or in QUEUED with pending-on set (R89). -/
theorem exec_holdOffTimerExpiry {n : Nat} (hs : (s.slice b).sequencer.state = .holdOff)
    (ht : (s.slice b).sequencer.timer = some (.holdOff, n)) : exec (.holdOffTimerExpiry b) s = .next
      (if (s.slice b).sequencer.pendingOn then joinQueue b (setPendingOn false b s) else suspendMonitor false b (changeState b .off none s)) := by
  refine (if_pos (timing_of hs ht)).trans ?_
  split <;> rfl

/-- A bay joins a queue whose attempt, if there is one, grants nothing (R103, R106). -/
theorem joinQueue_waits (h : s.grant.queue ≠ [] ∨ s.grant.sag = true ∨ s.grant.timer ≠ .ended ∨
      s.grant.budget < s.grant.sum + min (s.slice b).sequencer.settings.weight s.grant.budget) :
    joinQueue b s = (changeState b .queued none s).modGrant fun g => { g with queue := g.queue ++ [b] } := by
  unfold joinQueue
  dsimp only
  by_cases hq : s.grant.queue = []
  · rw [if_pos (by simp [hq])]
    refine attempt_idle fun c rest hc => ?_
    simp only [State.modGrant_grant, changeState_grant, hq, List.nil_append, List.cons.injEq] at hc
    obtain ⟨rfl, _⟩ := hc
    rw [Bool.eq_false_iff, Ne, grantable_iff]
    simp only [State.modGrant_grant, State.modGrant_slice, changeState_grant, changeState_sequencer_self]
    rintro ⟨hs, he, hw⟩
    obtain h | h | h | h := h
    · exact h hq
    · exact absurd (hs.symm.trans h) (by decide)
    · exact h he
    · exact absurd hw h.not_ge
  · rw [if_neg (by simpa using hq)]

theorem joined_eq (b : Bay) (s : State) :
    (changeState b .queued none s).modGrant (fun g => { g with queue := g.queue ++ [b] }) =
      setFlag b .powerState { s.withSeq b { (s.slice b).sequencer with state := .queued, timer := none } with
        grant := { s.grant with queue := s.grant.queue ++ [b] } } := rfl

/-! ## The monitor's requests (R73, R94) -/

theorem exec_monitorRequestTaken_reset (hs : (s.slice b).sequencer.state = .on) (hm : (s.slice b).monitor.state = .acting)
    (ho : (s.slice b).monitor.outstanding = some .reset) : exec (.monitorRequestTaken b) s =
      .next (enterResetting true b (s.withMonitor b { (s.slice b).monitor with outstanding := none })) := by
  change execMonitorRequestTaken b s = _
  unfold execMonitorRequestTaken
  rw [ho]
  exact congrArg Host.Outcome.next (if_pos (by simp [hs, hm]))

theorem exec_monitorRequestTaken_cycle (hs : (s.slice b).sequencer.state = .on) (hm : (s.slice b).monitor.state = .acting)
    (ho : (s.slice b).monitor.outstanding = some .cycle) : exec (.monitorRequestTaken b) s =
      .next (enterHoldOff true true b (s.withMonitor b { (s.slice b).monitor with outstanding := none })) := by
  change execMonitorRequestTaken b s = _
  unfold execMonitorRequestTaken
  rw [ho]
  exact congrArg Host.Outcome.next (if_pos (by simp [hs, hm]))

theorem exec_monitorRequestTaken_notes {r : WatchRequest} (h : (s.slice b).sequencer.state ≠ .on ∨ (s.slice b).monitor.state ≠ .acting)
    (ho : (s.slice b).monitor.outstanding = some r) :
    exec (.monitorRequestTaken b) s = .next (s.withMonitor b { (s.slice b).monitor with outstanding := none }) := by
  have hacts : (decide ((s.slice b).sequencer.state = .on) && decide ((s.slice b).monitor.state = .acting)) = false := by
    simpa [← not_and_or] using h
  change execMonitorRequestTaken b s = _
  unfold execMonitorRequestTaken
  rw [ho]
  dsimp only
  rw [hacts]
  cases r <;> rfl

/-- The bay enters RESETTING on its monitor's own request, which stays ACTING (R85, R97). -/
theorem enterResetting_acting (hm : (s.slice b).monitor.state = .acting) :
    enterResetting true b s = setFlag b .powerState (s.withSlice b { s.slice b with
      sequencer := { (s.slice b).sequencer with
        state := .resetting, timer := some (.resetPulse, (s.slice b).sequencer.settings.resetPulse) }
      responder := { (s.slice b).responder with armed := none, j := 0 } }) := by
  unfold enterResetting
  rw [changeState_eq, leaveOn_setFlag, leaveOn_withSlice]
  simp only [hm, decide_true, Bool.and_self, if_true]

@[simp] theorem withSeq_withSeq (s : State) (b : Bay) (p q : Sequencer) : (s.withSeq b p).withSeq b q = s.withSeq b q := by
  simp [State.withSeq]

/-- A hold-off that ends with pending-on set, where the queue it joins grants nothing (R89, R103). -/
theorem exec_holdOffTimerExpiry_queued {n : Nat} (hq : q = (s.slice b).sequencer) (hs : q.state = .holdOff)
    (ht : q.timer = some (.holdOff, n)) (hp : q.pendingOn = true)
    (hw : s.grant.queue ≠ [] ∨ s.grant.sag = true ∨ s.grant.timer ≠ .ended) :
    exec (.holdOffTimerExpiry b) s = .next (setFlag b .powerState
      { s.withSeq b { q with state := .queued, timer := none, pendingOn := false } with
        grant := { s.grant with queue := s.grant.queue ++ [b] } }) := by
  subst hq
  have hjoin := joinQueue_waits (s := s.withSeq b { (s.slice b).sequencer with pendingOn := false }) (b := b)
    (hw.imp_right fun h => h.imp_right .inl)
  rw [joined_eq, withSeq_withSeq] at hjoin
  refine (exec_holdOffTimerExpiry hs ht).trans ((congrArg Host.Outcome.next (if_pos hp)).trans ((congrArg Host.Outcome.next hjoin).trans ?_))
  simp only [State.withSeq, slice_withSlice_self]
  rfl

/-- A hold-off that ends with pending-on clear (R74, R89). -/
theorem exec_holdOffTimerExpiry_off {n : Nat} (hq : q = (s.slice b).sequencer) (hs : q.state = .holdOff)
    (ht : q.timer = some (.holdOff, n)) (hp : q.pendingOn = false) :
    exec (.holdOffTimerExpiry b) s = .next (setFlag b .powerState (s.withSlice b { s.slice b with
      sequencer := { q with state := .off, timer := none }, monitor := (s.slice b).monitor.suspend })) := by
  subst hq
  refine (exec_holdOffTimerExpiry hs ht).trans (congrArg Host.Outcome.next ((if_neg (by simp [hp])).trans ?_))
  rw [changeState_eq, suspendMonitor_setFlag, suspendMonitor_withSlice]
  rfl

/-- A cycle on the monitor's own request, which stays ACTING (R88, R94, R98). -/
theorem cycleTaken (hs : (s.slice b).sequencer.state = .on) (hm : (s.slice b).monitor.state = .acting)
    (hu : u = s.withMonitor b { (s.slice b).monitor with outstanding := none }) (ht : t = enterHoldOff true true b u) :
    CutOff true b u t ∧ PowerLost b s t ∧ (t.slice b).sequencer = (s.slice b).sequencer.heldOff true ∧
      (t.slice b).monitor = { (s.slice b).monitor with outstanding := none } ∧ t.grant = s.grant ∧ t.policy = s.policy := by
  have hslice : u.slice b = { s.slice b with monitor := { (s.slice b).monitor with outstanding := none } } := by
    rw [hu]
    exact slice_withSlice_self s b _
  have hcache : u.cache = s.cache := by rw [hu]; rfl
  have hgrant : u.grant = s.grant := by rw [hu]; rfl
  have hpolicy : u.policy = s.policy := by rw [hu]; rfl
  have hflag (f : BayFlag) : u.flag b f = s.flag b f := flag_of_slice hslice f
  clear hu
  have hkept : (enterHoldOff true true b u).policy = u.policy := enterHoldOff_same (p := .policy) rfl
  rw [← ht, hpolicy] at hkept
  rw [enterHoldOff_kept true true (by rw [hslice]; exact fun h => nomatch hs.symm.trans h)] at ht
  have hcut : CutOff true b u t := ht ▸ holdingOff_cutOff true true b u
  refine ⟨hcut, hcut.lost.of_before (by rw [hslice]) (by rw [hslice]) (by rw [hslice]) hcache (hflag _) (hflag _), ?_, ?_, ?_, ?_⟩
  · rw [ht, losePower_holdingOff_sequencer, hslice]
  · rw [hcut.monitor, hslice]
    simp [hm]
  · rw [ht, losePower_holdingOff_grant, hgrant]
  · exact hkept

/-- Settles O36: each timer's own case, and the monitor's request where the bay acts on it and where it does not. -/
theorem sequencerTimersAndRequests : Obligations.SequencerTimersAndRequests := by
  unfold Obligations.SequencerTimersAndRequests
  refine ⟨fun s b q n hq => ⟨exec_resetPulseTimerExpiry hq, exec_buttonPressTimerExpiry hq, fun hs ht hp => ?_,
      exec_holdOffTimerExpiry_queued hq⟩, fun s b => ⟨fun hs hm ho => ?_, fun hs hm ho => ?_, fun h ho => ?_⟩⟩
  · exact ⟨_, (s.slice b).monitor.suspend_departed, exec_holdOffTimerExpiry_off hq hs ht hp⟩
  · rw [exec_monitorRequestTaken_reset hs hm ho]
    refine congrArg Host.Outcome.next ((enterResetting_acting (by simpa [State.withMonitor] using hm)).trans ?_)
    simp [State.withMonitor]
  · obtain ⟨hcut, hlost, hseq, hmonitor, hgrant, hpolicy⟩ := cycleTaken hs hm rfl rfl
    refine ⟨_, exec_monitorRequestTaken_cycle hs hm ho, ?_⟩
    rw [hseq]
    exact ⟨by simp, by simp, by simp, by simp, hmonitor, hcut.down, hlost, hcut.powerState, hgrant, hpolicy⟩
  · obtain ⟨r, hr⟩ := Option.ne_none_iff_exists'.mp ho
    exact exec_monitorRequestTaken_notes h hr

end Sys2Proof.Machine
end

section
/-! PROOFS. The statements of chapter 5 about the power-good and soft-stop timeouts (R84, R87, R90) and the changes of PGOOD (R91 to R95). -/

namespace Sys2Proof.Machine

variable {s t u : State} {b : Bay} {q : Sequencer} {f : BayFlag}

/-! ## Timeouts (R84, R87, R90) -/

theorem losePower_policy (own : Bool) (b : Bay) (s : State) : (losePower own b s).policy = s.policy := losePower_same (p := .policy) rfl

/-- A bay that enters HOLDOFF from SOFT_STOPPING, from what a flag or a sense level beforehand left of it. -/
theorem softStop_holdOff (hs : (u.slice b).sequencer.state ≠ .powering) {x : Sequencer} {v : BitVec 19}
    (hu : u.slice b = { s.slice b with sequencer := x, flags := v }) (hc : u.cache = s.cache) (hg : u.grant = s.grant)
    (hp : u.policy = s.policy) (hl : u.flag b .mediaLink = s.flag b .mediaLink)
    (he : u.flag b .mediaEjected = s.flag b .mediaEjected) (ht : t = enterHoldOff false false b u) :
    CutOff false b u t ∧ PowerLost b s t ∧ (t.slice b).sequencer = x.heldOff false ∧
      Monitor.Departed (s.slice b).monitor (t.slice b).monitor ∧ t.grant = s.grant ∧ t.policy = s.policy := by
  have hkept : (enterHoldOff false false b u).policy = u.policy := enterHoldOff_same (p := .policy) rfl
  rw [← ht, hp] at hkept
  rw [enterHoldOff_kept false false hs] at ht
  have hcut : CutOff false b u t := ht ▸ holdingOff_cutOff false false b u
  refine ⟨hcut, hcut.lost.of_before (by rw [hu]) (by rw [hu]) (by rw [hu]) hc hl he, ?_, ?_, ?_, hkept⟩
  · rw [ht, losePower_holdingOff_sequencer, hu]
  · have := hcut.departed
    rwa [hu] at this
  · rw [ht, losePower_holdingOff_grant, hg]

/-- A bay's loss of power, from what a transition and its flags beforehand left of it. -/
theorem losePower_leaves {x : Sequencer} {v : BitVec 19} (hu : u.slice b = { s.slice b with sequencer := x, flags := v })
    (hc : u.cache = s.cache) (hg : u.grant = s.grant) (hp : u.policy = s.policy) (hl : u.flag b .mediaLink = s.flag b .mediaLink)
    (he : u.flag b .mediaEjected = s.flag b .mediaEjected) (ht : t = losePower false b u) :
    PowerLost b s t ∧ (t.slice b).port.up = false ∧ (t.slice b).sequencer = x ∧
      Monitor.Departed (s.slice b).monitor (t.slice b).monitor ∧ t.grant = s.grant ∧ t.policy = s.policy ∧
      ∀ {f}, f ≠ .mediaLink → f ≠ .mediaEjected → t.flag b f = u.flag b f := by
  subst ht
  exact ⟨(losePower_lost false b u).of_before (by rw [hu]) (by rw [hu]) (by rw [hu]) hc hl he, losePower_down false b u,
    by rw [losePower_sequencer, hu], departed_of_suspend rfl (by rw [losePower_monitor, hu]), by rw [losePower_grant, hg],
    by rw [losePower_policy, hp], fun hl he => losePower_flag_kept hl he false b u⟩

/-- What a power-good timeout leaves of the bay before its power is lost (R90). -/
def faulted (b : Bay) (s : State) : State :=
  setFlag b .powerFault ((changeState b .fault none s).modSeq b fun q => { q with fault := .powerGoodTimeout })

theorem faulted_slice (b : Bay) (s : State) : (faulted b s).slice b = { s.slice b with
    sequencer := { (s.slice b).sequencer with state := .fault, timer := none, fault := .powerGoodTimeout }
    flags := (s.slice b).flags ||| BitVec.twoPow 19 BayFlag.powerState.bit ||| BitVec.twoPow 19 BayFlag.powerFault.bit } := by
  simp [faulted]

theorem faulted_flag (b : Bay) (s : State) (f : BayFlag) :
    (faulted b s).flag b f = (s.flag b f || decide (f = .powerState) || decide (f = .powerFault)) := by
  rw [flag_of_slice (faulted_slice b s), flags_set, flags_set]
  rfl

theorem faulted_cache (b : Bay) (s : State) : (faulted b s).cache = s.cache :=
  (setFlag_cache b _ _).trans (changeState_cache b .fault none s)

theorem faulted_grant (b : Bay) (s : State) : (faulted b s).grant = s.grant :=
  (setFlag_grant b _ _).trans (changeState_grant b .fault none s)

theorem exec_powerGoodTimerExpiry {n : Nat} (hs : (s.slice b).sequencer.state = .powering)
    (ht : (s.slice b).sequencer.timer = some (.powerGood, n)) (hq : s.grant.queue = []) :
    exec (.powerGoodTimerExpiry b) s = .next (release b (losePower false b (faulted b s))) := by
  have hexec : exec (.powerGoodTimerExpiry b) s = .next (attempt (release b (losePower false b (faulted b s)))) :=
    if_pos (timing_of hs ht)
  rw [hexec, attempt_empty]
  rw [release_grant, losePower_grant, faulted_grant]
  exact hq

theorem exec_softStopWaitExpiry {n : Nat} (hs : (s.slice b).sequencer.state = .softStopping)
    (ht : (s.slice b).sequencer.timer = some (.softStopWait, n)) : exec (.softStopWaitExpiry b) s = .next (enterHoldOff false false b
      (setFlag b .powerFault (s.withSeq b { (s.slice b).sequencer with fault := .softStopTimeout }))) :=
  if_pos (timing_of hs ht)

/-- A bay in FAULT has lost its power (R90, R98). -/
theorem faulted_lost (ht : t = losePower false b (faulted b s)) :
    PowerLost b s t ∧ (t.slice b).port.up = false ∧
      (t.slice b).sequencer = { (s.slice b).sequencer with state := .fault, timer := none, fault := .powerGoodTimeout } ∧
      Monitor.Departed (s.slice b).monitor (t.slice b).monitor ∧ t.grant = s.grant ∧ t.policy = s.policy ∧
      ∀ {f}, f ≠ .mediaLink → f ≠ .mediaEjected →
        t.flag b f = (s.flag b f || decide (f = .powerState) || decide (f = .powerFault)) := by
  obtain ⟨h1, h2, h3, h4, h5, h6, h7⟩ := losePower_leaves (faulted_slice b s) (faulted_cache b s) (faulted_grant b s)
    (setFlag_same (p := .policy) rfl) (by simp [faulted_flag]) (by simp [faulted_flag]) ht
  exact ⟨h1, h2, h3, h4, h5, h6, fun hl he => (h7 hl he).trans (faulted_flag b s _)⟩

/-- Settles O37: FAULT and HOLDOFF each cut the bay's power after their flag and reason are set. -/
theorem powerFaultsAreFlagged : Obligations.PowerFaultsAreFlagged := by
  unfold Obligations.PowerFaultsAreFlagged
  rintro s b q n rfl
  refine ⟨fun hs ht hq => ?_, fun hs ht => ?_⟩
  · obtain ⟨w, hw⟩ : ∃ w, w = losePower false b (faulted b s) := ⟨_, rfl⟩
    have hexec := exec_powerGoodTimerExpiry hs ht hq
    obtain ⟨hlost, hdown, hseq, hmonitor, hgrant, hpolicy, hflag⟩ := faulted_lost hw
    rw [← hw] at hexec
    refine ⟨_, hexec, ?_⟩
    have hslice : (release b w).slice b = w.slice b := release_slice b b w
    have hreleased (f : BayFlag) : (release b w).flag b f = w.flag b f := flag_of_slice hslice f
    rw [hslice, hseq, hreleased, hreleased, hflag (by decide) (by decide), hflag (by decide) (by decide), release_grant, hgrant]
    exact ⟨rfl, rfl, rfl, rfl, rfl, by simp, by simp, hdown, hlost.of_after hslice rfl, hmonitor, hpolicy⟩
  · obtain ⟨u, hu⟩ : ∃ u, u = setFlag b .powerFault (s.withSeq b { (s.slice b).sequencer with fault := .softStopTimeout }) := ⟨_, rfl⟩
    have hslice : u.slice b = { s.slice b with
        sequencer := { (s.slice b).sequencer with fault := .softStopTimeout }
        flags := (s.slice b).flags ||| BitVec.twoPow 19 BayFlag.powerFault.bit } := by
      rw [hu]
      simp [State.withSeq]
    have hflag (f : BayFlag) : u.flag b f = (s.flag b f || decide (f = .powerFault)) := by
      rw [flag_of_slice hslice, flags_set]
      rfl
    have hexec := exec_softStopWaitExpiry hs ht
    rw [← hu] at hexec
    obtain ⟨hcut, hlost, hseq, hdep, hgrant, hpolicy⟩ := softStop_holdOff (s := s) (t := enterHoldOff false false b u)
      (by rw [hslice]; exact fun h => nomatch hs.symm.trans h) hslice (by rw [hu]; exact setFlag_cache b _ _)
      (by rw [hu]; exact setFlag_grant b _ _) (by rw [hu]; exact setFlag_same (p := .policy) rfl) (by simp [hflag]) (by simp [hflag]) rfl
    refine ⟨_, hexec, ?_⟩
    rw [hseq]
    refine ⟨by simp, by simp, by simp, by simp, by simp, ?_, hcut.powerState, hcut.down, hlost, hdep, hgrant, hpolicy⟩
    rw [hcut.flags _ (by decide) (by decide), hflag]
    simp

/-! ## PGOOD (R91 to R95) -/

/-- The level of PGOOD is taken and compared with the snapshot (R92, R93). -/
def sensed (level : Bool) (b : Bay) (s : State) : State :=
  setFlagIf (level != (s.slice b).sequencer.snapshotPgood) b .senseChanged (s.withSeq b { (s.slice b).sequencer with pgood := level })

theorem sensed_eq (level : Bool) (b : Bay) (s : State) : sensed level b s =
    if (s.slice b).sequencer.snapshotPgood = level then s.withSeq b { (s.slice b).sequencer with pgood := level }
    else setFlag b .senseChanged (s.withSeq b { (s.slice b).sequencer with pgood := level }) := by
  unfold sensed setFlagIf
  cases level <;> cases (s.slice b).sequencer.snapshotPgood <;> rfl

theorem exec_pgoodChange_same {level : Bool} (h : (s.slice b).sequencer.pgood = level) : exec (.pgoodChange b level) s = .next s := if_pos h

theorem exec_pgoodChange {level : Bool} : (s.slice b).sequencer.pgood = (!level) → exec (.pgoodChange b level) s =
    match (s.slice b).sequencer.state, level with
    | .powering, true => .next (attempt (reachOn b (sensed level b s)))
    | .softStopping, false => .next (enterHoldOff false false b (sensed level b s))
    | .on, false => .next (serverStopped b (sensed level b s))
    | .resetting, false => .next (serverStopped b (sensed level b s))
    | _, _ => .next (sensed level b s) := by
  intro h
  refine (if_neg (by simp [h])).trans ?_
  cases (s.slice b).sequencer.state <;> cases level <;> rfl

/-- The slice of a bay that reaches ON from POWERING (R84, R95). -/
def Slice.reached (x : Slice) : Slice :=
  let y := { x with
    sequencer := { x.sequencer with state := .on, timer := none }
    responder := if x.responder.enable then { x.responder with armed := some x.responder.window, j := 0 } else x.responder
    monitor := x.monitor.reachOn }
  if x.line.config.detectOnPowerOn then
    { y with
      line := { y.line with receiver := .waitHigh, lowPeriod := none, rate := { y.line.rate with detection := some {} } }
      heartbeat := { y.heartbeat with j := 0 }
      responder := { y.responder with j := 0 } }
  else y

theorem reachOn_eq (b : Bay) (s : State) : reachOn b s = setFlag b .powerState
    ((s.modSlice b Slice.reached).modGrant fun g => { g with granted := g.granted.set b none }) := by
  have heffects : reachOnEffects b (release b (changeState b .on none s)) = setFlag b .powerState (release b (s.withSlice b { s.slice b with
      sequencer := { (s.slice b).sequencer with state := .on, timer := none }
      responder := if (s.slice b).responder.enable
        then { (s.slice b).responder with armed := some (s.slice b).responder.window, j := 0 } else (s.slice b).responder
      monitor := (s.slice b).monitor.reachOn })) := by
    rw [changeState_eq, show ∀ u : State, release b (setFlag b .powerState u) = setFlag b .powerState (release b u) from fun _ => rfl,
      reachOnEffects_setFlag, show ∀ x : Slice, release b (s.withSlice b x) = (release b s).withSlice b x from fun _ => rfl,
      reachOnEffects_withSlice]
    rfl
  unfold reachOn
  simp only [heffects]
  rw [modSlice_eq_withSlice, Slice.reached]
  simp only [setFlag_slice_self, release_slice, slice_withSlice_self]
  split
  · rw [startDetection_setFlag, show ∀ x : Slice, release b (s.withSlice b x) = (release b s).withSlice b x from fun _ => rfl,
      startDetection_withSlice]
    rfl
  · rfl

theorem Slice.reached_flags (x : Slice) (v : BitVec 19) : ({ x with flags := v } : Slice).reached = { x.reached with flags := v } := by
  unfold Slice.reached
  dsimp only
  split <;> rfl

theorem Slice.reached_unmasked (x : Slice) : x.reached.unmasked = x.unmasked := by
  unfold Slice.reached
  dsimp only
  split <;> rfl

/-- A rise of PGOOD in POWERING with no bay waiting (R84, R93, R95). -/
theorem exec_pgoodChange_rise (hs : (s.slice b).sequencer.state = .powering) (hp : (s.slice b).sequencer.pgood = false)
    (hq : s.grant.queue = []) {x : State}
    (hx : x = (s.modSlice b fun y => Slice.reached { y with sequencer := { y.sequencer with pgood := true } }).modGrant
      fun g => { g with granted := g.granted.set b none }) :
    exec (.pgoodChange b true) s = .next (setFlag b .powerState
      (if (s.slice b).sequencer.snapshotPgood = true then x else setFlag b .senseChanged x)) := by
  have hreach (u : State) (hu : u.grant.queue = []) : attempt (reachOn b u) = setFlag b .powerState
      ((u.modSlice b Slice.reached).modGrant fun g => { g with granted := g.granted.set b none }) := by
    rw [attempt_empty (by rw [reachOn_grant]; exact hu), reachOn_eq]
  have hcomm (u : State) : (setFlag b .senseChanged u).modSlice b Slice.reached = setFlag b .senseChanged (u.modSlice b Slice.reached) :=
    setFlag_modSlice b _ u _ Slice.reached_flags Slice.reached_unmasked
  rw [exec_pgoodChange (by simp [hp]), hs, sensed_eq, hx]
  have hgrant : (s.withSeq b { (s.slice b).sequencer with pgood := true }).grant = s.grant := rfl
  have hslice : (s.withSeq b { (s.slice b).sequencer with pgood := true }).modSlice b Slice.reached =
      s.modSlice b fun y => Slice.reached { y with sequencer := { y.sequencer with pgood := true } } := modSlice_withSlice s b _ _
  generalize s.withSeq b { (s.slice b).sequencer with pgood := true } = w at hgrant hslice ⊢
  rw [← hslice]
  dsimp only
  split
  · rw [hreach w (by rw [hgrant, hq])]
  · rw [hreach _ (by rw [setFlag_grant, hgrant, hq]), hcomm]
    rfl

/-! ### Falls of PGOOD (R87, R91) -/

theorem sensed_slice (level : Bool) (b : Bay) (s : State) : ∃ v, (sensed level b s).slice b = { s.slice b with
    sequencer := { (s.slice b).sequencer with pgood := level }, flags := v } := by
  rw [sensed_eq]
  split
  · exact ⟨_, by rw [State.withSeq, slice_withSlice_self]⟩
  · exact ⟨_, by rw [setFlag_slice_self, State.withSeq, slice_withSlice_self]⟩

theorem sensed_flag (level : Bool) (b : Bay) (s : State) (f : BayFlag) : (sensed level b s).flag b f =
    (s.flag b f || (decide (f = .senseChanged) && decide ((s.slice b).sequencer.snapshotPgood ≠ level))) := by
  have hw : (s.withSeq b { (s.slice b).sequencer with pgood := level }).flag b f = s.flag b f :=
    by simp [State.flag, State.withSeq]
  rw [sensed_eq]
  split
  case isTrue h =>
    rw [hw]
    simp [h]
  case isFalse h =>
    rw [flag_setFlag, hw]
    simp [h, Bool.or_comm]

theorem sensed_same {p : Part} (level : Bool) (h : p ≠ .sequencer b) (hf : p.flagging b = false) : p.Same s (sensed level b s) := by
  have hw : p.Same s (s.withSeq b { (s.slice b).sequencer with pgood := level }) := modSeq_same (f := fun q => { q with pgood := level }) h
  exact hw.trans (setFlagIf_same hf)

/-- What a server that stops by itself leaves of the bay before its power is lost (R91). -/
def stopped (b : Bay) (s : State) : State := setFlag b .serverStopped (changeState b .off none s)

theorem stopped_slice (b : Bay) (s : State) : (stopped b s).slice b = { s.slice b with
    sequencer := { (s.slice b).sequencer with state := .off, timer := none }
    flags := (s.slice b).flags ||| BitVec.twoPow 19 BayFlag.powerState.bit ||| BitVec.twoPow 19 BayFlag.serverStopped.bit } := by
  simp [stopped]

theorem stopped_flag (b : Bay) (s : State) (f : BayFlag) :
    (stopped b s).flag b f = (s.flag b f || decide (f = .powerState) || decide (f = .serverStopped)) := by
  rw [flag_of_slice (stopped_slice b s), flags_set, flags_set]
  rfl

theorem stopped_same {p : Part} (h : p ≠ .sequencer b) (hf : p.flagging b = false) : p.Same s (stopped b s) :=
  (changeState_same h hf).trans (setFlag_same hf)

theorem serverStopped_eq (b : Bay) (s : State) : serverStopped b s = losePower false b (stopped b s) := rfl

theorem exec_pgoodChange_stops (hs : (s.slice b).sequencer.state = .on ∨ (s.slice b).sequencer.state = .resetting)
    (hp : (s.slice b).sequencer.pgood = true) :
    exec (.pgoodChange b false) s = .next (losePower false b (stopped b (sensed false b s))) := by
  rw [exec_pgoodChange (by simp [hp]), ← serverStopped_eq]
  obtain h | h := hs <;> rw [h]

theorem exec_pgoodChange_softStopped (hs : (s.slice b).sequencer.state = .softStopping) (hp : (s.slice b).sequencer.pgood = true) :
    exec (.pgoodChange b false) s = .next (enterHoldOff false false b (sensed false b s)) := by
  rw [exec_pgoodChange (by simp [hp]), hs]

/-- What the line, the heartbeat and the responder of a bay are once it reaches ON with PGOOD seen high (R27, R63, R84, R95). -/
theorem Slice.reached_rise {x : Slice} {l : Line} {h : Heartbeat} {r : Responder}
    (hoff : x.line.config.detectOnPowerOn = false →
      l = x.line ∧ h = x.heartbeat ∧ (x.responder.enable = false → r = x.responder))
    (hon : x.line.config.detectOnPowerOn = true →
      l = { x.line with
        receiver := .waitHigh, lowPeriod := none, rate := { x.line.rate with detection := some ⟨none, 0, 0⟩ } } ∧
      h = { x.heartbeat with j := 0 } ∧ (x.responder.enable = false → r = { x.responder with j := 0 }))
    (harm : x.responder.enable = true → r = { x.responder with armed := some x.responder.window, j := 0 }) :
    Slice.reached { x with sequencer := { x.sequencer with pgood := true } } = { x with
      line := l, heartbeat := h, responder := r, sequencer := { x.sequencer with pgood := true, state := .on, timer := none }
      monitor := if x.monitor.state = .suspended ∨ x.monitor.state = .acting
        then { x.monitor with state := .grace, timer := some x.monitor.settings.grace } else x.monitor } := by
  unfold Slice.reached Monitor.reachOn
  cases hd : x.line.config.detectOnPowerOn with
  | false =>
    obtain ⟨rfl, rfl, hr⟩ := hoff hd
    cases he : x.responder.enable with
    | false =>
      obtain rfl := hr he
      simp
    | true =>
      obtain rfl := harm he
      simp [he]
  | true =>
    obtain ⟨rfl, rfl, hr⟩ := hon hd
    cases he : x.responder.enable with
    | false =>
      obtain rfl := hr he
      simp [he]
    | true =>
      obtain rfl := harm he
      simp [he]

/-- Settles O34: the change alone, the rise that brings a POWERING bay to ON, and the two falls that cut power. -/
theorem pgoodChangesAreTaken : Obligations.PgoodChangesAreTaken := by
  unfold Obligations.PgoodChangesAreTaken
  refine ⟨?_, fun s b hs hp hwf => ?_, ?_⟩
  · rintro s b q rfl
    refine ⟨fun level => exec_pgoodChange_same, fun hs level hp => ?_, fun hs hp hq l h r x hoff hdet hen hx => ?_⟩
    · rw [exec_pgoodChange hp, ← sensed_eq]
      obtain h | h | h | h := hs <;> rw [h]
    · refine exec_pgoodChange_rise hs hp hq (hx.trans ?_)
      refine congrArg (fun y => (s.withSlice b y).modGrant fun g => { g with granted := g.granted.set b none }) (Eq.symm ?_)
      exact Slice.reached_rise (x := s.slice b) hoff hdet hen
  · obtain ⟨v, hv⟩ := sensed_slice false b s
    have hx := stopped_slice b (sensed false b s)
    simp only [hv] at hx
    have hflag (f : BayFlag) : (stopped b (sensed false b s)).flag b f = _ := (stopped_flag b _ f).trans (by rw [sensed_flag])
    have hexec := exec_pgoodChange_stops hs hp
    have hsame {p : Part} (h : p ≠ .sequencer b) (hf : p.flagging b = false) : p.Same s (stopped b (sensed false b s)) :=
      (sensed_same false h hf).trans (stopped_same h hf)
    obtain ⟨hlost, hdown, hseq, hdep, hgrant, hpolicy, hkept⟩ := losePower_leaves hx (hsame (p := .cache) (by simp) rfl)
      (hsame (p := .grant) (by simp) rfl) (hsame (p := .policy) (by simp) rfl) (by simp [hflag]) (by simp [hflag]) rfl
    refine ⟨_, hexec, ?_⟩
    rw [hseq, hlost.port hwf, hkept (by decide) (by decide), hkept (by decide) (by decide), hflag, hflag]
    exact ⟨rfl, rfl, rfl, rfl, by simp, by simp, rfl, rfl, rfl, hlost, hdep, hgrant, hpolicy⟩
  · rintro s b q rfl hs hp
    obtain ⟨v, hv⟩ := sensed_slice false b s
    have hflag := sensed_flag false b s
    have hexec := exec_pgoodChange_softStopped hs hp
    obtain ⟨hcut, hlost, hseq, hdep, hgrant, hpolicy⟩ := softStop_holdOff (by rw [hv]; exact fun h => nomatch hs.symm.trans h) hv
      (sensed_same (p := .cache) false (by simp) rfl) (sensed_same (p := .grant) false (by simp) rfl)
      (sensed_same (p := .policy) false (by simp) rfl) (by simp [hflag]) (by simp [hflag]) rfl
    refine ⟨_, hexec, ?_⟩
    rw [hseq, hcut.flags .serverStopped (by decide) (by decide), hcut.flags .powerFault (by decide) (by decide),
      hcut.flags .senseChanged (by decide) (by decide), hflag, hflag, hflag]
    exact ⟨by simp, by simp, by simp, by simp, by simp, Sequencer.heldOff_btnSeen false _, by simp, by simp, hcut.powerState, by simp, by simp,
      by simp, hlost, hdep, hgrant, hpolicy⟩

end Sys2Proof.Machine
end

section
/-! PROOFS. The statement of chapter 5 about the POWER actions that start a transition (R81 to R90). -/

namespace Sys2Proof.Machine

variable {s t u : State} {b : Bay} {tag : Byte} {q : Sequencer} {f : BayFlag} {act : Bay → State → Answer}

/-! ## The transitions -/

theorem joinQueue_granted (hq : s.grant.queue = []) (hg : s.grant.sag = false) (ht : s.grant.timer = .ended)
    (hw : s.grant.sum + min (s.slice b).sequencer.settings.weight s.grant.budget ≤ s.grant.budget) :
    joinQueue b s = grantHead b [] ((changeState b .queued none s).modGrant fun g => { g with queue := g.queue ++ [b] }) := by
  unfold joinQueue
  dsimp only
  rw [if_pos (by simp [hq]), attempt_single (b := b) (by simp [hq])]
  rw [grantable_iff]
  simp only [State.modGrant_grant, State.modGrant_slice, changeState_grant, changeState_sequencer_self]
  exact ⟨hg, ht, hw⟩

/-- A bay granted with PGOOD seen high goes on to ON (R84, R95). -/
theorem grantHead_on (rest : List Bay) (hp : (s.slice b).sequencer.pgood = true) :
    ((grantHead b rest s).slice b).sequencer = { (s.slice b).sequencer with state := .on, timer := none } ∧
      (grantHead b rest s).grant = { s.grant with queue := rest, granted := s.grant.granted.set b none } ∧
      (grantHead b rest s).flag b .powerState = true := by
  have he : grantHead b rest s = reachOn b (changeState b .powering
      (some (.powerGood, (s.slice b).sequencer.settings.powerGood))
      (s.modGrant fun g => { g with queue := rest, granted := g.granted.set b (some (effectiveWeight b s)) })) := by
    refine if_pos ?_
    rw [changeState_sequencer_self]
    exact hp
  rw [he, reachOn_sequencer_self, reachOn_grant, changeState_sequencer_self, changeState_grant]
  refine ⟨rfl, ?_, ?_⟩
  · simp only [State.modGrant_grant, Vector.set_set]
  · rw [reachOn_eq, flag_setFlag_self]

/-- A bay granted with PGOOD seen low waits for its power-good timer in POWERING (R84, R104). -/
theorem grantHead_waits (rest : List Bay) (hp : (s.slice b).sequencer.pgood = false) :
    ((grantHead b rest s).slice b).sequencer = { (s.slice b).sequencer with
        state := .powering, timer := some (.powerGood, (s.slice b).sequencer.settings.powerGood) } ∧
      (grantHead b rest s).grant = { s.grant with
        queue := rest, granted := s.grant.granted.set b (some (min (s.slice b).sequencer.settings.weight s.grant.budget)) } ∧
      (grantHead b rest s).flag b .powerState = true := by
  rw [grantHead_powering rest rfl hp]
  refine ⟨(setFlag_sequencer b b _ _).trans (congrArg Slice.sequencer (slice_withSlice_self s b _)), setFlag_grant b _ _,
    flag_setFlag_self b _ _⟩

/-- A bay that leaves the queue has lost no power (R83, R103, R74). -/
theorem leaveQueue_leaves (b : Bay) (s : State) :
    (leaveQueue b s).slice b = { s.slice b with
      sequencer := { (s.slice b).sequencer with state := .off, timer := none }
      flags := (s.slice b).flags ||| BitVec.twoPow 19 BayFlag.powerState.bit
      monitor := (s.slice b).monitor.suspend } ∧
    b ∉ (leaveQueue b s).grant.queue ∧
    (s.grant.queue.head? ≠ some b → (leaveQueue b s).grant = { s.grant with queue := s.grant.queue.filter fun c => c ≠ b }) := by
  obtain ⟨w, hw⟩ : ∃ w, w = suspendMonitor false b ((changeState b .off none s).modGrant fun g =>
    { g with queue := g.queue.filter fun x => x ≠ b }) := ⟨_, rfl⟩
  have hslice : w.slice b = { s.slice b with
      sequencer := { (s.slice b).sequencer with state := .off, timer := none }
      flags := (s.slice b).flags ||| BitVec.twoPow 19 BayFlag.powerState.bit
      monitor := (s.slice b).monitor.suspend } := by
    rw [hw]
    simp
  have hgrant : w.grant = { s.grant with queue := s.grant.queue.filter fun c => c ≠ b } := by
    rw [hw]
    simp
  have hout : b ∉ w.grant.queue := by simp [hgrant]
  have he : leaveQueue b s = if s.grant.queue.head? = some b then attempt w else w := by rw [hw]; rfl
  rw [he]
  split
  case isTrue h => exact ⟨(attempt_slice hout).trans hslice, attempt_queue hout, fun hn => absurd h hn⟩
  case isFalse => exact ⟨hslice, hout, fun _ => hgrant⟩

theorem enterSoftStopping_slice (b : Bay) (s : State) : (enterSoftStopping b s).slice b = { s.slice b with
    sequencer := Sequencer.pressStart { (s.slice b).sequencer with
      state := .softStopping, timer := some (.buttonPress, (s.slice b).sequencer.settings.button) }
    flags := (s.slice b).flags ||| BitVec.twoPow 19 BayFlag.powerState.bit
    responder := { (s.slice b).responder with armed := none, j := 0 }
    monitor := (s.slice b).monitor.suspend } := by
  simp [enterSoftStopping]

theorem enterResetting_slice (b : Bay) (s : State) : (enterResetting false b s).slice b = { s.slice b with
    sequencer := { (s.slice b).sequencer with
      state := .resetting, timer := some (.resetPulse, (s.slice b).sequencer.settings.resetPulse) }
    flags := (s.slice b).flags ||| BitVec.twoPow 19 BayFlag.powerState.bit
    responder := { (s.slice b).responder with armed := none, j := 0 }
    monitor := (s.slice b).monitor.suspend } := by
  simp [enterResetting]

/-- What a bay in FAULT is once it enters OFF (R90). -/
theorem leaveFault_slice (b : Bay) (s : State) : (suspendMonitor false b (changeState b .off none s)).slice b = { s.slice b with
    sequencer := { (s.slice b).sequencer with state := .off, timer := none }
    flags := (s.slice b).flags ||| BitVec.twoPow 19 BayFlag.powerState.bit
    monitor := (s.slice b).monitor.suspend } := by
  simp

theorem powerState_of_slice {x : Slice} {v : BitVec 19} (h : t.slice b = x) (hx : x.flags = v ||| BitVec.twoPow 19 BayFlag.powerState.bit) :
    t.flag b .powerState = true := by
  rw [flag_of_slice h, hx, flags_set]
  simp

/-! ## The requests (R81, R82) -/

/-- A POWER request taken, from the state its action leaves: its reply, and what stands after it. -/
theorem power_answered {fields : List Byte} (ht : takesRequest tag s) (ha : act b (toHunt s) = accept u fields)
    (hr : u.link.replies = s.link.replies) :
    ∃ t, Host.Outcome.next (takeRequest 0x28 tag (onBay (bayByte b) act) s) = (.next t : Host.Outcome State Fault Refusal) ∧
      t.link.replies = s.link.replies ++ [⟨0xA8, tag, 0 :: fields⟩] ∧ (∀ c, t.slice c = u.slice c) ∧ t.cache = u.cache ∧
      t.grant = u.grant ∧ t.policy = u.policy := by
  refine ⟨pushReply 0x28 tag (accept u fields), congrArg Host.Outcome.next ?_, ?_, fun _ => rfl, rfl, rfl, rfl⟩
  · rw [takeRequest_taken _ ht, onBay_bayByte, ha]
  · rw [← hr]
    rfl

theorem power_replied {x : Sequencer} (ht : takesRequest tag s) (ha : act b (toHunt s) = powerReply b u)
    (hr : u.link.replies = s.link.replies) (hx : (u.slice b).sequencer = x) :
    ∃ t, Host.Outcome.next (takeRequest 0x28 tag (onBay (bayByte b) act) s) = (.next t : Host.Outcome State Fault Refusal) ∧
      t.link.replies = s.link.replies ++ [⟨0xA8, tag, 0 :: (le1 x.state.code ++ bit x.pendingOn)⟩] ∧ (∀ c, t.slice c = u.slice c) ∧
      t.cache = u.cache ∧ t.grant = u.grant ∧ t.policy = u.policy :=
  power_answered ht (ha.trans (by rw [powerReply, hx])) hr

/-- A POWER request that records the last commanded state (R82). -/
theorem power_done {x : Sequencer} (on : Bool) (ht : takesRequest tag s) (ha : act b (toHunt s) = powerDone on b u)
    (hr : u.link.replies = s.link.replies) (hp : u.policy = s.policy) (hx : (u.slice b).sequencer = x) :
    ∃ t, Host.Outcome.next (takeRequest 0x28 tag (onBay (bayByte b) act) s) = (.next t : Host.Outcome State Fault Refusal) ∧
      t.link.replies = s.link.replies ++ [⟨0xA8, tag, 0 :: (le1 x.state.code ++ bit x.pendingOn)⟩] ∧ (∀ c, t.slice c = u.slice c) ∧
      t.cache = u.cache ∧ t.grant = u.grant ∧ PolicyStore.Commanded on b s.policy t.policy := by
  obtain ⟨t, he, hreply, hslice, hcache, hgrant, hpolicy⟩ := power_replied ht ha hr hx
  exact ⟨t, he, hreply, hslice, hcache, hgrant, hpolicy ▸ hp ▸ setLastCommanded_commanded on b u⟩

/-! ## The entries of Table 5-4 -/

/-- ON and CYCLE from OFF. -/
theorem power_joins (ht : takesRequest tag s) (hs : (s.slice b).sequencer.state = .off) {i : Instr}
    (hi : i = .powerOn tag (bayByte b) ∨ i = .powerCycle tag (bayByte b)) {x : Sequencer}
    (hx : ((joinQueue b (toHunt s)).slice b).sequencer = x) :
    ∃ t, exec i s = .next t ∧
      t.link.replies = s.link.replies ++ [⟨0xA8, tag, 0 :: (le1 x.state.code ++ bit x.pendingOn)⟩] ∧
      (∀ c, t.slice c = (joinQueue b (toHunt s)).slice c) ∧ t.grant = (joinQueue b (toHunt s)).grant ∧
      PolicyStore.Commanded true b s.policy t.policy := by
  have hon : powerOnAct b (toHunt s) = powerDone true b (joinQueue b (toHunt s)) := by simp [powerOnAct, hs]
  have hcycle : powerCycleAct b (toHunt s) = powerDone true b (joinQueue b (toHunt s)) := by simp [powerCycleAct, hs]
  have hreplies : (joinQueue b (toHunt s)).link.replies = s.link.replies := joinQueue_same (p := .replies) (s := toHunt s) rfl
  have hpolicy : (joinQueue b (toHunt s)).policy = s.policy := joinQueue_same (p := .policy) (s := toHunt s) rfl
  obtain rfl | rfl := hi
  · obtain ⟨t, he, hreply, hslice, _, hgrant, hcommanded⟩ := power_done true ht hon hreplies hpolicy hx
    exact ⟨t, he, hreply, hslice, hgrant, hcommanded⟩
  · obtain ⟨t, he, hreply, hslice, _, hgrant, hcommanded⟩ := power_done true ht hcycle hreplies hpolicy hx
    exact ⟨t, he, hreply, hslice, hgrant, hcommanded⟩

theorem joinQueue_waits_leaves (h : s.grant.queue ≠ [] ∨ s.grant.sag = true ∨ s.grant.timer ≠ .ended ∨
      s.grant.budget < s.grant.sum + min (s.slice b).sequencer.settings.weight s.grant.budget) :
    ((joinQueue b s).slice b).sequencer = { (s.slice b).sequencer with state := .queued, timer := none } ∧
      (joinQueue b s).grant = { s.grant with queue := s.grant.queue ++ [b] } ∧ (joinQueue b s).flag b .powerState = true := by
  rw [joinQueue_waits h]
  refine ⟨changeState_sequencer_self b _ _ s, ?_, changeState_powerState b _ _ s⟩
  rw [State.modGrant_grant, changeState_grant]

/-- A bay that joins an empty queue and is granted at once (R105, R106). -/
theorem joinQueue_granted_leaves (hq : s.grant.queue = []) (hg : s.grant.sag = false) (ht : s.grant.timer = .ended) {w : Nat}
    (hw : w = min (s.slice b).sequencer.settings.weight s.grant.budget) (hfit : s.grant.sum + w ≤ s.grant.budget) :
    (joinQueue b s).flag b .powerState = true ∧
    ((s.slice b).sequencer.pgood = false →
      ((joinQueue b s).slice b).sequencer = { (s.slice b).sequencer with
        state := .powering, timer := some (.powerGood, (s.slice b).sequencer.settings.powerGood) } ∧
      (joinQueue b s).grant = { s.grant with granted := s.grant.granted.set b (some w) }) ∧
    ((s.slice b).sequencer.pgood = true →
      ((joinQueue b s).slice b).sequencer = { (s.slice b).sequencer with state := .on, timer := none } ∧
      (joinQueue b s).grant = { s.grant with granted := s.grant.granted.set b none }) := by
  subst hw
  rw [joinQueue_granted hq hg ht hfit]
  obtain ⟨v, hv⟩ : ∃ v, v = (changeState b .queued none s).modGrant fun g => { g with queue := g.queue ++ [b] } := ⟨_, rfl⟩
  have hseq : (v.slice b).sequencer = { (s.slice b).sequencer with state := .queued, timer := none } := by
    rw [hv]
    exact changeState_sequencer_self b _ _ s
  have hgrant : v.grant = { s.grant with queue := [b] } := by
    rw [hv, State.modGrant_grant, changeState_grant, hq]
    rfl
  rw [← hv]
  cases hp : (s.slice b).sequencer.pgood with
  | false =>
    obtain ⟨h1, h2, h3⟩ := grantHead_waits (s := v) (b := b) [] (by rw [hseq, ← hp])
    rw [hseq] at h1 h2
    rw [hgrant] at h2
    exact ⟨h3, fun _ => ⟨h1, by rw [h2, ← hq]⟩, nofun⟩
  | true =>
    obtain ⟨h1, h2, h3⟩ := grantHead_on (s := v) (b := b) [] (by rw [hseq, ← hp])
    rw [hseq] at h1
    rw [hgrant] at h2
    exact ⟨h3, nofun, fun _ => ⟨h1, by rw [h2, ← hq]⟩⟩

/-- OFF_HARD that cuts power, and CYCLE from ON. -/
theorem power_cuts (pending on : Bool) (ht : takesRequest tag s) (ha : act b (toHunt s) = powerDone on b (enterHoldOff false pending b (toHunt s)))
    (hb : b ∉ s.grant.queue) (hq : q = (s.slice b).sequencer) :
    ∃ t, Host.Outcome.next (takeRequest 0x28 tag (onBay (bayByte b) act) s) = (.next t : Host.Outcome State Fault Refusal) ∧
      t.link.replies = s.link.replies ++ [⟨0xA8, tag, [0, 6, if pending then 1 else 0]⟩] ∧
      (t.slice b).sequencer.state = .holdOff ∧ (t.slice b).sequencer.timer = some (.holdOff, q.settings.holdOff) ∧
      (t.slice b).sequencer.pendingOn = pending ∧ (t.slice b).sequencer.pwrEn = false ∧ (t.slice b).sequencer.rst = false ∧
      (t.slice b).sequencer.btn = false ∧ (t.slice b).sequencer.settings = q.settings ∧ (t.slice b).sequencer.fault = q.fault ∧
      (t.slice b).port.up = false ∧ PowerLost b s t ∧ Monitor.Departed (s.slice b).monitor (t.slice b).monitor ∧
      (q.state ≠ .powering → t.grant = s.grant) ∧
      (q.state = .powering → s.grant.queue = [] → t.grant = { s.grant with granted := s.grant.granted.set b none }) ∧
      t.grant.granted.get b = (if q.state = .powering then none else s.grant.granted.get b) ∧
      t.flag b .powerState = true ∧ PolicyStore.Commanded on b s.policy t.policy := by
  subst hq
  obtain ⟨hcut, hseq, hgrant, hgrant', hget⟩ := enterHoldOff_leaves (s := toHunt s) false pending hb
  have hreplies : (enterHoldOff false pending b (toHunt s)).link.replies = s.link.replies :=
    enterHoldOff_same (p := .replies) (s := toHunt s) rfl
  have hpolicy : (enterHoldOff false pending b (toHunt s)).policy = s.policy := enterHoldOff_same (p := .policy) (s := toHunt s) rfl
  generalize enterHoldOff false pending b (toHunt s) = u at *
  obtain ⟨t, he, hreply, hslice, hcache, hg, hcommanded⟩ := power_done on ht ha hreplies hpolicy hseq
  refine ⟨t, he, ?_, ?_⟩
  · rw [hreply]
    cases pending <;> simp [le1, SeqState.code, bit]
  · have hlost : PowerLost b s u := hcut.lost.of_before rfl rfl rfl rfl rfl rfl
    have hflag : t.flag b .powerState = true := (flag_of_slice (hslice b) _).trans hcut.powerState
    rw [hslice b, hseq, hg]
    exact ⟨by simp, by simp, by simp, by simp, by simp, by simp, by simp, by simp, hcut.down, hlost.of_after (hslice b) hcache, hcut.departed,
      hgrant, hgrant', hget, hflag, hcommanded⟩

/-- ON and CYCLE from OFF, as the queue and the grant's three conditions have it. -/
theorem power_from_off (ht : takesRequest tag s) (hs : (s.slice b).sequencer.state = .off) (hp : (s.slice b).sequencer.pendingOn = false)
    {i : Instr} (hi : i = .powerOn tag (bayByte b) ∨ i = .powerCycle tag (bayByte b)) (hq : q = (s.slice b).sequencer) {w : Nat}
    (hw : w = min q.settings.weight s.grant.budget) :
    ∃ t, exec i s = .next t ∧ t.flag b .powerState = true ∧ PolicyStore.Commanded true b s.policy t.policy ∧
      (s.grant.queue ≠ [] ∨ s.grant.sag = true ∨ s.grant.timer ≠ .ended ∨ s.grant.budget < s.grant.sum + w →
        t.link.replies = s.link.replies ++ [⟨0xA8, tag, [0, 1, 0]⟩] ∧ (t.slice b).sequencer = { q with state := .queued, timer := none } ∧
        t.grant = { s.grant with queue := s.grant.queue ++ [b] }) ∧
      (s.grant.queue = [] → s.grant.sag = false → s.grant.timer = .ended → s.grant.sum + w ≤ s.grant.budget →
        (q.pgood = false →
          t.link.replies = s.link.replies ++ [⟨0xA8, tag, [0, 2, 0]⟩] ∧
          (t.slice b).sequencer = { q with state := .powering, timer := some (.powerGood, q.settings.powerGood) } ∧
          t.grant = { s.grant with granted := s.grant.granted.set b (some w) }) ∧
        (q.pgood = true →
          t.link.replies = s.link.replies ++ [⟨0xA8, tag, [0, 3, 0]⟩] ∧
          (t.slice b).sequencer = { q with state := .on, timer := none } ∧
          t.grant = { s.grant with granted := s.grant.granted.set b none })) := by
  obtain ⟨x, hx⟩ : ∃ x, ((joinQueue b (toHunt s)).slice b).sequencer = x := ⟨_, rfl⟩
  obtain ⟨t, he, hreply, hslice, hgrant, hcommanded⟩ := power_joins ht hs hi hx
  have hwait := joinQueue_waits_leaves (s := toHunt s) (b := b)
  have hgo := joinQueue_granted_leaves (s := toHunt s) (b := b) (w := w)
  generalize joinQueue b (toHunt s) = u at *
  simp only [toHunt_slice, ← hq, show (toHunt s).grant = s.grant from rfl] at hwait hgo
  rw [← hw] at hwait
  rw [← hq] at hp
  have hflag (f : BayFlag) : t.flag b f = u.flag b f := flag_of_slice (hslice b) f
  refine ⟨t, he, ?_⟩
  rw [hflag, hslice b, hgrant, hreply, ← hx]
  by_cases hc : s.grant.queue ≠ [] ∨ s.grant.sag = true ∨ s.grant.timer ≠ .ended ∨ s.grant.budget < s.grant.sum + w
  · obtain ⟨hseq, hg, hf⟩ := hwait hc
    rw [hseq, hg]
    refine ⟨hf, hcommanded, fun _ => ⟨?_, rfl, rfl⟩, fun h1 h2 h3 h4 => ?_⟩
    · simp [hp, le1, SeqState.code, bit]
    · obtain h | h | h | h := hc
      · exact absurd h1 h
      · exact absurd (h2.symm.trans h) (by decide)
      · exact absurd h3 h
      · exact absurd h4 h.not_ge
  · have hn := hc
    simp only [not_or, not_not, not_lt, Bool.not_eq_true] at hc
    obtain ⟨h1, h2, h3, h4⟩ := hc
    obtain ⟨hf, hlow, hhigh⟩ := hgo h1 h2 h3 hw h4
    refine ⟨hf, hcommanded, fun h => absurd h hn, fun _ _ _ _ => ⟨fun hpg => ?_, fun hpg => ?_⟩⟩
    · obtain ⟨hseq, hg⟩ := hlow hpg
      rw [hseq, hg]
      exact ⟨by simp [hp, le1, SeqState.code, bit], rfl, rfl⟩
    · obtain ⟨hseq, hg⟩ := hhigh hpg
      rw [hseq, hg]
      exact ⟨by simp [hp, le1, SeqState.code, bit], rfl, rfl⟩

/-- OFF_SOFT and OFF_HARD in QUEUED (R83, R103). -/
theorem power_leaves_queue (ht : takesRequest tag s) (hs : (s.slice b).sequencer.state = .queued)
    (hp : (s.slice b).sequencer.pendingOn = false) {i : Instr}
    (hi : i = .powerOffSoft tag (bayByte b) ∨ i = .powerOffHard tag (bayByte b)) :
    ∃ t, exec i s = .next t ∧ t.link.replies = s.link.replies ++ [⟨0xA8, tag, [0, 0, 0]⟩] ∧
      t.slice b = { s.slice b with
        sequencer := { (s.slice b).sequencer with state := .off, timer := none }
        flags := (s.slice b).flags ||| BitVec.twoPow 19 BayFlag.powerState.bit
        monitor := (s.slice b).monitor.suspend } ∧
      b ∉ t.grant.queue ∧ (s.grant.queue.head? ≠ some b → t.grant = { s.grant with queue := s.grant.queue.filter fun c => c ≠ b }) ∧
      PolicyStore.Commanded false b s.policy t.policy := by
  have hsoft : powerOffSoftAct b (toHunt s) = powerDone false b (leaveQueue b (toHunt s)) := by simp [powerOffSoftAct, hs]
  have hhard : powerOffHardAct b (toHunt s) = powerDone false b (leaveQueue b (toHunt s)) := by simp [powerOffHardAct, hs]
  have hreplies : (leaveQueue b (toHunt s)).link.replies = s.link.replies := leaveQueue_same (p := .replies) (s := toHunt s) rfl
  have hpolicy : (leaveQueue b (toHunt s)).policy = s.policy := leaveQueue_same (p := .policy) (s := toHunt s) rfl
  obtain ⟨hslice, hout, hgrant⟩ := leaveQueue_leaves b (toHunt s)
  generalize leaveQueue b (toHunt s) = u at *
  have hdone {act : Bay → State → Answer} (ha : act b (toHunt s) = powerDone false b u) :=
    power_done false ht ha hreplies hpolicy (congrArg Slice.sequencer hslice)
  have hpay : (0 : Byte) :: (le1 SeqState.off.code ++ bit (s.slice b).sequencer.pendingOn) = [0, 0, 0] := by rw [hp]; rfl
  obtain rfl | rfl := hi
  · obtain ⟨t, he, hreply, hsame, _, hg, hcommanded⟩ := hdone hsoft
    exact ⟨t, he, hreply.trans (by rw [← hpay]; rfl), (hsame b).trans hslice, hg ▸ hout, fun h => hg.trans (hgrant h), hcommanded⟩
  · obtain ⟨t, he, hreply, hsame, _, hg, hcommanded⟩ := hdone hhard
    exact ⟨t, he, hreply.trans (by rw [← hpay]; rfl), (hsame b).trans hslice, hg ▸ hout, fun h => hg.trans (hgrant h), hcommanded⟩

/-- OFF_SOFT in ON (R86). -/
theorem power_soft_stops (ht : takesRequest tag s) (hs : (s.slice b).sequencer.state = .on) (hp : (s.slice b).sequencer.pendingOn = false) :
    ∃ t, exec (.powerOffSoft tag (bayByte b)) s = .next t ∧ t.link.replies = s.link.replies ++ [⟨0xA8, tag, [0, 5, 0]⟩] ∧
      t.slice b = { s.slice b with
        sequencer := Sequencer.pressStart { (s.slice b).sequencer with
          state := .softStopping, timer := some (.buttonPress, (s.slice b).sequencer.settings.button) }
        flags := (s.slice b).flags ||| BitVec.twoPow 19 BayFlag.powerState.bit
        responder := { (s.slice b).responder with armed := none, j := 0 }
        monitor := (s.slice b).monitor.suspend } ∧
      t.grant = s.grant ∧ PolicyStore.Commanded false b s.policy t.policy := by
  have ha : powerOffSoftAct b (toHunt s) = powerDone false b (enterSoftStopping b (toHunt s)) := by simp [powerOffSoftAct, hs]
  have hreplies : (enterSoftStopping b (toHunt s)).link.replies = s.link.replies :=
    enterSoftStopping_same (p := .replies) (s := toHunt s) (by simp) (by simp) (by simp) rfl
  have hpolicy : (enterSoftStopping b (toHunt s)).policy = s.policy :=
    enterSoftStopping_same (p := .policy) (s := toHunt s) (by simp) (by simp) (by simp) rfl
  have hgrant : (enterSoftStopping b (toHunt s)).grant = s.grant :=
    enterSoftStopping_same (p := .grant) (s := toHunt s) (by simp) (by simp) (by simp) rfl
  have hslice := enterSoftStopping_slice b (toHunt s)
  generalize enterSoftStopping b (toHunt s) = u at *
  obtain ⟨t, he, hreply, hsame, _, hg, hcommanded⟩ := power_done false ht ha hreplies hpolicy (congrArg Slice.sequencer hslice)
  refine ⟨t, he, hreply.trans ?_, (hsame b).trans hslice, hg.trans hgrant, hcommanded⟩
  simp [Sequencer.pressStart, hp, le1, SeqState.code, bit]

/-- RESET in ON (R85). -/
theorem power_resets (ht : takesRequest tag s) (hs : (s.slice b).sequencer.state = .on) (hp : (s.slice b).sequencer.pendingOn = false) :
    ∃ t, exec (.powerReset tag (bayByte b)) s = .next t ∧ t.link.replies = s.link.replies ++ [⟨0xA8, tag, [0, 4, 0]⟩] ∧
      t.slice b = { s.slice b with
        sequencer := { (s.slice b).sequencer with
          state := .resetting, timer := some (.resetPulse, (s.slice b).sequencer.settings.resetPulse) }
        flags := (s.slice b).flags ||| BitVec.twoPow 19 BayFlag.powerState.bit
        responder := { (s.slice b).responder with armed := none, j := 0 }
        monitor := (s.slice b).monitor.suspend } ∧
      t.grant = s.grant ∧ t.policy = s.policy := by
  have ha : powerResetAct b (toHunt s) = powerReply b (enterResetting false b (toHunt s)) := by simp [powerResetAct, hs]
  have hreplies : (enterResetting false b (toHunt s)).link.replies = s.link.replies :=
    enterResetting_same (p := .replies) (s := toHunt s) (by simp) (by simp) (by simp) rfl
  have hpolicy : (enterResetting false b (toHunt s)).policy = s.policy :=
    enterResetting_same (p := .policy) (s := toHunt s) (by simp) (by simp) (by simp) rfl
  have hgrant : (enterResetting false b (toHunt s)).grant = s.grant :=
    enterResetting_same (p := .grant) (s := toHunt s) (by simp) (by simp) (by simp) rfl
  have hslice := enterResetting_slice b (toHunt s)
  generalize enterResetting false b (toHunt s) = u at *
  obtain ⟨t, he, hreply, hsame, _, hg, hpol⟩ := power_replied ht ha hreplies (congrArg Slice.sequencer hslice)
  refine ⟨t, he, hreply.trans ?_, (hsame b).trans hslice, hg.trans hgrant, hpol.trans hpolicy⟩
  simp [hp, le1, SeqState.code, bit]

/-- CLEAR_FAULT and OFF_HARD in FAULT (R90). -/
theorem power_clears_fault (ht : takesRequest tag s) (hs : (s.slice b).sequencer.state = .fault)
    (hp : (s.slice b).sequencer.pendingOn = false) {x : Slice} (hx : x = { s.slice b with
      sequencer := { (s.slice b).sequencer with state := .off, timer := none }
      flags := (s.slice b).flags ||| BitVec.twoPow 19 BayFlag.powerState.bit
      monitor := (s.slice b).monitor.suspend }) :
    (∃ t, exec (.powerClearFault tag (bayByte b)) s = .next t ∧ t.link.replies = s.link.replies ++ [⟨0xA8, tag, [0, 0, 0]⟩] ∧
      t.slice b = x ∧ t.policy = s.policy) ∧
    ∃ t, exec (.powerOffHard tag (bayByte b)) s = .next t ∧ t.link.replies = s.link.replies ++ [⟨0xA8, tag, [0, 0, 0]⟩] ∧
      t.slice b = x ∧ t.grant = s.grant ∧ PolicyStore.Commanded false b s.policy t.policy := by
  have hclear : powerClearFaultAct b (toHunt s) = powerReply b (suspendMonitor false b (changeState b .off none (toHunt s))) := by
    simp [powerClearFaultAct, hs]
  have hhard : powerOffHardAct b (toHunt s) = powerDone false b (suspendMonitor false b (changeState b .off none (toHunt s))) := by
    simp [powerOffHardAct, hs]
  have hsame {p : Part} (h : p ≠ .sequencer b) (h' : p ≠ .monitor b) (hf : p.flagging b = false) :
      p.Same (toHunt s) (suspendMonitor false b (changeState b .off none (toHunt s))) :=
    (changeState_same h hf).trans (suspendMonitor_same h')
  have hreplies := hsame (p := .replies) (by simp) (by simp) rfl
  have hpolicy := hsame (p := .policy) (by simp) (by simp) rfl
  have hgrant := hsame (p := .grant) (by simp) (by simp) rfl
  have hslice := (leaveFault_slice b (toHunt s)).trans hx.symm
  generalize suspendMonitor false b (changeState b .off none (toHunt s)) = u at *
  have hpay : (0 : Byte) :: (le1 x.sequencer.state.code ++ bit x.sequencer.pendingOn) = [0, 0, 0] := by
    rw [hx]
    simp [hp, le1, SeqState.code, bit]
  obtain ⟨t, he, hreply, hsl, _, _, hpol⟩ := power_replied ht hclear hreplies (congrArg Slice.sequencer hslice)
  obtain ⟨t', he', hreply', hsl', _, hg', hcommanded⟩ := power_done false ht hhard hreplies hpolicy (congrArg Slice.sequencer hslice)
  exact ⟨⟨t, he, hreply.trans (by rw [hpay]), (hsl b).trans hslice, hpol.trans hpolicy⟩,
    t', he', hreply'.trans (by rw [hpay]), (hsl' b).trans hslice, hg'.trans hgrant, hcommanded⟩

/-- Settles O30: each entry of Table 5-4 that starts a transition. -/
theorem powerActionsTransition : Obligations.PowerActionsTransition := by
  unfold Obligations.PowerActionsTransition
  intro s tag b q ht hq hpending
  have hp : (s.slice b).sequencer.pendingOn = false := hq ▸ hpending
  refine ⟨fun hs hqueue i hi => ?_, fun hs hqueue i hi w hw => ?_, fun hs i hi => ?_, fun hs => ⟨?_, ?_⟩, fun i pending on hi hb => ?_,
    fun hs => ?_⟩
  · obtain ⟨t, he, hflag, hcommanded, hwait, _⟩ := power_from_off ht (hq ▸ hs) hp hi hq rfl
    obtain ⟨hreply, hseq, hgrant⟩ := hwait (.inl hqueue)
    exact ⟨t, he, hreply, hseq, hgrant, hflag, hcommanded⟩
  · obtain ⟨t, he, hflag, hcommanded, hwait, hgo⟩ := power_from_off ht (hq ▸ hs) hp hi hq hw
    refine ⟨t, he, hflag, hcommanded, fun h => ?_, hgo hqueue⟩
    obtain ⟨hreply, hseq, hgrant⟩ := hwait (.inr h)
    exact ⟨hreply, hseq, by rw [hgrant, hqueue]; rfl⟩
  · obtain ⟨t, he, hreply, hslice, hout, hgrant, hcommanded⟩ := power_leaves_queue ht (hq ▸ hs) hp hi
    refine ⟨t, he, hreply, ?_⟩
    rw [powerState_of_slice hslice rfl, hslice, hq]
    exact ⟨rfl, hout, hgrant, rfl, rfl, rfl, Monitor.suspend_departed _, rfl, hcommanded⟩
  · obtain ⟨t, he, hreply, hslice, hgrant, hcommanded⟩ := power_soft_stops ht (hq ▸ hs) hp
    refine ⟨t, he, hreply, ?_⟩
    rw [powerState_of_slice hslice rfl, hslice, hq]
    exact ⟨rfl, rfl, rfl, rfl, rfl, rfl, rfl, rfl, Monitor.suspend_departed _, hgrant, rfl, hcommanded⟩
  · obtain ⟨t, he, hreply, hslice, hgrant, hpolicy⟩ := power_resets ht (hq ▸ hs) hp
    refine ⟨t, he, hreply, ?_⟩
    rw [powerState_of_slice hslice rfl, hslice, hq]
    exact ⟨rfl, rfl, rfl, rfl, rfl, rfl, Monitor.suspend_departed _, hgrant, rfl, hpolicy⟩
  · obtain ⟨rfl, rfl, rfl, hs⟩ | ⟨rfl, rfl, rfl, hs⟩ := hi
    · refine power_cuts (act := powerOffHardAct) false false ht ?_ hb hq
      rw [hq] at hs
      obtain h | h | h | h := hs <;> simp [powerOffHardAct, h]
    · refine power_cuts (act := powerCycleAct) true true ht ?_ hb hq
      rw [hq] at hs
      simp [powerCycleAct, hs]
  · obtain ⟨⟨t, he, hreply, hslice, hpolicy⟩, t', he', hreply', hslice', hgrant', hcommanded⟩ := power_clears_fault ht (hq ▸ hs) hp rfl
    refine ⟨⟨t, he, hreply, ?_⟩, t', he', hreply', ?_⟩
    · rw [powerState_of_slice hslice rfl, hslice, hq]
      exact ⟨rfl, Monitor.suspend_departed _, rfl, hpolicy⟩
    · rw [powerState_of_slice hslice' rfl, hslice', hq]
      exact ⟨rfl, Monitor.suspend_departed _, hgrant', rfl, hcommanded⟩

end Sys2Proof.Machine
end

section
/-! PROOFS. The statement of chapter 9 about the policy store's RAM copies and its writer (R152 to R156). -/

namespace Sys2Proof.Machine

variable {s t : State} {b : Bay} {tag : Byte} {p : PolicyStore} {r n : Fin 9} {content x : Vector Byte 7}

/-! ## The writer (R155, R156) -/

/-- The first element of `finRange` that meets a condition. -/
theorem finRange_find {k : Nat} {p : Fin k → Bool} {i : Fin k} (h : p i = true) (hl : ∀ j < i, p j = false) :
    (List.finRange k).find? p = some i := by
  rw [List.find?_eq_some_iff_getElem]
  refine ⟨h, i.val, by simp, by simp, fun j hj => ?_⟩
  simpa using hl ⟨j, hj.trans i.isLt⟩ hj

theorem PolicyStore.lowestDirty_eq (h : p.dirty.getLsbD n.val = true) (hl : ∀ m : Fin 9, m < n → p.dirty.getLsbD m.val = false) :
    p.lowestDirty = some n := finRange_find h hl

theorem PolicyStore.startWrite_of (hw : p.writer = none) (hr : p.restartPending = false) (hl : p.lowestDirty = some n) :
    p.startWrite = { p with
      dirty := p.dirty &&& ~~~BitVec.twoPow 9 n.val, writer := some (n, p.ramContent n), nv := p.nv.set n none } := by
  unfold PolicyStore.startWrite
  rw [if_neg (by simp [hw, hr]), hl]

theorem PolicyStore.startWrite_clean (h : p.dirty = 0) : p.startWrite = p := by
  have hl : p.lowestDirty = none := by
    unfold PolicyStore.lowestDirty
    rw [h]
    decide
  unfold PolicyStore.startWrite
  split
  · rfl
  · rw [hl]

theorem PolicyStore.markDirty_busy (h : p.writer ≠ none) (r : Fin 9) :
    p.markDirty r = { p with dirty := p.dirty ||| BitVec.twoPow 9 r.val } := PolicyStore.startWrite_busy _ (.inl h)

/-- The content of a record's RAM copy, byte by byte. -/
theorem PolicyStore.ramContent_eq (h0 : n = 0 → x = p.ramGlobal.content) (hb : ∀ b : Bay, n = b.succ → x = (p.ramBays.get b).content) :
    p.ramContent n = x := by
  unfold PolicyStore.ramContent
  split
  case isTrue h => exact (h0 h).symm
  case isFalse h => exact (hb (n.pred h) (Fin.succ_pred n h).symm).symm

theorem BayRecord.content_eq (k : BayRecord) : k.content =
    #v[BitVec.ofNat 8 ((match k.policy with | .off => 0 | .on => 1 | .last => 2) + if k.lastOn then 4 else 0),
      BitVec.ofNat 8 k.settings.weight, BitVec.ofNat 8 k.settings.powerGood, BitVec.ofNat 8 k.settings.softStop,
      BitVec.ofNat 8 k.settings.holdOff, BitVec.ofNat 8 k.settings.resetPulse, BitVec.ofNat 8 k.settings.button] := by
  unfold BayRecord.content
  cases k.policy <;> cases k.lastOn <;> rfl

/-! ## STORE (R154) -/

theorem storeGlobalAct_eq (f : StoreFields) (hp : p = PolicyStore.markDirty
      { s.policy with ramGlobal := ⟨max 1 (min f.f0.toNat 60), f.f1.toNat⟩ } 0)
    (hg : p.ramGlobal = ⟨max 1 (min f.f0.toNat 60), f.f1.toNat⟩) :
    storeGlobalAct f s = accept (s.withPolicy p) (le1 (max 1 (min f.f0.toNat 60)) ++ [f.f1] ++ bit (p.writer.any fun w => w.1 = 0)) := by
  have henc : p.ramGlobal.encode = le1 (max 1 (min f.f0.toNat 60)) ++ [f.f1] := by
    rw [hg, GlobalRecord.encode, le1_toNat]
  rw [← henc, hp]
  rfl

theorem storeAct_global (f : StoreFields) : storeAct 0 f s = storeGlobalAct f s := if_pos rfl

theorem bayRecordByte (b : Bay) : bayByte b + 1 ≠ 0 ∧ (bayByte b + 1).toNat - 1 = b.val := by
  revert b
  decide

theorem restorePolicyOf_code {policy : RestorePolicy} {v : Byte} (h : v.toNat = policy.code) : restorePolicyOf v = some policy := by
  have hv : v = BitVec.ofNat 8 policy.code := BitVec.eq_of_toNat_eq (by rw [h]; cases policy <;> rfl)
  rw [hv]
  cases policy <;> rfl

theorem storeAct_bay {policy : RestorePolicy} {f : StoreFields} (h : f.f0.toNat = policy.code) (b : Bay) :
    storeAct (bayByte b + 1) f s = storeBayAct policy f b s := by
  obtain ⟨h0, hb⟩ := bayRecordByte b
  unfold storeAct
  rw [if_neg h0, dif_pos (by omega), restorePolicyOf_code h]
  exact congrArg (fun c : Bay => storeBayAct policy f c s) (Fin.ext hb)

theorem storeAct_above {record : Byte} (f : StoreFields) (h : 8 < record.toNat) : storeAct record f s = refuse .range s := by
  unfold storeAct
  rw [if_neg (by rintro rfl; exact absurd h (by decide)), dif_neg (by omega)]

/-- STORE of the global record while the writer is busy. -/
theorem storeGlobalAct_busy (f : StoreFields) (hw : s.policy.writer = some (r, content)) :
    storeGlobalAct f s = accept (s.withPolicy { s.policy with
      ramGlobal := ⟨max 1 (min f.f0.toNat 60), f.f1.toNat⟩, dirty := s.policy.dirty ||| 1 })
      (le1 (max 1 (min f.f0.toNat 60)) ++ [f.f1] ++ bit (r = 0)) := by
  have hmark : PolicyStore.markDirty { s.policy with ramGlobal := ⟨max 1 (min f.f0.toNat 60), f.f1.toNat⟩ } 0 =
      { s.policy with ramGlobal := ⟨max 1 (min f.f0.toNat 60), f.f1.toNat⟩, dirty := s.policy.dirty ||| 1 } :=
    PolicyStore.markDirty_busy (by simp [hw]) 0
  rw [storeGlobalAct_eq f hmark.symm rfl]
  change accept _ (_ ++ bit (s.policy.writer.any fun w => w.1 = 0)) = _
  rw [hw]
  rfl

/-- STORE of the global record while the writer is IDLE with nothing dirty: its write starts. -/
theorem storeGlobalAct_idle (f : StoreFields) (hw : s.policy.writer = none) (hr : s.policy.restartPending = false) (hd : s.policy.dirty = 0) :
    storeGlobalAct f s = accept (s.withPolicy { s.policy with
      ramGlobal := ⟨max 1 (min f.f0.toNat 60), f.f1.toNat⟩, dirty := 0
      writer := some (0, #v[BitVec.ofNat 8 (max 1 (min f.f0.toNat 60)), f.f1, 0, 0, 0, 0, 0])
      nv := s.policy.nv.set 0 none })
      (le1 (max 1 (min f.f0.toNat 60)) ++ [f.f1] ++ [1]) := by
  have hmark : PolicyStore.markDirty { s.policy with ramGlobal := ⟨max 1 (min f.f0.toNat 60), f.f1.toNat⟩ } 0 = { s.policy with
      ramGlobal := ⟨max 1 (min f.f0.toNat 60), f.f1.toNat⟩, dirty := 0
      writer := some (0, #v[BitVec.ofNat 8 (max 1 (min f.f0.toNat 60)), f.f1, 0, 0, 0, 0, 0])
      nv := s.policy.nv.set 0 none } := by
    unfold PolicyStore.markDirty
    have hbit : (0 ||| BitVec.twoPow 9 (0 : Fin 9).val).getLsbD (0 : Fin 9).val = true := by decide
    rw [hd, PolicyStore.startWrite_of (p := { s.policy with ramGlobal := ⟨max 1 (min f.f0.toNat 60), f.f1.toNat⟩, dirty := 0 ||| BitVec.twoPow 9 (0 : Fin 9).val })
      (n := 0) hw hr (PolicyStore.lowestDirty_eq hbit fun m hm => absurd hm (by simp))]
    simp [PolicyStore.ramContent, GlobalRecord.content]
  rw [storeGlobalAct_eq f hmark.symm rfl]
  rfl

/-- STORE of a bay record while the writer is busy. -/
theorem storeBayAct_busy (policy : RestorePolicy) (f : StoreFields) (hw : s.policy.writer = some (r, content)) {k : BayRecord}
    (hk : k = { policy := policy, lastOn := (s.policy.ramBays.get b).lastOn
                settings := PowerSettings.clamped f.f2.toNat f.f3.toNat f.f4.toNat f.f5.toNat f.f6.toNat f.f1.toNat }) :
    storeBayAct policy f b s = accept (s.withPolicy { s.policy with
      ramBays := s.policy.ramBays.set b k, dirty := s.policy.dirty ||| BitVec.twoPow 9 (b.val + 1) })
      (k.encode ++ bit (r = b.succ)) := by
  have hmark : (s.policy.modRam b fun r => { r with
      policy := policy
      settings := PowerSettings.clamped f.f2.toNat f.f3.toNat f.f4.toNat f.f5.toNat f.f6.toNat f.f1.toNat }).markDirty (bayRecordNo b) =
      { s.policy with ramBays := s.policy.ramBays.set b k, dirty := s.policy.dirty ||| BitVec.twoPow 9 (b.val + 1) } := by
    rw [PolicyStore.markDirty_busy (by simp [PolicyStore.modRam, hw]), hk]
    rfl
  have hget : (s.policy.ramBays.set b k).get b = k := get_set_self _ b k
  unfold storeBayAct storeReply
  rw [show ∀ g, s.modPolicy g = s.withPolicy (g s.policy) from fun _ => rfl, hmark]
  change accept _ (((s.policy.ramBays.set b k).get b).encode ++ bit (s.policy.writer.any fun w => w.1 = b.succ)) = _
  rw [hget, hw]
  rfl

/-! ## A write completed (R156) -/

theorem exec_storeWriteComplete (hw : s.policy.writer = some (r, content)) (hr : s.policy.restartPending = false) :
    exec .storeWriteComplete s = .next (setPartFlag .storeDone (s.withPolicy (s.policy.completeWrite r content).startWrite)) := by
  change execStoreWriteComplete s = _
  unfold execStoreWriteComplete
  rw [hw]
  exact congrArg Host.Outcome.next (if_neg (by simp [setPartFlag, raiseSummary, State.modLink, State.modPolicy, PolicyStore.completeWrite, hr]))

/-- Settles O41: STORE while the writer is busy and while it is IDLE, and a completion with and without another dirty record. -/
theorem storeIsTakenAndWritten : Obligations.StoreIsTakenAndWritten := by
  unfold Obligations.StoreIsTakenAndWritten
  refine ⟨fun s tag ht => ⟨fun w content f hw => ?_, fun w content b policy f hw hf => ?_, fun record f h => ?_⟩,
    fun s => ⟨fun tag f ht hw hd => ?_, fun r content hw hr => ⟨fun hd => ?_, fun n x hn hm h0 hb => ?_⟩⟩⟩
  · exact congrArg Host.Outcome.next (takeRequest_accepted (kind := 0x2B) ht
      ((storeAct_global f).trans (storeGlobalAct_busy (s := toHunt s) f hw)))
  · exact congrArg Host.Outcome.next (takeRequest_accepted (kind := 0x2B) ht
      ((storeAct_bay hf b).trans (storeBayAct_busy (s := toHunt s) policy f hw rfl)))
  · exact congrArg Host.Outcome.next (takeRequest_refused (kind := 0x2B) (c := .range) ht (storeAct_above f h))
  · exact congrArg Host.Outcome.next (takeRequest_accepted (kind := 0x2B) ht
      ((storeAct_global f).trans (storeGlobalAct_idle (s := toHunt s) f hw ht.2.1 hd)))
  · rw [exec_storeWriteComplete hw hr, PolicyStore.startWrite_clean (p := s.policy.completeWrite r content) hd]
    rfl
  · have hx : (s.policy.completeWrite r content).ramContent n = x :=
      PolicyStore.ramContent_eq h0 fun b hnb => (hb b _ hnb rfl).trans (BayRecord.content_eq _).symm
    rw [exec_storeWriteComplete hw hr, PolicyStore.startWrite_of (p := s.policy.completeWrite r content) (n := n) rfl hr
      (PolicyStore.lowestDirty_eq (p := s.policy.completeWrite r content) hn hm), hx]
    rfl

end Sys2Proof.Machine
end

section
/-! PROOFS. The statements of chapter 9 about warm and soft resets (R101, R102, R151, R159 to R161, R178). -/

namespace Sys2Proof.Machine

variable {s t u : State} {b : Bay} {p : PolicyStore} {c : Cache} {r : Fin 9} {content : Vector Byte 7} {causes : BitVec 4} {hold : Bool}

/-! ## Each block at a warm or soft reset -/

theorem Line.afterReset_rebuilt (l : Line) : l.Rebuilt l.afterReset where
  kept := ⟨rfl, rfl, rfl, rfl⟩
  moving := ⟨rfl, rfl, rfl, rfl, rfl, rfl⟩
  reference := rfl
  remembered := ⟨rfl, rfl, rfl, rfl, rfl, rfl⟩
  rate := ⟨rfl, rfl, rfl, rfl, rfl, rfl⟩

theorem Sequencer.afterReset_rebuilt (q : Sequencer) : q.Rebuilt q.afterReset where
  off h := by obtain h | h | h := h <;> simp [Sequencer.afterReset, h]
  powering h := by simp [Sequencer.afterReset, h]
  on h := by obtain h | h := h <;> simp [Sequencer.afterReset, h]
  stopping h := by cases hp : q.pgood <;> simp [Sequencer.afterReset, h, hp]
  fault h := by simp [Sequencer.afterReset, h]
  kept := ⟨rfl, rfl, rfl, rfl⟩
  sense := ⟨rfl, rfl, rfl, rfl⟩

theorem Monitor.place_fields (on : Bool) (m : Monitor) : Monitor.place on m = { m with
    state := if m.settings.enable = false then .disabled else if on = true then .grace else .suspended
    timer := if m.settings.enable = true ∧ on = true then some m.settings.grace else none } := by
  unfold Monitor.place
  cases h : m.settings.enable <;> cases on <;> simp

theorem Cache.afterReset_entry (c : Cache) (i : Fin 256) : c.afterReset.entry i = { (c.entry i).release with pinned := false } := by
  simp [Cache.afterReset, Cache.entry, Vector.get_eq_getElem]

/-! ## The policy store at a reset -/

/-- What the start of a write leaves as it was. -/
theorem PolicyStore.startWrite_keeps (p : PolicyStore) : p.startWrite.ramGlobal = p.ramGlobal ∧ p.startWrite.ramBays = p.ramBays ∧
    p.startWrite.torn = p.torn ∧ p.startWrite.restartPending = p.restartPending ∧ p.startWrite.causes = p.causes ∧
    p.startWrite.causeReported = p.causeReported := by
  unfold PolicyStore.startWrite
  split
  · exact ⟨rfl, rfl, rfl, rfl, rfl, rfl⟩
  · split <;> exact ⟨rfl, rfl, rfl, rfl, rfl, rfl⟩

theorem PolicyStore.afterReset_records (causes : BitVec 4) (p : PolicyStore) :
    (p.afterReset causes).ramGlobal = p.ramGlobal ∧ (p.afterReset causes).ramBays = p.ramBays ∧
    (p.afterReset causes).restartPending = false ∧ (p.afterReset causes).causeReported = false := by
  obtain ⟨hg, hb, -, hr, -, hc⟩ := PolicyStore.startWrite_keeps
    { p with causes := (if p.causeReported then 0 else p.causes) ||| causes, causeReported := false, restartPending := false }
  exact ⟨hg, hb, hr, hc⟩

theorem PolicyStore.afterReset_causes (causes : BitVec 4) (p : PolicyStore) :
    (p.afterReset causes).causes = (if p.causeReported then 0 else p.causes) ||| causes := (PolicyStore.startWrite_keeps _).2.2.2.2.1

theorem PolicyStore.afterReset_torn (causes : BitVec 4) (p : PolicyStore) : (p.afterReset causes).torn = p.torn :=
  (PolicyStore.startWrite_keeps _).2.2.1

/-- With no record dirty a reset starts no write. -/
theorem PolicyStore.afterReset_clean (causes : BitVec 4) (h : p.dirty = 0) : (p.afterReset causes).writer = p.writer ∧
    (p.afterReset causes).dirty = 0 ∧ (p.afterReset causes).nv = p.nv := by
  unfold PolicyStore.afterReset
  rw [PolicyStore.startWrite_clean (by exact h)]
  exact ⟨rfl, h, rfl⟩

theorem PolicyStore.cutOff_busy (h : p.writer = some (r, content)) : p.cutOff = { p with
    writer := none, torn := p.torn ||| BitVec.twoPow 9 r.val, dirty := p.dirty ||| BitVec.twoPow 9 r.val } := by
  unfold PolicyStore.cutOff
  rw [h]

theorem PolicyStore.cutOff_idle (h : p.writer = none) : p.cutOff = p := by
  unfold PolicyStore.cutOff
  rw [h]

/-- A write cut off changes neither the RAM copies nor the causes. -/
theorem PolicyStore.cutOff_keeps (p : PolicyStore) : p.cutOff.ramGlobal = p.ramGlobal ∧ p.cutOff.ramBays = p.ramBays ∧
    p.cutOff.causes = p.causes ∧ p.cutOff.causeReported = p.causeReported := by
  cases h : p.writer with
  | none => simp [PolicyStore.cutOff_idle h]
  | some w => simp [PolicyStore.cutOff_busy (r := w.1) (content := w.2) h]

/-! ## The part at a reset -/

/-- A warm or soft reset that finds the blocks of `s`: they are rebuilt. -/
theorem Rebuilt.of_controllerReset (hs : u.slices = s.slices) (hc : u.cache = s.cache) (hg : u.grant = s.grant)
    (hl : u.link.checkErrors = s.link.checkErrors ∧ u.link.lengthErrors = s.link.lengthErrors ∧ u.link.tagErrors = s.link.tagErrors ∧
      u.link.overflowErrors = s.link.overflowErrors)
    (hr : u.policy.ramGlobal = s.policy.ramGlobal ∧ u.policy.ramBays = s.policy.ramBays) : Rebuilt s (controllerReset causes hold u) := by
  have hslice (b : Bay) : (controllerReset causes hold u).slice b = (s.slice b).afterReset := by
    rw [controllerReset_slice, State.slice, hs]
    rfl
  have hcache : (controllerReset causes hold u).cache = s.cache.afterReset := congrArg Cache.afterReset hc
  have hgrant : (controllerReset causes hold u).grant = s.grant.afterReset s.slices := congrArg₂ GrantQueue.afterReset hs hg
  have hpolicy := u.policy.afterReset_records causes
  rw [hr.1, hr.2] at hpolicy
  exact
    { lines := fun b => by rw [hslice]; exact Line.afterReset_rebuilt _
      histories := fun b => by rw [hslice]; rfl
      matchers := fun b => by rw [hslice]; exact ⟨rfl, rfl⟩
      monitors := fun b => by rw [hslice]; exact (Monitor.place_fields _ _).trans (by simp only [decide_eq_true_eq]; rfl)
      sequencers := fun b => by rw [hslice]; exact Sequencer.afterReset_rebuilt _
      media := fun b => by rw [hslice]; exact ⟨rfl, rfl⟩
      flags := fun b => by rw [hslice]; exact ⟨rfl, rfl⟩
      entries := fun i => by rw [hcache, Cache.afterReset_entry]; exact ⟨rfl, rfl, rfl, rfl⟩
      tables := by rw [hcache]; exact ⟨rfl, rfl, rfl, rfl⟩
      cacheKept := by rw [hcache]; exact ⟨rfl, rfl, rfl, rfl, rfl, rfl⟩
      grant := by rw [hgrant]; exact ⟨rfl, rfl, rfl, rfl, rfl⟩
      weights := fun b => by rw [hgrant]; exact afterReset_granted _ _ b
      link := ⟨rfl, rfl, rfl, rfl, rfl, rfl, rfl⟩
      counters := hl
      records := hpolicy }

/-! ## The warm reset (R159) -/

theorem warmReset_rebuilt (s : State) : Rebuilt s (warmReset s) :=
  have hcut := s.policy.cutOff_keeps
  Rebuilt.of_controllerReset rfl rfl rfl ⟨rfl, rfl, rfl, rfl⟩ ⟨hcut.1, hcut.2.1⟩

theorem warmReset_policy (s : State) :
    (warmReset s).policy = s.policy.cutOff.afterReset (if s.policy.writer.isSome then causePin ||| causeInterrupted else causePin) := rfl

theorem warmReset_causes (s : State) : (warmReset s).policy.causes =
    (if s.policy.causeReported then 0 else s.policy.causes) ||| (if s.policy.writer.isSome then 0xA#4 else 0x2#4) := by
  obtain ⟨-, -, hc, hr⟩ := s.policy.cutOff_keeps
  rw [warmReset_policy, PolicyStore.afterReset_causes, hc, hr]
  rfl

theorem warmReset_torn (s : State) : (warmReset s).policy.torn = s.policy.cutOff.torn := PolicyStore.afterReset_torn _ _

/-- Settles O39: the warm reset rebuilds every block, and the policy store's cut-off write and causes are read off it. -/
theorem warmResetRebuildsThePart : Obligations.WarmResetRebuildsThePart := by
  unfold Obligations.WarmResetRebuildsThePart
  refine fun s => ⟨fun h => ⟨warmReset s, if_neg (by simp [h]), warmReset_rebuilt s, rfl, rfl, warmReset_causes s,
    fun r content hw => ?_, fun hw => ?_, fun hw hd => ?_⟩, fun h => if_pos h, rfl⟩
  · rw [warmReset_torn, PolicyStore.cutOff_busy hw]
  · rw [warmReset_torn, PolicyStore.cutOff_idle hw]
  · obtain ⟨hwriter, hdirty, hnv⟩ := PolicyStore.afterReset_clean causePin hd
    rw [warmReset_policy, PolicyStore.cutOff_idle hw, hw]
    exact ⟨hwriter.trans hw, hdirty, hnv⟩

/-! ## The soft reset (R160) -/

theorem softReset_causes (s : State) : (softReset s).policy.causes = (if s.policy.causeReported then 0 else s.policy.causes) ||| 0x4#4 :=
  PolicyStore.afterReset_causes _ _

theorem softReset_torn (s : State) : (softReset s).policy.torn = s.policy.torn := PolicyStore.afterReset_torn _ _

theorem exec_restart {tag : Byte} (hh : s.link.hold = false) (hr : s.policy.restartPending = false) (ht : tag ≠ 0) :
    exec (.restart tag) s = .next (restartNow (toHunt s)) := by
  change Host.Outcome.next (takeRestart tag s) = _
  unfold takeRestart
  rw [if_neg (by simp [hh, hr]), if_neg ht]

/-- The state that a write's completion leaves before the pending soft reset takes effect. -/
def writeDone (r : Fin 9) (content : Vector Byte 7) (s : State) : State :=
  setPartFlag .storeDone (s.modPolicy (PolicyStore.completeWrite r content))

theorem exec_storeWriteComplete_restart (hw : s.policy.writer = some (r, content)) (hr : s.policy.restartPending = true) :
    exec .storeWriteComplete s = .next (softReset (writeDone r content s)) := by
  change execStoreWriteComplete s = _
  unfold execStoreWriteComplete
  rw [hw]
  exact congrArg Host.Outcome.next (if_pos (show (writeDone r content s).policy.restartPending = true from hr))

theorem PolicyStore.completeWrite_torn (r : Fin 9) (content : Vector Byte 7) (p : PolicyStore) :
    (p.completeWrite r content).torn.getLsbD r.val = false := by
  simp [PolicyStore.completeWrite]

/-- Settles O40: RESTART with the writer IDLE and with a write in flight, and the completion that a restart waits for. -/
theorem softResetRebuildsThePart : Obligations.SoftResetRebuildsThePart := by
  unfold Obligations.SoftResetRebuildsThePart
  refine fun s => ⟨fun tag hh hr ht => ?_, fun r content hw hr => ?_⟩
  · rw [exec_restart hh hr ht]
    unfold restartNow
    refine ⟨fun hw => ⟨softReset (toHunt s), congrArg Host.Outcome.next (if_pos (by simp [toHunt, hw])), ?_, rfl, hh, softReset_torn _,
      softReset_causes _⟩, fun hw => congrArg Host.Outcome.next (if_neg (by simpa [toHunt] using hw))⟩
    exact Rebuilt.of_controllerReset rfl rfl rfl ⟨rfl, rfl, rfl, rfl⟩ ⟨rfl, rfl⟩
  · refine ⟨_, exec_storeWriteComplete_restart hw hr, Rebuilt.of_controllerReset rfl rfl rfl ⟨rfl, rfl, rfl, rfl⟩ ⟨rfl, rfl⟩, rfl, rfl, ?_,
      softReset_causes _, fun hd => ?_⟩
    · rw [softReset_torn]
      exact PolicyStore.completeWrite_torn r content s.policy
    · obtain ⟨hwriter, -, hnv⟩ := PolicyStore.afterReset_clean (p := s.policy.completeWrite r content) causeRequest hd
      refine ⟨?_, hwriter⟩
      change (PolicyStore.afterReset causeRequest (s.policy.completeWrite r content)).nv.get r = _
      rw [hnv]
      exact get_set_self _ r _

end Sys2Proof.Machine
end

section
/-! PROOFS. The statement of chapter 9 about the cold reset (R153, R158, R162, R163). -/

namespace Sys2Proof.Machine

variable {s t : State} {b c : Bay} {p : PolicyStore} {r : Fin 9} {x : Vector Byte 7}

/-! ## The records read (R153, R162) -/

theorem read_of_fails (h : NvRecord.passes r (p.nv.get r) = false) : p.read r = none := by
  unfold PolicyStore.read
  exact if_neg (by simp [h])

theorem read_of_written (h : p.nv.get r = some ⟨x, Config.checkByte r x⟩) : p.read r = some x := by
  unfold PolicyStore.read
  rw [h]
  exact if_pos (by simp)

theorem readGlobal_of_fails (h : NvRecord.passes 0 (p.nv.get 0) = false) : readGlobal p = {} := by
  rw [readGlobal, read_of_fails h]
  rfl

theorem readBay_of_fails (h : NvRecord.passes b.succ (p.nv.get b.succ) = false) : readBay p b = {} := by
  rw [readBay, bayRecordNo, read_of_fails h]
  rfl

theorem readGlobal_of_written (h : p.nv.get 0 = some ⟨x, Config.checkByte 0 x⟩) : readGlobal p = GlobalRecord.ofContent x := by
  rw [readGlobal, read_of_written h]
  rfl

theorem readBay_of_written (h : p.nv.get b.succ = some ⟨x, Config.checkByte b.succ x⟩) : readBay p b = BayRecord.ofContent x := by
  rw [readBay, bayRecordNo, read_of_written h]
  rfl

/-- A fold that sets the bits of a list's members. -/
theorem getLsbD_foldl_or (f : Fin 9 → Bool) (l : List (Fin 9)) (j : Fin 9) : ∀ v : BitVec 9,
    (l.foldl (fun t q => if f q then t else t ||| BitVec.twoPow 9 q.val) v).getLsbD j.val = (v.getLsbD j.val || (!f j && decide (j ∈ l))) := by
  induction l with
  | nil => simp
  | cons q rest ih =>
    intro v
    rw [List.foldl_cons, ih]
    by_cases hj : j = q
    · subst hj
      cases f j <;> simp
    · have hv : ¬ j.val = q.val := fun h => hj (Fin.ext h)
      cases f q <;> simp [hj, hv]

theorem tornSet_getLsbD (nv : Vector (Option NvRecord) 9) (r : Fin 9) :
    (tornSet nv).getLsbD r.val = !NvRecord.passes r (nv.get r) := by
  unfold tornSet
  rw [getLsbD_foldl_or (fun q => NvRecord.passes q (nv.get q))]
  simp

theorem tornSet_all {nv : Vector (Option NvRecord) 9} (h : ∀ r, NvRecord.passes r (nv.get r) = false) : tornSet nv = BitVec.allOnes 9 := by
  refine BitVec.eq_of_getLsbD_eq fun i hi => ?_
  rw [tornSet_getLsbD nv ⟨i, hi⟩, h, BitVec.getLsbD_allOnes]
  simp [hi]

/-- The content of a record, and the number it belongs to, are told apart by the check (R153). -/
theorem passes_tells (r : Fin 9) : NvRecord.passes r none = false ∧
    (∀ content check, NvRecord.passes r (some ⟨content, check⟩) = decide (check = Config.checkByte r content)) ∧
    (∀ other content check, other ≠ r → NvRecord.passes other (some ⟨content, check⟩) = true →
      NvRecord.passes r (some ⟨content, check⟩) = false) ∧
    ∀ (content : Vector Byte 7) (check : Byte) (i : Fin 7) (v : Byte), NvRecord.passes r (some ⟨content, check⟩) = true →
      v ≠ content[i] → NvRecord.passes r (some ⟨content.set i v, check⟩) = false := by
  refine ⟨rfl, fun content check => NvRecord.passes_some r _, fun other content check hne h => ?_, fun content check i v h hv => ?_⟩
  · have hcheck : check = Config.checkByte other content := by simpa using h
    have hother := Config.checkByte_number content hne
    simp [hcheck, hother]
  · have hcheck : check = Config.checkByte r content := by simpa using h
    have hcontent := (Config.checkByte_content r content i hv).symm
    simp only [NvRecord.passes_some, hcheck, hcontent, decide_false]

/-! ## The restore (R107, R163) -/

/-- A slice with its cold values, its sequencer in a state with a timer, and flags. -/
def Slice.coldWith (x : Slice) (k : PowerSettings) (st : SeqState) (tm : Option (SeqTimer × Nat)) (v : BitVec 19) : Slice where
  line := x.line.cold
  sequencer := { x.sequencer.cold k with state := st, timer := tm }
  flags := v

/-- `t` is the part on the way through the cold reset of `s`: the cold values, up to the sequencers' states, the flags and the grants. -/
structure ColdStart (s t : State) : Prop where
  slices : ∀ b, ∃ st tm v, t.slice b = (s.slice b).coldWith (readBay s.policy b).settings st tm v
  cache : t.cache = {}
  policy : t.policy = s.policy.cold
  link : ∃ v, t.link = { hold := true, summaryPending := v }
  values : t.grant.budget = (readGlobal s.policy).budget ∧ t.grant.restoreDelay = (readGlobal s.policy).restoreDelay
  resetN : t.resetN = s.resetN

theorem cold_ramBays (p : PolicyStore) (b : Bay) : p.cold.ramBays.get b = readBay p b := by
  simp [PolicyStore.cold, Vector.get_eq_getElem]

theorem coldBlocks_coldWith (s : State) (b : Bay) :
    (coldBlocks s).slice b = (s.slice b).coldWith (readBay s.policy b).settings .off none 0 := by
  rw [coldBlocks_slice, cold_ramBays]
  rfl

theorem coldBlocks_coldStart (s : State) : ColdStart s (coldBlocks s) where
  slices b := ⟨_, _, _, coldBlocks_coldWith s b⟩
  cache := rfl
  policy := rfl
  link := ⟨false, rfl⟩
  values := ⟨rfl, rfl⟩
  resetN := rfl

/-- With every cold value, reaching ON arms no responder, moves no monitor and starts no detection. -/
theorem Slice.coldWith_reached (x : Slice) (k : PowerSettings) (st : SeqState) (tm : Option (SeqTimer × Nat)) (v : BitVec 19) :
    (x.coldWith k st tm v).reached = x.coldWith k .on none v := rfl

namespace ColdStart

theorem modSlice {f : Slice → Slice} (h : ColdStart s t)
    (hf : ∀ (x : Slice) k st tm v, ∃ st' tm' v', f (x.coldWith k st tm v) = x.coldWith k st' tm' v') : ColdStart s (t.modSlice b f) where
  slices c := by
    obtain ⟨st, tm, v, hc⟩ := h.slices c
    rw [State.slice_modSlice, hc]
    split
    · exact hf _ _ _ _ _
    · exact ⟨_, _, _, rfl⟩
  cache := h.cache
  policy := h.policy
  link := h.link
  values := h.values
  resetN := h.resetN

theorem modGrant {f : GrantQueue → GrantQueue} (h : ColdStart s t)
    (hf : (f t.grant).budget = t.grant.budget ∧ (f t.grant).restoreDelay = t.grant.restoreDelay) : ColdStart s (t.modGrant f) where
  slices := h.slices
  cache := h.cache
  policy := h.policy
  link := h.link
  values := ⟨hf.1.trans h.values.1, hf.2.trans h.values.2⟩
  resetN := h.resetN

theorem setFlag {f : BayFlag} (h : ColdStart s t) : ColdStart s (setFlag b f t) where
  slices := (h.modSlice (b := b) (f := fun x => { x with flags := x.flags ||| BitVec.twoPow 19 f.bit })
    fun _ _ _ _ _ => ⟨_, _, _, rfl⟩).slices
  cache := h.cache
  policy := h.policy
  link := by
    obtain ⟨v, hv⟩ := h.link
    exact ⟨v || _, by rw [Machine.setFlag, raiseSummary, State.modLink_link, State.modSlice_link, hv]⟩
  values := h.values
  resetN := h.resetN

theorem changeState (h : ColdStart s t) (st : SeqState) (tm : Option (SeqTimer × Nat)) : ColdStart s (changeState b st tm t) :=
  setFlag (h.modSlice fun _ _ _ _ _ => ⟨st, tm, _, rfl⟩)

theorem reachOn (h : ColdStart s t) : ColdStart s (reachOn b t) := by
  rw [reachOn_eq]
  exact setFlag (modGrant (h.modSlice fun x k st tm v => ⟨_, _, _, x.coldWith_reached k st tm v⟩) ⟨rfl, rfl⟩)

theorem grantHead (h : ColdStart s t) (rest : List Bay) : ColdStart s (grantHead b rest t) := by
  unfold Machine.grantHead
  dsimp only
  split
  · exact ((h.modGrant ⟨rfl, rfl⟩).changeState _ _).reachOn
  · exact (h.modGrant ⟨rfl, rfl⟩).changeState _ _

theorem attemptFrom (q : List Bay) : ∀ t, ColdStart s t → ColdStart s (attemptFrom q t) := by
  induction q with
  | nil => exact fun _ h => h
  | cons b rest ih =>
    intro t h
    unfold Machine.attemptFrom
    split
    · exact ih _ (h.grantHead rest)
    · exact h

theorem restoreBay (h : ColdStart s t) : ColdStart s (restoreBay t b) := by
  unfold Machine.restoreBay
  split
  · exact (h.changeState _ _).modGrant ⟨rfl, rfl⟩
  · exact h

theorem restoreAll (bs : List Bay) : ∀ t, ColdStart s t → ColdStart s (bs.foldl Machine.restoreBay t) := by
  induction bs with
  | nil => exact fun _ h => h
  | cons b rest ih => exact fun t h => ih _ h.restoreBay

theorem startRestoreDelay (h : ColdStart s t) : ColdStart s (startRestoreDelay t) := by
  unfold Machine.startRestoreDelay
  split
  · exact attemptFrom _ _ (h.modGrant ⟨rfl, rfl⟩)
  · exact h.modGrant ⟨rfl, rfl⟩

end ColdStart

/-! ## Which bays are restored (R163) -/

theorem BayRecord.restores_eq (k : BayRecord) : k.restores = (decide (k.policy = .on) || (decide (k.policy = .last) && k.lastOn)) := by
  unfold BayRecord.restores
  cases k.policy <;> simp

theorem restoreBay_yes (h : (t.policy.ramBays.get b).restores = true) :
    restoreBay t b = (changeState b .queued none t).modGrant fun g => { g with queue := g.queue ++ [b] } := if_pos h

theorem restoreBay_no (h : (t.policy.ramBays.get b).restores = false) : restoreBay t b = t := if_neg (by simp [h])

theorem restoreBay_policy (t : State) (b : Bay) : (restoreBay t b).policy = t.policy := by
  unfold restoreBay
  split <;> rfl

theorem restoreBay_grant (t : State) (b : Bay) :
    (restoreBay t b).grant = { t.grant with queue := t.grant.queue ++ [b].filter fun c => (t.policy.ramBays.get c).restores } := by
  cases h : (t.policy.ramBays.get b).restores
  · rw [restoreBay_no h]
    simp [h]
  · rw [restoreBay_yes h, State.modGrant_grant, changeState_grant]
    simp [h]

/-- The restore queues the bays it restores in bay order (R107, R163). -/
theorem restoreAll_grant (bs : List Bay) : ∀ t : State,
    (bs.foldl restoreBay t).grant = { t.grant with queue := t.grant.queue ++ bs.filter fun c => (t.policy.ramBays.get c).restores } := by
  induction bs with
  | nil => simp
  | cons b rest ih =>
    intro t
    rw [List.foldl_cons, ih, restoreBay_grant, restoreBay_policy, ← List.singleton_append (l := rest), List.filter_append, List.append_assoc]

/-- A bay that the restore has queued (R163). -/
def queuedBay (b : Bay) (t : State) : Prop := (t.slice b).sequencer.state = .queued ∧ t.flag b .powerState = true

theorem restoreBay_slice_ne (t : State) (h : c ≠ b) : (restoreBay t b).slice c = t.slice c := by
  unfold restoreBay
  split
  · exact changeState_slice_ne _ _ _ h
  · rfl

theorem restoreBay_queued (h : (t.policy.ramBays.get b).restores = true) : queuedBay b (restoreBay t b) := by
  rw [restoreBay_yes h]
  refine ⟨?_, changeState_powerState b .queued none t⟩
  rw [State.modGrant_slice, changeState_sequencer_self]

theorem queuedBay.restoreBay (h : queuedBay c t) (b : Bay) : queuedBay c (restoreBay t b) := by
  by_cases hc : c = b
  · subst hc
    cases hr : (t.policy.ramBays.get c).restores
    · rwa [restoreBay_no hr]
    · exact restoreBay_queued hr
  · exact ⟨by rw [restoreBay_slice_ne t hc]; exact h.1, (flag_of_slice (restoreBay_slice_ne t hc) _).trans h.2⟩

theorem queuedBay.restoreAll (bs : List Bay) : ∀ t, queuedBay c t → queuedBay c (bs.foldl Machine.restoreBay t) := by
  induction bs with
  | nil => exact fun _ h => h
  | cons b rest ih => exact fun t h => ih _ (h.restoreBay b)

theorem restoreAll_queued (bs : List Bay) : ∀ t : State, b ∈ bs → (t.policy.ramBays.get b).restores = true →
    queuedBay b (bs.foldl restoreBay t) := by
  induction bs with
  | nil => exact fun _ h => absurd h (by simp)
  | cons c rest ih =>
    intro t hb hr
    obtain rfl | hb := List.mem_cons.mp hb
    · exact queuedBay.restoreAll rest _ (restoreBay_queued hr)
    · exact ih _ hb (by rwa [restoreBay_policy])

/-- A bay whose record does not ask for it stays as it is. -/
theorem restoreAll_slice_of_no (bs : List Bay) : ∀ t : State, (t.policy.ramBays.get b).restores = false →
    (bs.foldl restoreBay t).slice b = t.slice b := by
  induction bs with
  | nil => exact fun _ _ => rfl
  | cons c rest ih =>
    intro t hr
    rw [List.foldl_cons, ih _ (by rwa [restoreBay_policy])]
    by_cases hc : b = c
    · subst hc
      rw [restoreBay_no hr]
    · exact restoreBay_slice_ne t hc

theorem restoreAll_none (bs : List Bay) (t : State) (h : ∀ b, (t.policy.ramBays.get b).restores = false) : bs.foldl restoreBay t = t := by
  induction bs with
  | nil => rfl
  | cons b rest ih => rw [List.foldl_cons, restoreBay_no (h b), ih]

/-! ## The part after the restore -/

/-- The part after the restore has placed its bays, before the restore delay starts. -/
def restored (s : State) : State := (List.finRange 8).foldl restoreBay (coldBlocks s)

/-- The bays that the records ask for, in bay order (R163). -/
def restoredBays (p : PolicyStore) : List Bay := (List.finRange 8).filter fun b => (readBay p b).restores

theorem restored_coldStart (s : State) : ColdStart s (restored s) := ColdStart.restoreAll _ _ (coldBlocks_coldStart s)

theorem restored_grant (s : State) : (restored s).grant = { (coldBlocks s).grant with queue := restoredBays s.policy } := by
  have hr (c : Bay) : ((coldBlocks s).policy.ramBays.get c) = readBay s.policy c := cold_ramBays s.policy c
  refine (restoreAll_grant _ _).trans ?_
  simp only [hr]
  rfl

theorem restored_queued (h : b ∈ restoredBays s.policy) : queuedBay b (restored s) := by
  refine restoreAll_queued _ _ (List.mem_finRange b) ?_
  rw [show (coldBlocks s).policy = s.policy.cold from rfl, cold_ramBays]
  exact (List.mem_filter.mp h).2

theorem restored_slice_of_no (h : (readBay s.policy b).restores = false) :
    (restored s).slice b = (s.slice b).coldWith (readBay s.policy b).settings .off none 0 := by
  rw [← coldBlocks_coldWith]
  refine restoreAll_slice_of_no _ _ ?_
  rw [show (coldBlocks s).policy = s.policy.cold from rfl, cold_ramBays]
  exact h

theorem coldReset_eq (s : State) : coldReset s = (startRestoreDelay (restored s)).modLink fun l => { l with hold := s.resetN } := rfl

theorem coldReset_coldStart (s : State) : ColdStart s (startRestoreDelay (restored s)) := (restored_coldStart s).startRestoreDelay

/-- A restore delay of 0 ends at once, and its end makes a grant attempt (R107). -/
theorem startRestoreDelay_zero (h : t.grant.restoreDelay = 0) :
    startRestoreDelay t = attempt (t.modGrant fun g => { g with timer := .ended }) := if_pos h

theorem startRestoreDelay_runs (h : t.grant.restoreDelay ≠ 0) :
    startRestoreDelay t = t.modGrant fun g => { g with timer := .running g.restoreDelay } := if_neg h

theorem startRestoreDelay_slice (h : b ∉ t.grant.queue) : (startRestoreDelay t).slice b = t.slice b := by
  unfold startRestoreDelay
  split
  · exact attempt_slice (s := t.modGrant fun g => { g with timer := .ended }) h
  · rfl

theorem restored_slice_end_of_no (h : (readBay s.policy b).restores = false) :
    (startRestoreDelay (restored s)).slice b = (s.slice b).coldWith (readBay s.policy b).settings .off none 0 := by
  rw [startRestoreDelay_slice, restored_slice_of_no h]
  rw [restored_grant]
  exact fun hb => absurd (List.mem_filter.mp hb).2 (by simp [h])

/-- Where no record asks for its bay and the delay is 0, nothing is restored and the attempt finds no queue. -/
theorem startRestoreDelay_none (h : ∀ b, (readBay s.policy b).restores = false) (hd : (readGlobal s.policy).restoreDelay = 0) :
    startRestoreDelay (restored s) = (coldBlocks s).modGrant fun g => { g with timer := .ended } := by
  have hnone : restored s = coldBlocks s := restoreAll_none _ _ fun b => by
    rw [show (coldBlocks s).policy = s.policy.cold from rfl, cold_ramBays]
    exact h b
  rw [hnone, startRestoreDelay_zero (by exact hd)]
  exact attempt_empty (s := (coldBlocks s).modGrant fun g => { g with timer := .ended }) rfl

/-- Where every record fails its check the cold reset leaves the reset state, with the pins and the nonvolatile memory. -/
theorem coldReset_of_fails (h : ∀ r, NvRecord.passes r (s.policy.nv.get r) = false) : coldReset s = { State.reset with
    slices := Vector.ofFn fun b =>
      { line := { conRx := (s.slice b).line.conRx, conCts := (s.slice b).line.conCts, ctsRef := (s.slice b).line.conCts }
        sequencer := { pgood := (s.slice b).sequencer.pgood, btnSense := (s.slice b).sequencer.btnSense
                       snapshotPgood := (s.slice b).sequencer.pgood, snapshotBtn := (s.slice b).sequencer.btnSense } }
    grant := { sag := s.grant.sag }
    policy := { nv := s.policy.nv, torn := BitVec.allOnes 9 }
    link := { hold := s.resetN }
    resetN := s.resetN
    freeIndex := s.freeIndex
    pending := s.pending } := by
  have hbay (b : Bay) : readBay s.policy b = {} := readBay_of_fails (h b.succ)
  have hglobal : readGlobal s.policy = {} := readGlobal_of_fails (h 0)
  have hbays : Vector.ofFn (readBay s.policy) = Vector.replicate 8 {} := by
    rw [show readBay s.policy = fun _ => {} from funext hbay]
    rfl
  have hpolicy : s.policy.cold = { nv := s.policy.nv, torn := BitVec.allOnes 9 } := by
    unfold PolicyStore.cold
    rw [hglobal, hbays, tornSet_all h]
  rw [coldReset_eq, startRestoreDelay_none (fun b => by rw [hbay]; rfl) (by rw [hglobal])]
  simp only [coldBlocks, hpolicy]
  rfl

/-! ## The bays at the end of the restore -/

theorem grantHead_timer (rest : List Bay) (t : State) : (grantHead b rest t).grant.timer = t.grant.timer := by
  cases hp : (t.slice b).sequencer.pgood
  · rw [(grantHead_waits rest hp).2.1]
  · rw [(grantHead_on rest hp).2.1]

theorem attemptFrom_timer (q : List Bay) : ∀ t : State, (attemptFrom q t).grant.timer = t.grant.timer := by
  induction q with
  | nil => exact fun _ => rfl
  | cons b rest ih =>
    intro t
    unfold attemptFrom
    split
    · rw [ih, grantHead_timer]
    · rfl

/-- The head of an attempt that may be granted is granted, and what follows it does not touch it (R105). -/
theorem attempt_head {rest : List Bay} (hq : t.grant.queue = b :: rest) (hg : grantable b t = true) (hb : b ∉ rest) :
    (attempt t).slice b = (grantHead b rest t).slice b ∧
      (attempt t).grant.granted.get b = (grantHead b rest t).grant.granted.get b ∧ b ∉ (attempt t).grant.queue := by
  have he : attempt t = attemptFrom rest (grantHead b rest t) := by
    unfold attempt
    rw [hq]
    exact if_pos hg
  rw [he]
  exact attemptFrom_apart rest _ (grantHead_queue b rest t) hb

/-- The grant queue after the restore: the bays queued, nothing granted. -/
def restoredGrant (s : State) : GrantQueue := { (coldBlocks s).grant with queue := restoredBays s.policy }

theorem restoredGrant_granted (s : State) (b : Bay) : (restoredGrant s).granted.get b = none := by
  simp [restoredGrant, coldBlocks, Vector.get_eq_getElem]

theorem restoredGrant_sum (s : State) : (restoredGrant s).sum = 0 := show GrantQueue.sum {} = 0 from by decide

/-- The first bay restored is granted where the delay is 0 and SAG is released (R84, R104, R105, R107). -/
theorem restore_head {rest : List Bay} {k : BayRecord} (hcold : ColdStart s t)
    (hgrant : t.grant = { restoredGrant s with queue := b :: rest, timer := .ended }) (hs : s.grant.sag = false) (hb : b ∉ rest)
    (hk : k = readBay s.policy b) :
    b ∉ (attempt t).grant.queue ∧ (attempt t).flag b .powerState = true ∧
      ((s.slice b).sequencer.pgood = false → ((attempt t).slice b).sequencer.state = .powering ∧
        ((attempt t).slice b).sequencer.timer = some (.powerGood, k.settings.powerGood) ∧
        (attempt t).grant.granted.get b = some (min k.settings.weight (readGlobal s.policy).budget)) ∧
      ((s.slice b).sequencer.pgood = true → ((attempt t).slice b).sequencer.state = .on ∧ ((attempt t).slice b).sequencer.timer = none ∧
        (attempt t).grant.granted.get b = none) := by
  obtain ⟨st, tm, v, hslice⟩ := hcold.slices b
  have hg : grantable b t = true := by
    rw [grantable_iff]
    have hsum : t.grant.sum = 0 := by rw [hgrant]; exact restoredGrant_sum s
    exact ⟨by rw [hgrant]; exact hs, by rw [hgrant], by omega⟩
  obtain ⟨hend, hgranted, hout⟩ := attempt_head (by rw [hgrant]) hg hb
  have hset : (t.slice b).sequencer.settings = k.settings := by rw [hslice, hk]; rfl
  have hpin : (t.slice b).sequencer.pgood = (s.slice b).sequencer.pgood := by rw [hslice]; rfl
  rw [hend, hgranted, flag_of_slice hend]
  refine ⟨hout, ?_, fun hp => ?_, fun hp => ?_⟩
  · cases hp : (t.slice b).sequencer.pgood
    · exact (grantHead_waits rest hp).2.2
    · exact (grantHead_on rest hp).2.2
  · obtain ⟨hseq, hgr, -⟩ := grantHead_waits (s := t) rest (hpin.trans hp)
    rw [hseq, hgr, hset, hcold.values.1]
    exact ⟨rfl, rfl, get_set_self _ b _⟩
  · obtain ⟨hseq, hgr, -⟩ := grantHead_on (s := t) rest (hpin.trans hp)
    rw [hseq, hgr]
    exact ⟨rfl, rfl, get_set_self _ b _⟩

/-- With the restore delay running, the bays restored wait (R107). -/
theorem restore_delayed (hcold : ColdStart s t) (hgrant : t.grant = restoredGrant s) (hd : (readGlobal s.policy).restoreDelay ≠ 0) :
    startRestoreDelay t = { t with grant := { restoredGrant s with timer := .running (readGlobal s.policy).restoreDelay } } := by
  rw [startRestoreDelay_runs (by rwa [hcold.values.2]), ← hcold.values.2, ← hgrant]
  rfl

theorem restore_attempt (hcold : ColdStart s t) (hgrant : t.grant = restoredGrant s) (hd : (readGlobal s.policy).restoreDelay = 0) :
    startRestoreDelay t = attempt { t with grant := { restoredGrant s with timer := .ended } } := by
  rw [startRestoreDelay_zero (hcold.values.2.trans hd), ← hgrant]
  rfl

/-- A SAG asserted stops the attempt at the end of the restore delay (R105). -/
theorem restore_sag (hs : s.grant.sag = true) (t : State) : attempt { t with grant := { restoredGrant s with timer := .ended } } =
    { t with grant := { restoredGrant s with timer := .ended } } := by
  refine attempt_idle fun b rest _ => ?_
  have hg : (restoredGrant s).sag = true := hs
  simp [grantable, hg]

/-- What becomes of the bays restored (R107, R163). -/
theorem restore_places (hcold : ColdStart s t) (hgrant : t.grant = restoredGrant s) (hbays : ∀ b ∈ restoredBays s.policy, queuedBay b t) :
    ((readGlobal s.policy).restoreDelay ≠ 0 →
      (startRestoreDelay t).grant.queue = restoredBays s.policy ∧
      (startRestoreDelay t).grant.timer = .running (readGlobal s.policy).restoreDelay ∧
      ∀ b ∈ restoredBays s.policy, queuedBay b (startRestoreDelay t) ∧ (startRestoreDelay t).grant.granted.get b = none) ∧
    ((readGlobal s.policy).restoreDelay = 0 → (startRestoreDelay t).grant.timer = .ended ∧
      (s.grant.sag = true → (startRestoreDelay t).grant.queue = restoredBays s.policy ∧
        ∀ b ∈ restoredBays s.policy, queuedBay b (startRestoreDelay t))) := by
  refine ⟨fun hd => ?_, fun hd => ⟨?_, fun hs => ?_⟩⟩
  · rw [restore_delayed hcold hgrant hd]
    exact ⟨rfl, rfl, fun b hb => ⟨hbays b hb, restoredGrant_granted s b⟩⟩
  · rw [restore_attempt hcold hgrant hd]
    exact attemptFrom_timer _ _
  · rw [restore_attempt hcold hgrant hd, restore_sag hs]
    exact ⟨rfl, hbays⟩

/-! ## The cold values -/

/-- The cold values of a line and its consumers (R1, R21, R42, R60, R77). -/
theorem ColdStart.line_values (h : ColdStart s t) (b : Bay) :
    (t.slice b).line = (s.slice b).line.cold ∧ (t.slice b).history = {} ∧ (t.slice b).heartbeat = {} ∧ (t.slice b).responder = {} ∧
      (t.slice b).monitor = {} ∧ (t.slice b).medium = {} ∧ (t.slice b).port = {} ∧ (t.slice b).unmasked = BitVec.allOnes 19 := by
  obtain ⟨st, tm, v, hc⟩ := h.slices b
  rw [hc]
  exact ⟨rfl, rfl, rfl, rfl, rfl, rfl, rfl, rfl⟩

theorem ColdStart.sequencer_values (h : ColdStart s t) (b : Bay) : (t.slice b).sequencer.settings = (readBay s.policy b).settings ∧
    (t.slice b).sequencer.pendingOn = false ∧ (t.slice b).sequencer.fault = .none := by
  obtain ⟨st, tm, v, hc⟩ := h.slices b
  rw [hc]
  exact ⟨rfl, rfl, rfl⟩

theorem coldCache_entry (i : Fin 256) : ({} : Cache).entry i = {} := by
  simp [Cache.entry, Vector.get_eq_getElem]

/-- Settles O38: the cold values up to the restore's sequencers, flags and grants (`ColdStart`), the records as read, and the bays as the
restore places them. -/
theorem coldResetTakesTheColdValues : Obligations.ColdResetTakesTheColdValues := by
  unfold Obligations.ColdResetTakesTheColdValues
  refine ⟨fun s => ⟨?_, fun h => congrArg Host.Outcome.next (coldReset_of_fails h)⟩, fun p r => ⟨passes_tells r, fun h => ⟨?_, ?_⟩, fun x h => ⟨?_, ?_⟩⟩, ?_⟩
  · obtain ⟨u, hu⟩ : ∃ u, u = startRestoreDelay (restored s) := ⟨_, rfl⟩
    have hcold : ColdStart s u := hu ▸ coldReset_coldStart s
    have hreset : coldReset s = u.modLink fun l => { l with hold := s.resetN } := hu ▸ coldReset_eq s
    have hrest (b : Bay) (hb : (readBay s.policy b).restores = false) : (u.slice b).sequencer.state = .off ∧ (u.slice b).flags = 0 := by
      rw [hu, restored_slice_end_of_no hb]
      exact ⟨rfl, rfl⟩
    clear hu
    obtain ⟨v, hlink⟩ := hcold.link
    obtain ⟨t, ht⟩ : ∃ t, t = u.modLink fun l => { l with hold := s.resetN } := ⟨_, rfl⟩
    have hpolicy : t.policy = s.policy.cold := by rw [ht]; exact hcold.policy
    have hend : t.link = { hold := s.resetN, summaryPending := v } := by rw [ht, State.modLink_link, hlink]
    have hcache : t.cache = {} := by rw [ht]; exact hcold.cache
    have hgrant : t.grant = u.grant := by rw [ht]; rfl
    have hslice (b : Bay) : t.slice b = u.slice b := by rw [ht]; rfl
    rw [← ht] at hreset
    refine ⟨t, congrArg Host.Outcome.next hreset, fun b => ?_, fun b => ?_, fun i => ?_, ?_⟩
    · obtain ⟨hl, hh, hb, hr, hm, -⟩ := hcold.line_values b
      rw [hslice, hl, hh, hb, hr, hm]
      simp [Line.cold]
    · obtain ⟨-, -, -, -, -, hm, hp, hv⟩ := hcold.line_values b
      obtain ⟨hset, hpend, hfault⟩ := hcold.sequencer_values b
      rw [hslice, hm, hp, hv]
      exact ⟨hset, hpend, hfault, rfl, rfl, rfl, rfl, rfl, hrest b⟩
    · rw [hcache, coldCache_entry]
      exact ⟨rfl, rfl, rfl⟩
    · have hwarm : (warmReset t).policy.causes = 0x3#4 := by
        rw [warmReset_causes, hpolicy]
        simp [PolicyStore.cold]
      rw [hcache, hgrant, hpolicy, hend]
      exact ⟨rfl, rfl, rfl, rfl, rfl, rfl, rfl, rfl, rfl, hcold.values.1, hcold.values.2, rfl, cold_ramBays s.policy, rfl, rfl, rfl, rfl,
        rfl, rfl, tornSet_getLsbD s.policy.nv, rfl, rfl, rfl, rfl, rfl, rfl, rfl, rfl, rfl, rfl, rfl, warmReset t,
        congrArg (fun u => Host.Outcome.next (warmReset u)) hreset, warmReset_rebuilt t, rfl, rfl, hwarm⟩
  · rintro rfl
    exact readGlobal_of_fails h
  · rintro b rfl
    exact readBay_of_fails h
  · rintro rfl
    exact readGlobal_of_written h
  · rintro b rfl
    exact readBay_of_written h
  · intro s bays hbays
    have hbays : bays = restoredBays s.policy := hbays.trans (by simp only [restoredBays, BayRecord.restores_eq])
    subst hbays
    obtain ⟨w, hw⟩ : ∃ w, w = restored s := ⟨_, rfl⟩
    have hcold : ColdStart s w := hw ▸ restored_coldStart s
    have hgrant : w.grant = restoredGrant s := hw ▸ restored_grant s
    have hqueued (b : Bay) (hb : b ∈ restoredBays s.policy) : queuedBay b w := hw ▸ restored_queued hb
    obtain ⟨hdelayed, hended⟩ := restore_places hcold hgrant hqueued
    refine ⟨_, congrArg Host.Outcome.next (hw ▸ coldReset_eq s : coldReset s = (startRestoreDelay w).modLink _), fun hd => ?_,
      fun hd => ⟨(hended hd).1, (hended hd).2, fun b rest hs hr => ?_⟩⟩
    · obtain ⟨hqueue, htimer, hbay⟩ := hdelayed hd
      exact ⟨hqueue, htimer, fun b hb => ⟨(hbay b hb).1.1, (hbay b hb).1.2, (hbay b hb).2⟩⟩
    · have hn : (restoredBays s.policy).Nodup := (List.nodup_finRange 8).filter _
      have hr : restoredBays s.policy = b :: rest := hr
      rw [hr] at hn
      have hhead := restore_head (t := { w with grant := { restoredGrant s with timer := .ended } })
        (hcold.modGrant (f := fun _ => { restoredGrant s with timer := .ended }) (by rw [hgrant]; exact ⟨rfl, rfl⟩))
        (by rw [← hr]; rfl) hs (List.nodup_cons.mp hn).1 rfl
      rw [← restore_attempt hcold hgrant hd] at hhead
      exact hhead

end Sys2Proof.Machine
end

section
/-! PROOFS. The statements of chapter 8 about answers to fetches and fetch deadlines (R138 to R140). -/

namespace Sys2Proof.Machine

variable {s t u : State} {b : Bay} {kind tag : Byte} {act : State → Answer} {id index generation : Nat} {data : Block} {r : FetchRecord}
  {c : Cache}

/-! ## Replies -/

/-- A request that its owner refuses and counts is replied with the code alone, from the state the owner leaves (R138, R167). -/
theorem takeRequest_counted (ht : takesRequest tag s) {code : ReplyCode} (ha : act (toHunt s) = refuse code (toHunt t)) :
    takeRequest kind tag act s = replied (replyKind kind) tag [code.byte] t := by
  rw [takeRequest_taken act ht, ha, pushReply_refuse_toHunt]

/-- What an accepted request leaves, where its owner leaves the reply queue. -/
theorem takeRequest_leaves (ht : takesRequest tag s) {fields : List Byte} (ha : act (toHunt s) = accept u fields)
    (hr : Part.replies.Same s u) : ∃ t, takeRequest kind tag act s = t ∧
      t.link.replies = s.link.replies ++ [⟨replyKind kind, tag, 0 :: fields⟩] ∧ (∀ b, t.slice b = u.slice b) ∧ t.cache = u.cache := by
  have hr : u.link.replies = s.link.replies := hr
  refine ⟨_, rfl, ?_, fun b => ?_, ?_⟩
  · rw [takeRequest_taken act ht, ha, ← hr]
    rfl
  · rw [takeRequest_taken act ht, ha]
    rfl
  · rw [takeRequest_taken act ht, ha]
    rfl

/-! ## FILL (R138) -/

theorem fillAct_unknown (h : s.cache.fetchOf id = none) : fillAct id index generation data s = answerCounted .unknown s := by
  unfold fillAct
  rw [h]

theorem fillAct_stray (h : s.cache.fetchOf id = some r) (ho : r.orphan = true) (hi : r.marks.length ≤ index) :
    fillAct id index generation data s = answerCounted .stale s := by
  unfold fillAct
  rw [h]
  dsimp only
  rw [if_pos ho, if_neg (show ¬ index < r.marks.length by omega), if_neg (Nat.lt_irrefl _)]

theorem fillAct_orphan (h : s.cache.fetchOf id = some r) (ho : r.orphan = true) (hi : index < r.marks.length) (hq : s.quiet) :
    fillAct id index generation data s = answerCounted .stale (s.modCache fun c => c.markFetch r index) := by
  unfold fillAct
  rw [h]
  dsimp only
  rw [if_pos ho, if_pos hi, settle_quiet r.bay s (t := s.modCache fun c => c.markFetch r index) hq, ite_self]

theorem fillAct_stale (h : s.cache.fetchOf id = some r) (ho : r.orphan = false) (hg : generation ≠ r.generation) :
    fillAct id index generation data s = answerCounted .stale s := by
  unfold fillAct
  rw [h]
  dsimp only
  rw [if_neg (by simp [ho]), if_pos hg]

theorem fillAct_range (h : s.cache.fetchOf id = some r) (ho : r.orphan = false) (hg : generation = r.generation) (hi : r.marks.length ≤ index) :
    fillAct id index generation data s = answerCounted .range s := by
  unfold fillAct
  rw [h]
  dsimp only
  rw [if_neg (by simp [ho]), if_neg (by simp [hg]), if_pos hi]

/-- A mark within the record is one of its marks. -/
theorem mark_getD {marks : List Bool} {v : Bool} (h : marks[index]? = some v) : index < marks.length ∧ marks.getD index false = v := by
  obtain ⟨hi, _⟩ := List.getElem?_eq_some_iff.mp h
  exact ⟨hi, by rw [List.getD_eq_getElem?_getD, h]; rfl⟩

theorem fillAct_duplicate (h : s.cache.fetchOf id = some r) (ho : r.orphan = false) (hg : generation = r.generation)
    (hm : r.marks[index]? = some true) : fillAct id index generation data s = answerCounted .duplicate s := by
  obtain ⟨hi, hd⟩ := mark_getD hm
  unfold fillAct
  rw [h]
  dsimp only
  rw [if_neg (by simp [ho]), if_neg (by simp [hg]), if_neg (by omega), if_pos hd]

theorem fillAct_filled (h : s.cache.fetchOf id = some r) (ho : r.orphan = false) (hg : generation = r.generation)
    (hm : r.marks[index]? = some false) (hq : s.quiet) : fillAct id index generation data s =
      accept (s.modCache fun c => (c.mapEntries (fillEntry id index data)).markFetch r index) [] := by
  obtain ⟨hi, hd⟩ := mark_getD hm
  unfold fillAct
  rw [h]
  dsimp only
  rw [if_neg (by simp [ho]), if_neg (by simp [hg]), if_neg (by omega), if_neg (by simp [hm]),
    settle_quiet r.bay s (t := s.modCache fun c => (c.mapEntries (fillEntry id index data)).markFetch r index) hq]

/-- A mark set in a record, which is freed once every mark is (R138). -/
theorem Cache.markFetch_eq (c : Cache) (hid : r.id = id) (index : Nat) : c.markFetch r index = { c with
    fetches := if ∀ m ∈ r.marks.set index true, m = true then c.fetches.filter fun q => q.id ≠ id
      else c.fetches.map fun q => if q.id = id then { q with marks := q.marks.set index true } else q } := by
  subst hid
  have hc : (r.marked index).complete = true ↔ ∀ m ∈ r.marks.set index true, m = true := by
    simp [FetchRecord.complete, FetchRecord.marked, List.all_eq_true]
  unfold Cache.markFetch
  by_cases h : ∀ m ∈ r.marks.set index true, m = true
  · rw [if_pos (hc.mpr h), if_pos h]
    rfl
  · rw [if_neg (fun hh => h (hc.mp hh)), if_neg h]
    rfl

/-- Settles O48, by the cases of R138 in their order. -/
theorem fillIsJudged : Obligations.FillIsJudged := by
  unfold Obligations.FillIsJudged
  refine fun s tag id index generation data ht => ⟨fun h => ?_, fun r h => ⟨fun ho => ⟨fun hi => ?_, fun hi hq => ?_⟩, fun ho hg => ?_,
    fun ho hg hi => ?_, fun ho hg hm => ?_, fun ho hg hm hq => ?_⟩⟩
  · exact congrArg Host.Outcome.next (takeRequest_counted (kind := 0x34) (code := .unknown) ht (fillAct_unknown (s := toHunt s) h))
  · exact congrArg Host.Outcome.next (takeRequest_counted (kind := 0x34) (code := .stale) ht (fillAct_stray (s := toHunt s) h ho hi))
  · refine congrArg Host.Outcome.next (takeRequest_counted (kind := 0x34) (code := .stale) ht
      ((fillAct_orphan (s := toHunt s) h ho hi hq).trans ?_))
    rw [show ((toHunt s).modCache fun c => c.markFetch r index.toNat) = toHunt (s.withCache (s.cache.markFetch r index.toNat)) from rfl,
      Cache.markFetch_eq s.cache (fetchOf_id h)]
    rfl
  · exact congrArg Host.Outcome.next (takeRequest_counted (kind := 0x34) (code := .stale) ht (fillAct_stale (s := toHunt s) h ho hg))
  · exact congrArg Host.Outcome.next (takeRequest_counted (kind := 0x34) (code := .range) ht (fillAct_range (s := toHunt s) h ho hg hi))
  · exact congrArg Host.Outcome.next (takeRequest_counted (kind := 0x34) (code := .duplicate) ht
      (fillAct_duplicate (s := toHunt s) h ho hg hm))
  · refine congrArg Host.Outcome.next (takeRequest_accepted (kind := 0x34) ht ((fillAct_filled (s := toHunt s) h ho hg hm hq).trans ?_))
    rw [show ((toHunt s).modCache fun c => (c.mapEntries (fillEntry id.toNat index.toNat data)).markFetch r index.toNat) =
        toHunt (s.withCache ((s.cache.mapEntries (fillEntry id.toNat index.toNat data)).markFetch r index.toNat)) from rfl,
      Cache.markFetch_eq _ (fetchOf_id h)]
    rfl

/-! ## A fetch fails (R139) -/

/-- A block is unfilled where its mark is clear. -/
theorem unfilled_contains (r : FetchRecord) (n : Nat) :
    r.unfilled.contains n = (decide (r.first ≤ n) && r.marks[n - r.first]? == some false) := by
  rw [Bool.eq_iff_iff]
  simp only [FetchRecord.unfilled, List.contains_iff_mem, List.mem_map, List.mem_filter, List.mem_zipIdx_iff_getElem?, Bool.and_eq_true,
    decide_eq_true_eq, beq_iff_eq, Prod.exists]
  constructor
  · rintro ⟨m, x, ⟨hx, hm⟩, rfl⟩
    refine ⟨Nat.le_add_right _ _, ?_⟩
    rw [Nat.add_sub_cancel_left, hx]
    simpa using hm
  · rintro ⟨hle, hm⟩
    exact ⟨false, n - r.first, ⟨hm, rfl⟩, by omega⟩

@[simp] theorem complete_port (b : Bay) (q : ServerRequest) (st : ServerStatus) (s : State) : ((complete b q st s).slice b).port =
    { (s.slice b).port with
      queue := (s.slice b).port.queue.filter fun p => p.serial ≠ q.serial
      sent := (s.slice b).port.sent ++ [.status q.tag st] } := by
  simp [complete, tell]

/-- Requests completed one after the other leave the queue, and their statuses go out in their order. -/
theorem completeAll_port (b : Bay) (st : ServerStatus) (rs : List ServerRequest) : ∀ s : State,
    ((rs.foldl (fun s r => complete b r st s) s).slice b).port = { (s.slice b).port with
      queue := (s.slice b).port.queue.filter fun p => rs.all fun q => p.serial ≠ q.serial
      sent := (s.slice b).port.sent ++ rs.map fun q => .status q.tag st } := by
  induction rs with
  | nil => simp
  | cons q rest ih =>
    intro s
    rw [List.foldl_cons, ih, complete_port]
    simp only [List.filter_filter, List.append_assoc, List.map_cons, List.singleton_append, List.all_cons]
    congr 1
    exact List.filter_congr fun p _ => Bool.and_comm _ _

/-- Members of a queue told apart by their serials: those that bear no serial of a part of it are the others. -/
theorem filter_serials {l : List ServerRequest} (hn : (l.map ServerRequest.serial).Nodup) (p : ServerRequest → Bool) :
    (l.filter fun x => (l.filter p).all fun q => x.serial ≠ q.serial) = l.filter fun x => !p x := by
  refine List.filter_congr fun x hx => ?_
  rw [Bool.eq_iff_iff]
  simp only [List.all_eq_true, List.mem_filter, decide_eq_true_eq, Bool.not_eq_true', and_imp]
  refine ⟨fun h => Bool.eq_false_iff.mpr fun hp => h x hx hp rfl, fun h q hq hp he => ?_⟩
  have : x = q := eq_of_id_eq hn hx hq he
  rw [this, hp] at h
  cases h

theorem failReads_port (hn : ((s.slice b).port.queue.map ServerRequest.serial).Nodup) {fails : ServerRequest → Bool}
    (hf : ∀ q, fails q = (!q.write && decide (r.first ≤ q.next) && r.marks[q.next - r.first]? == some false)) :
    ((failReads b r.unfilled s).slice b).port = { (s.slice b).port with
      queue := (s.slice b).port.queue.filter fun q => !fails q
      sent := (s.slice b).port.sent ++ ((s.slice b).port.queue.filter fails).map fun q => .status q.tag .mediaError } := by
  have hfails : (fun q : ServerRequest => !q.write && r.unfilled.contains q.next) = fails := by
    funext q
    rw [hf q, unfilled_contains, Bool.and_assoc]
  unfold failReads
  rw [completeAll_port, hfails, filter_serials hn]

theorem failReads_quiet (hq : s.quiet) (b : Bay) (blocks : List Nat) : failReads b blocks s = s := by
  unfold failReads
  rw [hq b]
  rfl

/-- The cache once a fetch record has failed: its unfilled entries are freed with it (R139). -/
def Cache.failed (id : Nat) (c : Cache) : Cache := { c with
  entries := c.entries.map fun e => if e.ofFetch id then { e with state := .free, key := none, owner := none } else e
  fetches := c.fetches.filter fun q => q.id ≠ id }

theorem failFetch_eq (r : FetchRecord) (s : State) : failFetch r s =
    settle r.bay s (failReads r.bay r.unfilled (s.modCache (Cache.failed r.id))) := rfl

theorem failFetch_quiet (hq : s.quiet) (r : FetchRecord) : failFetch r s = s.modCache (Cache.failed r.id) := by
  rw [failFetch_eq, failReads_quiet (s := s.modCache (Cache.failed r.id)) hq]
  exact settle_quiet _ _ hq

theorem failFetch_port (hw : (s.slice r.bay).port.Wf) {fails : ServerRequest → Bool}
    (hf : ∀ q, fails q = (!q.write && decide (r.first ≤ q.next) && r.marks[q.next - r.first]? == some false)) :
    ((failFetch r s).slice r.bay).port.queue = (s.slice r.bay).port.queue.filter (fun q => !fails q) ∧
      ((failFetch r s).slice r.bay).port.sent = (s.slice r.bay).port.sent ++
        ((s.slice r.bay).port.queue.filter fails).map (fun q => .status q.tag .mediaError) := by
  have hE := settle_engines r.bay s (failReads r.bay r.unfilled (s.modCache (Cache.failed r.id)))
  have hp := failReads_port (s := s.modCache (Cache.failed r.id)) (b := r.bay) hw.serials hf
  rw [failFetch_eq, hE.queue, hE.sent, hp]
  exact ⟨rfl, rfl⟩

theorem fillFailAct_unknown (h : s.cache.fetchOf id = none) : fillFailAct id s = answerCounted .unknown s := by
  unfold fillFailAct
  rw [h]

theorem fillFailAct_orphan (h : s.cache.fetchOf id = some r) (ho : r.orphan = true) (hq : s.quiet) :
    fillFailAct id s = answerCounted .stale (s.modCache fun c => c.dropFetch id) := by
  unfold fillFailAct
  rw [h]
  dsimp only
  rw [if_pos ho, settle_quiet r.bay s (t := s.modCache fun c => c.dropFetch id) hq]

theorem fillFailAct_live (h : s.cache.fetchOf id = some r) (ho : r.orphan = false) : fillFailAct id s = accept (failFetch r s) [] := by
  unfold fillFailAct
  rw [h]
  exact if_neg (by simp [ho])

/-! ## Fetch deadlines (R140) -/

theorem exec_fetchDeadlineExpiry_unknown {id : Byte} (h : s.cache.fetchOf id.toNat = none) : exec (.fetchDeadlineExpiry id) s = .next s := by
  change execFetchDeadlineExpiry id s = _
  unfold execFetchDeadlineExpiry
  rw [h]

theorem exec_fetchDeadlineExpiry_stopped {id : Byte} (h : s.cache.fetchOf id.toNat = some r) (hd : r.deadline = none) :
    exec (.fetchDeadlineExpiry id) s = .next s := by
  change execFetchDeadlineExpiry id s = _
  unfold execFetchDeadlineExpiry
  rw [h]
  exact if_pos (by simp [hd])

theorem exec_fetchDeadlineExpiry_orphan {id : Byte} (h : s.cache.fetchOf id.toNat = some r) (hd : r.deadline ≠ none) (ho : r.orphan = true) :
    exec (.fetchDeadlineExpiry id) s = .next (settle r.bay s (countTimeout (s.modCache fun c => c.dropFetch r.id))) := by
  change execFetchDeadlineExpiry id s = _
  unfold execFetchDeadlineExpiry
  rw [h]
  exact (if_neg (by simp [hd])).trans (if_pos ho)

theorem exec_fetchDeadlineExpiry_live {id : Byte} (h : s.cache.fetchOf id.toNat = some r) (hd : r.deadline ≠ none) (ho : r.orphan = false) :
    exec (.fetchDeadlineExpiry id) s = .next (failFetch r (countTimeout s)) := by
  change execFetchDeadlineExpiry id s = _
  unfold execFetchDeadlineExpiry
  rw [h]
  exact (if_neg (by simp [hd])).trans (if_neg (by simp [ho]))

/-- Settles O49: an unknown record, an orphan, and a live record, whose failure completes the READs that wait for it. -/
theorem fetchesFail : Obligations.FetchesFail := by
  unfold Obligations.FetchesFail
  refine fun s tag id => ⟨fun h => ⟨fun ht => ?_, exec_fetchDeadlineExpiry_unknown h⟩, fun r h =>
    ⟨exec_fetchDeadlineExpiry_stopped h, fun ho hq => ⟨fun ht => ?_, fun hd => ?_⟩, fun ho hq c hc => ⟨fun ht => ?_, fun hd => ?_⟩,
      fun ho hw fails hf => ⟨fun ht => ?_, fun hd => ?_⟩⟩⟩
  · exact congrArg Host.Outcome.next (takeRequest_counted (kind := 0x35) (code := .unknown) ht (fillFailAct_unknown (s := toHunt s) h))
  · exact congrArg Host.Outcome.next (takeRequest_counted (kind := 0x35) (code := .stale) ht (fillFailAct_orphan (s := toHunt s) h ho hq))
  · rw [exec_fetchDeadlineExpiry_orphan h hd ho, settle_quiet r.bay s (t := countTimeout (s.modCache fun c => c.dropFetch r.id)) hq,
      fetchOf_id h]
    rfl
  · rw [← fetchOf_id h] at hc
    refine congrArg Host.Outcome.next (takeRequest_accepted (kind := 0x35) ht ((fillFailAct_live (s := toHunt s) h ho).trans ?_))
    rw [failFetch_quiet (s := toHunt s) hq, hc]
    rfl
  · rw [exec_fetchDeadlineExpiry_live h hd ho, failFetch_quiet (s := countTimeout s) hq, hc, ← fetchOf_id h]
    rfl
  · obtain ⟨t, he, hr, hs, -⟩ := takeRequest_leaves (kind := 0x35) (act := fillFailAct id.toNat) ht (fillFailAct_live (s := toHunt s) h ho)
      (failFetch_same (p := .replies) (s := toHunt s) rfl)
    obtain ⟨hqueue, hsent⟩ := failFetch_port (s := toHunt s) hw hf
    exact ⟨t, congrArg Host.Outcome.next he, hr, by rw [hs]; exact hqueue, by rw [hs]; exact hsent⟩
  · obtain ⟨hqueue, hsent⟩ := failFetch_port (s := countTimeout s) hw hf
    exact ⟨_, exec_fetchDeadlineExpiry_live h hd ho, hqueue, hsent⟩

end Sys2Proof.Machine
end

section
/-! PROOFS. The statement of chapter 7 about the media link (R116, R117, R126). -/

namespace Sys2Proof.Machine

variable {s t : State} {b c : Bay} {m : PortMessage} {x : Transfer}

/-! ## An open (R116) -/

theorem tell_withPort (b : Bay) (m : PortMessage) (p : Port) (s : State) :
    tell b m (s.withPort b p) = s.withPort b { p with sent := p.sent ++ [m] } := by
  unfold tell State.withPort State.modPort
  rw [modSlice_withSlice]

theorem exec_mediaOpen_up (h : (s.slice b).port.up = true) : exec (.mediaOpen b) s = .next (s.told b .openAccepted) := if_pos h

theorem exec_mediaOpen_opens (h : (s.slice b).port.up = false) (hq : (s.slice b).sequencer.state = .on ∨ (s.slice b).sequencer.state = .resetting) :
    exec (.mediaOpen b) s = .next (setFlag b .mediaLink
      (s.withPort b { (s.slice b).port with up := true, sent := (s.slice b).port.sent ++ [.openAccepted] })) := by
  refine (if_neg (by simp [h])).trans ((if_pos hq).trans ?_)
  rw [show (s.modPort b fun p => { p with up := true }) = s.withPort b { (s.slice b).port with up := true } from rfl, tell_withPort]

theorem exec_mediaOpen_refused (h : (s.slice b).port.up = false) (hon : (s.slice b).sequencer.state ≠ .on)
    (hr : (s.slice b).sequencer.state ≠ .resetting) : exec (.mediaOpen b) s = .next (s.told b .openRefused) :=
  (if_neg (by simp [h])).trans (if_neg (by simp [hon, hr]))

/-! ## A close (R117, R126) -/

theorem setFlag_slice_ne (f : BayFlag) (s : State) (h : c ≠ b) : (setFlag b f s).slice c = s.slice c := by
  simp [setFlag, State.slice_modSlice_ne _ _ _ _ h]

theorem abandon_slice_ne (s : State) (h : c ≠ b) : (abandon b s).slice c = s.slice c := by
  cases hx : (s.slice b).port.transfer with
  | none => rw [abandon_none hx]
  | some x =>
    rw [abandon_some hx, State.slice_modSlice_ne _ _ _ _ h]
    rfl

theorem linkDown_slice_ne (s : State) (h : c ≠ b) : (linkDown b s).slice c = s.slice c := by
  unfold linkDown
  split
  · rw [setFlag_slice_ne _ _ h, State.slice_modSlice_ne _ _ _ _ h, forgetRequests_slice, abandon_slice_ne s h]
  · rfl

/-- A transfer abandoned returns its place. -/
theorem linkDown_reservedPlaces (h : (s.slice b).port.up = true) :
    reservedPlaces (linkDown b s) + placeOf (s.slice b).port.transfer = reservedPlaces s := by
  have hsame : reservedPlaces (linkDown b s) = reservedPlaces (s.modPort b fun p => { p with transfer := none }) := by
    refine reservedPlaces_congr fun c => ?_
    by_cases hc : c = b
    · subst hc
      rw [linkDown_slice h]
      simp
    · rw [linkDown_slice_ne s hc, State.slice_modSlice_ne _ _ _ _ hc]
  rw [hsame]
  exact reservedPlaces_modPort s b fun p => { p with transfer := none }

theorem linkDown_usedPlaces (h : (s.slice b).port.up = true) :
    usedPlaces (linkDown b s) + placeOf (s.slice b).port.transfer = usedPlaces s := by
  have hr := linkDown_reservedPlaces h
  have hw : (linkDown b s).cache.writebacks.length = s.cache.writebacks.length := by
    rw [linkDown_cache h]
    simp
  unfold usedPlaces
  omega

theorem linkDown_quiet (h : (s.slice b).port.up = true) (hq : ∀ c, c ≠ b → (s.slice c).port.queue = []) : (linkDown b s).quiet := by
  intro c
  by_cases hc : c = b
  · subst hc
    rw [linkDown_slice h]
  · rw [linkDown_slice_ne s hc]
    exact hq c hc

theorem exec_mediaClose (h : (s.slice b).port.up = true) : exec (.mediaClose b) s = .next (settle b s (linkDown b s)) := if_pos h

/-- What the close leaves of the cache where no other bay waits. -/
theorem linkDown_transfer (h : (s.slice b).port.up = true) (hx : (s.slice b).port.transfer = some x) :
    (linkDown b s).cache = { s.cache with
      entries := s.cache.entries.set x.entry (if x.write
        then { s.cache.entry x.entry with state := .free, key := none, owner := none, pinned := false }
        else { s.cache.entry x.entry with pinned := false })
      writebacks := (linkDown b s).cache.writebacks } := by
  rw [linkDown_cache h, abandon_some hx]
  rfl

/-- Settles O44: the open by the link and the sequencer's state, and the close, whose report finds no other bay waiting. -/
theorem mediaLinkOpensAndCloses : Obligations.MediaLinkOpensAndCloses := by
  unfold Obligations.MediaLinkOpensAndCloses
  refine fun s b => ⟨exec_mediaOpen_up, exec_mediaOpen_opens, exec_mediaOpen_refused, fun h => ?_, fun h => if_neg (by simp [h])⟩
  have hE := settle_engines b s (linkDown b s)
  have hmedium := settled_medium b b s (linkDown b s)
  have hflag := settled_flag b s (linkDown b s) .mediaLink
  have hquiet (hq : ∀ c, c ≠ b → (s.slice c).port.queue = []) : settle b s (linkDown b s) = linkDown b s :=
    settle_quiet b s (linkDown_quiet h hq)
  refine ⟨settle b s (linkDown b s), exec_mediaClose h, ?_⟩
  generalize settle b s (linkDown b s) = t at hE hmedium hflag hquiet ⊢
  refine ⟨?_, ?_, ?_, ?_, hmedium.trans (linkDown_medium b s), fun hq => ?_⟩
  · rw [hE.idle b (by rw [linkDown_slice h]), linkDown_slice h]
  · rw [hflag, linkDown_flag, h]
    simp
  · obtain ⟨new, hnew, -⟩ := hE.cache.fetches
    rw [hnew, linkDown_cache h, (abandon_tables b s).1, List.length_append]
    omega
  · rw [hE.cache.writebacks.1, linkDown_cache h]
  · have hplaces := linkDown_usedPlaces h
    rw [hquiet hq]
    refine ⟨fun hx => ?_, fun x hx => ⟨fun hw => ⟨?_, ?_⟩, fun hw => ⟨?_, ?_⟩⟩⟩
    · rw [linkDown_cache h, abandon_none hx]
    · simpa [hx, placeOf, hw] using hplaces
    · have hc := linkDown_transfer h hx
      rwa [if_neg (by simp [hw])] at hc
    · simpa [hx, placeOf, hw] using hplaces
    · have hc := linkDown_transfer h hx
      rwa [if_pos hw] at hc

end Sys2Proof.Machine
end

section
/-! PROOFS. The statement of chapter 7 about EJECT (R113 to R115, R141, R146). -/

namespace Sys2Proof.Machine

open State.Agrees (discarded discarded_dirty ejectPresent_eq dirtyCount_eq_zero heldBy_freeHeld)

variable {s t u : State} {b c : Bay} {tag : Byte} {force : Bool} {i : Fin 256}

/-! ## What an eject leaves of its bay -/

theorem forceEject_cache (b : Bay) (s : State) : (forceEject b s).cache = { s.cache with
    entries := s.cache.entries.map fun e => if e.heldBy b && decide (e.state = .dirty) then e.release else e
    writebacks := orphanWritebacks b s.cache.writebacks } := by
  unfold forceEject
  rw [emptyMedium_cache]
  rfl

/-- No DIRTY entry of the bay is left (R114). -/
theorem forceEject_entry (b : Bay) (s : State) (i : Fin 256) (h : ((forceEject b s).cache.entry i).heldBy b = true) :
    (forceEject b s).cache.entry i = s.cache.entry i ∧ (s.cache.entry i).state ≠ .dirty := by
  unfold forceEject at h ⊢
  rw [emptyMedium_cache] at h ⊢
  exact heldBy_freeHeld h

theorem forceEject_slice (b : Bay) (s : State) : (forceEject b s).slice b = { s.slice b with
    medium := { state := .empty, generation := (s.slice b).medium.generation, changed := true }
    flags := (s.slice b).flags ||| BitVec.twoPow 19 BayFlag.mediaEjected.bit } := by
  unfold forceEject
  rw [emptyMedium_slice]
  rfl

theorem forceEject_dirtyCount (b : Bay) (s : State) : dirtyCount b (forceEject b s) = 0 := by
  refine dirtyCount_eq_zero.mpr fun i hi => ?_
  obtain ⟨he, hd⟩ := forceEject_entry b s i hi
  rwa [he]

/-- What an eject leaves that empties the medium: nothing of the bay outside FREE (R113, R114). -/
structure Ejected (b : Bay) (s t : State) : Prop where
  medium : (t.slice b).medium = { state := .empty, generation := (s.slice b).medium.generation, changed := true }
  flag : t.flag b .mediaEjected = true
  port : (t.slice b).port = { (s.slice b).port with
    queue := [], transfer := none, sent := (s.slice b).port.sent ++ (s.slice b).port.queue.map fun r => .status r.tag .notReady }
  held : ∀ i, (t.cache.entry i).heldBy b = false

theorem Ejected.holding (h : Ejected b s t) : t.cache.holding b = 0 := Cache.count_eq_zero.mpr h.held

theorem Ejected.dirtyCount (h : Ejected b s t) : dirtyCount b t = 0 := dirtyCount_eq_zero.mpr fun i hi => by simp [h.held i] at hi

/-- The engines' work after an eject leaves the bay as it is. -/
theorem Ejected.settle (h : Ejected b s u) : Ejected b s (settle b s u) := by
  have hE := settle_engines b s u
  refine ⟨(settled_medium b b s u).trans h.medium, (settled_flag b s u _).trans h.flag, (hE.idle b (by rw [h.port])).trans h.port, fun i => ?_⟩
  refine Bool.eq_false_iff.mpr fun hi => ?_
  have := hE.moves_of_idle (by rw [h.port]) i hi
  rw [h.held i] at this
  cases this

theorem ejectPresent_ejected (h : force = true ∨ dirtyCount b s = 0) : Ejected b s (ejectPresent force b s) := by
  by_cases hd : dirtyCount b (abandon b s) = 0
  · refine ⟨?_, ?_, ejectPresent_port force b s, fun i => ?_⟩
    · rw [ejectPresent_clean force hd, emptyMedium_slice, discarded_slice]
    · rw [ejectPresent_clean force hd, flag_of_slice (emptyMedium_slice b _), flags_set]
      simp
    · rw [ejectPresent_clean force hd, emptyMedium_cache]
      refine Bool.eq_false_iff.mpr fun hi => ?_
      exact dirtyCount_eq_zero.mp ((discarded_dirtyCount b s).trans hd) i hi (discarded_dirty hi)
  · have hf : force = true := by
      refine h.resolve_right fun hz => hd ?_
      rw [abandon_dirtyCount b b fun x _ _ hi => dirtyCount_eq_zero.mp hz _ hi, hz]
    subst hf
    refine ⟨?_, ?_, ejectPresent_port true b s, fun i => ?_⟩
    · rw [ejectPresent_forced hd, forceEject_slice, discarded_slice]
    · rw [ejectPresent_forced hd, flag_of_slice (forceEject_slice b _), flags_set]
      simp
    · rw [ejectPresent_forced hd]
      refine Bool.eq_false_iff.mpr fun hi => ?_
      obtain ⟨he, hne⟩ := forceEject_entry b _ i hi
      rw [he] at hi
      exact hne (discarded_dirty hi)

/-! ## EJECT (R113, R114) -/

theorem exec_eject (tag bay : Byte) (force : Bool) (s : State) :
    exec (.eject tag bay (onOffByte force)) s = .next (takeRequest 0x31 tag (onBay bay (ejectAct force)) s) :=
  congrArg (fun act => Host.Outcome.next (takeRequest 0x31 tag act s)) (withField_onOffByte force _)

theorem ejectAct_empty (h : (s.slice b).medium.state = .empty) : ejectAct force b s = refuse .state s := if_pos h

theorem ejectAct_ejects (h : (s.slice b).medium.state ≠ .empty) (hu : u = ejectMedium force b s) :
    ejectAct force b s = accept (settle b s u) (le1 (u.slice b).medium.state.code ++ le1 (dirtyCount b u)) := by
  subst hu
  exact if_neg h

theorem ejectMedium_present (h : (s.slice b).medium.state = .present) : ejectMedium force b s = ejectPresent force b s := by
  unfold ejectMedium
  rw [h]

theorem ejectMedium_pending (h : (s.slice b).medium.state = .ejectPending) :
    ejectMedium force b s = if force then forceEject b s else s := by
  unfold ejectMedium
  rw [h]

/-- An EJECT taken, with what it leaves of the slices, the cache and the replies. -/
theorem exec_eject_leaves (ht : takesRequest tag s) (h : (s.slice b).medium.state ≠ .empty) (hu : u = ejectMedium force b (toHunt s)) :
    ∃ t, exec (.eject tag (bayByte b) (onOffByte force)) s = .next t ∧
      t.link.replies = s.link.replies ++ [⟨0xB1, tag, 0 :: (le1 (u.slice b).medium.state.code ++ le1 (dirtyCount b u))⟩] ∧
      (∀ c, t.slice c = (settle b (toHunt s) u).slice c) ∧ t.cache = (settle b (toHunt s) u).cache := by
  have hact : onBay (bayByte b) (ejectAct force) (toHunt s) =
      accept (settle b (toHunt s) u) (le1 (u.slice b).medium.state.code ++ le1 (dirtyCount b u)) :=
    (onBay_bayByte b _ _).trans (ejectAct_ejects (s := toHunt s) h hu)
  have hr : Part.replies.Same s (settle b (toHunt s) u) := by
    subst hu
    exact settle_same (p := .replies) (s := s) rfl (ejectMedium_same (p := .replies) (s := toHunt s) rfl (by simp) rfl)
  obtain ⟨t, he, hrest⟩ := takeRequest_leaves (kind := 0x31) ht hact hr
  exact ⟨t, (exec_eject tag _ force s).trans (congrArg Host.Outcome.next he), hrest⟩

/-- An EJECT that empties the medium, and what its reply carries. -/
theorem exec_eject_empties (ht : takesRequest tag s) (h : (s.slice b).medium.state ≠ .empty) (hu : u = ejectMedium force b (toHunt s))
    (hm : (u.slice b).medium.state = .empty) (hz : dirtyCount b u = 0) :
    ∃ t, exec (.eject tag (bayByte b) (onOffByte force)) s = .next t ∧ t.link.replies = s.link.replies ++ [⟨0xB1, tag, [0, 0, 0]⟩] ∧
      (∀ c, t.slice c = (settle b (toHunt s) u).slice c) ∧ t.cache = (settle b (toHunt s) u).cache := by
  obtain ⟨t, he, hr, hs, hc⟩ := exec_eject_leaves ht h hu
  refine ⟨t, he, ?_, hs, hc⟩
  rw [hr, hm, hz]
  rfl

/-- An EJECT that leaves the medium EJECT_PENDING, and what its reply carries. -/
theorem exec_eject_waits (ht : takesRequest tag s) (h : (s.slice b).medium.state ≠ .empty) (hu : u = ejectMedium force b (toHunt s))
    (hm : (u.slice b).medium.state = .ejectPending) (hz : dirtyCount b u = dirtyCount b s) :
    ∃ t, exec (.eject tag (bayByte b) (onOffByte force)) s = .next t ∧
      t.link.replies = s.link.replies ++ [⟨0xB1, tag, [0, 2] ++ le1 (dirtyCount b s)⟩] ∧
      (∀ c, t.slice c = (settle b (toHunt s) u).slice c) ∧ t.cache = (settle b (toHunt s) u).cache := by
  obtain ⟨t, he, hr, hs, hc⟩ := exec_eject_leaves ht h hu
  refine ⟨t, he, ?_, hs, hc⟩
  rw [hr, hm, hz]
  rfl

theorem settled_flags (b c : Bay) (s t : State) : ((settle b s t).slice c).flags = (t.slice c).flags :=
  serve_same (p := .flags c) rfl _ _ _

theorem present_ne_empty {m : Medium} (h : m.state = .present) : m.state ≠ .empty := by simp [h]

theorem ejectPending_ne_empty {m : Medium} (h : m.state = .ejectPending) : m.state ≠ .empty := by simp [h]

/-- EJECT of a PRESENT medium that is emptied (R113, R114). -/
theorem exec_eject_present (ht : takesRequest tag s) (hp : (s.slice b).medium.state = .present) (h : force = true ∨ dirtyCount b s = 0) :
    ∃ t, exec (.eject tag (bayByte b) (onOffByte force)) s = .next t ∧ t.link.replies = s.link.replies ++ [⟨0xB1, tag, [0, 0, 0]⟩] ∧
      (t.slice b).medium = { state := .empty, generation := (s.slice b).medium.generation, changed := true } ∧
      t.flag b .mediaEjected = true ∧ (t.slice b).port.queue = [] ∧ (t.slice b).port.transfer = none ∧
      (t.slice b).port.sent = (s.slice b).port.sent ++ (s.slice b).port.queue.map (fun r => .status r.tag .notReady) ∧
      t.cache.holding b = 0 := by
  have hE : Ejected b (toHunt s) (ejectMedium force b (toHunt s)) := by
    rw [ejectMedium_present (s := toHunt s) hp]
    exact ejectPresent_ejected (s := toHunt s) h
  obtain ⟨t, he, hr, hs, hc⟩ := exec_eject_empties ht (present_ne_empty hp) rfl (by rw [hE.medium]) hE.dirtyCount
  have hT := hE.settle
  refine ⟨t, he, hr, (congrArg Slice.medium (hs b)).trans hT.medium, (flag_of_slice (hs b) _).trans hT.flag, ?_, ?_, ?_, ?_⟩
  · rw [hs, hT.port]
  · rw [hs, hT.port]
  · rw [hs, hT.port]
    rfl
  · rw [hc]
    exact hT.holding

/-- EJECT without force of a PRESENT medium with DIRTY entries (R113). -/
theorem exec_eject_pends (ht : takesRequest tag s) (hp : (s.slice b).medium.state = .present) (hx : (s.slice b).port.transfer = none)
    (hd : dirtyCount b s ≠ 0) :
    ∃ t, exec (.eject tag (bayByte b) (onOffByte false)) s = .next t ∧
      t.link.replies = s.link.replies ++ [⟨0xB1, tag, [0, 2] ++ le1 (dirtyCount b s)⟩] ∧
      (t.slice b).medium = { (s.slice b).medium with state := .ejectPending } ∧ (t.slice b).flags = (s.slice b).flags ∧
      (t.slice b).port.queue = [] ∧ t.cache.writebacks = s.cache.writebacks.map (fun r => if r.bay = b then { r with request := none } else r) ∧
      dirtyCount b t = dirtyCount b s ∧
      (t.slice b).port.sent = (s.slice b).port.sent ++ (s.slice b).port.queue.map (fun r => .status r.tag .notReady) := by
  have hab : abandon b (toHunt s) = toHunt s := abandon_none hx
  have hu : ejectMedium false b (toHunt s) = (discarded b (toHunt s)).modMedium b fun m => { m with state := .ejectPending } := by
    rw [ejectMedium_present (s := toHunt s) hp, ejectPresent_pending (s := toHunt s) (by rw [hab]; exact hd)]
  obtain ⟨u, hu'⟩ : ∃ u, u = ejectMedium false b (toHunt s) := ⟨_, rfl⟩
  rw [← hu'] at hu
  have hslice : u.slice b = { s.slice b with
      medium := { (s.slice b).medium with state := .ejectPending }
      port := { (s.slice b).port with
        queue := [], transfer := none, sent := (s.slice b).port.sent ++ (s.slice b).port.queue.map fun r => .status r.tag .notReady } } := by
    rw [hu, State.slice_modSlice_self, discarded_slice]
    rfl
  have hcache : u.cache = (discarded b (toHunt s)).cache := by rw [hu]; rfl
  have hcount : dirtyCount b u = dirtyCount b s := by
    have : dirtyCount b u = dirtyCount b (discarded b (toHunt s)) := by unfold dirtyCount; rw [hcache]
    rw [this, discarded_dirtyCount, hab]
    rfl
  obtain ⟨t, he, hr, hs, hc⟩ := exec_eject_waits ht (present_ne_empty hp) hu' (by rw [hslice]) hcount
  have hE := settle_engines b (toHunt s) u
  have hport : ((settle b (toHunt s) u).slice b).port = (u.slice b).port := hE.idle b (by rw [hslice])
  have hmedium := settled_medium b b (toHunt s) u
  have hflags := settled_flags b b (toHunt s) u
  refine ⟨t, he, hr, ?_, ?_, ?_, ?_, ?_, ?_⟩
  · rw [hs, hmedium, hslice]
  · rw [hs, hflags, hslice]
  · rw [hs, hport, hslice]
  · rw [hc, hE.cache.writebacks.1, hcache, discarded_cache]
    rfl
  · rw [← hcount, ← hE.dirtyCount b]
    unfold dirtyCount
    rw [hc]
  · rw [hs, hport, hslice]

/-- EJECT of an EJECT_PENDING medium (R114). -/
theorem exec_eject_pending (ht : takesRequest tag s) (hp : (s.slice b).medium.state = .ejectPending) :
    ∃ t, exec (.eject tag (bayByte b) (onOffByte force)) s = .next t ∧
      if force then
        t.link.replies = s.link.replies ++ [⟨0xB1, tag, [0, 0, 0]⟩] ∧ dirtyCount b t = 0 ∧ t.flag b .mediaEjected = true ∧
        (t.slice b).medium = { state := .empty, generation := (s.slice b).medium.generation, changed := true }
      else
        t.link.replies = s.link.replies ++ [⟨0xB1, tag, [0, 2] ++ le1 (dirtyCount b s)⟩] ∧ (t.slice b).medium = (s.slice b).medium ∧
        (t.slice b).flags = (s.slice b).flags := by
  cases force with
  | true =>
    have hu : forceEject b (toHunt s) = ejectMedium true b (toHunt s) := (ejectMedium_pending (force := true) (s := toHunt s) hp).symm
    obtain ⟨t, he, hr, hs, hc⟩ := exec_eject_empties ht (ejectPending_ne_empty hp) hu (by rw [forceEject_slice])
      (forceEject_dirtyCount b _)
    have hE := settle_engines b (toHunt s) (forceEject b (toHunt s))
    refine ⟨t, he, ?_⟩
    rw [if_pos rfl]
    refine ⟨hr, ?_, ?_, ?_⟩
    · rw [← forceEject_dirtyCount b (toHunt s), ← hE.dirtyCount b]
      unfold dirtyCount
      rw [hc]
    · rw [flag_of_slice (hs b), settled_flags, forceEject_slice, flags_set]
      simp
    · rw [hs, settled_medium, forceEject_slice]
      rfl
  | false =>
    have hu : toHunt s = ejectMedium false b (toHunt s) := (ejectMedium_pending (force := false) (s := toHunt s) hp).symm
    obtain ⟨t, he, hr, hs, -⟩ := exec_eject_waits ht (ejectPending_ne_empty hp) hu hp rfl
    refine ⟨t, he, ?_⟩
    rw [if_neg (by decide)]
    exact ⟨hr, by rw [hs, settled_medium]; rfl, by rw [hs, settled_flags]; rfl⟩

/-! ## What an eject frees and orphans (R141, R146) -/

theorem emptyMedium_slice_ne (s : State) (h : c ≠ b) : (emptyMedium b s).slice c = s.slice c := by
  unfold emptyMedium
  rw [setFlag_slice_ne _ _ h, State.slice_modSlice_ne _ _ _ _ h]

theorem forceEject_slice_ne (s : State) (h : c ≠ b) : (forceEject b s).slice c = s.slice c := by
  unfold forceEject
  rw [emptyMedium_slice_ne _ h]
  rfl

theorem discarded_slice_ne (s : State) (h : c ≠ b) : (discarded b s).slice c = s.slice c := by
  have hd : (discarded b s).slice c = (endRequests b (abandon b s)).slice c := rfl
  rw [hd, endRequests, State.slice_modSlice_ne _ _ _ _ h, forgetRequests_slice, abandon_slice_ne s h]

theorem ejectPresent_slice_ne (force : Bool) (s : State) (h : c ≠ b) : (ejectPresent force b s).slice c = s.slice c := by
  rw [ejectPresent_eq]
  split
  · rw [emptyMedium_slice_ne _ h, discarded_slice_ne s h]
  · split
    · rw [forceEject_slice_ne _ h, discarded_slice_ne s h]
    · rw [State.slice_modSlice_ne _ _ _ _ h, discarded_slice_ne s h]

theorem ejectMedium_quiet (hq : s.quiet) (force : Bool) (b : Bay) : (ejectMedium force b s).quiet := by
  intro c
  unfold ejectMedium
  by_cases h : c = b
  · subst h
    split
    · rw [ejectPresent_port]
    · split
      · rw [forceEject_port]
        exact hq c
      · exact hq c
    · exact hq c
  · split
    · rw [ejectPresent_slice_ne force s h]
      exact hq c
    · split
      · rw [forceEject_slice_ne s h]
        exact hq c
      · exact hq c
    · exact hq c

/-- The records of an ejected bay no longer name their requests, whether they become orphans or not. -/
theorem orphanWritebacks_forget (b : Bay) (rs : List WritebackRecord) :
    orphanWritebacks b (rs.map fun r => if r.bay = b then { r with request := none } else r) = orphanWritebacks b rs := by
  unfold orphanWritebacks
  rw [List.filter_map, List.map_map]
  have hfilter : ((fun r : WritebackRecord => !(r.bay = b && !r.orphan && r.notice = .pending)) ∘
      fun r => if r.bay = b then { r with request := none } else r) = fun r => !(r.bay = b && !r.orphan && r.notice = .pending) := by
    funext r
    by_cases h : r.bay = b <;> simp [h]
  rw [hfilter]
  refine List.map_congr_left fun r _ => ?_
  by_cases h : r.bay = b <;> simp [h]

/-- The cache after an eject of a PRESENT medium with no transfer in flight. -/
theorem ejectPresent_leaves (hx : (s.slice b).port.transfer = none) : (ejectPresent force b s).cache = { s.cache with
    entries := s.cache.entries.map fun e => if e.heldBy b && (decide (e.state ≠ .dirty) || force) then e.release else e
    fetches := orphanFetches b s.cache.fetches
    writebacks := if force = true ∧ dirtyCount b s ≠ 0 then orphanWritebacks b s.cache.writebacks
      else s.cache.writebacks.map fun r => if r.bay = b then { r with request := none } else r } := by
  have hab : abandon b s = s := abandon_none hx
  have hcache := discarded_cache b s
  rw [hab] at hcache
  by_cases hd : dirtyCount b s = 0
  · rw [ejectPresent_clean force (by rwa [hab]), emptyMedium_cache, hcache, if_neg (by simp [hd])]
    have hentries : (s.cache.entries.map fun e => if e.heldBy b && decide (e.state ≠ .dirty) then e.release else e) =
        s.cache.entries.map fun e => if e.heldBy b && (decide (e.state ≠ .dirty) || force) then e.release else e := by
      refine Vector.map_congr_left fun e he => ?_
      obtain ⟨i, hi, rfl⟩ := Vector.getElem_of_mem he
      have hne := dirtyCount_eq_zero.mp hd ⟨i, hi⟩
      cases hh : s.cache.entries[i].heldBy b with
      | false => rfl
      | true => simp [show s.cache.entries[i].state ≠ .dirty from hne hh]
    rw [hentries]
  · cases force with
    | false =>
      rw [ejectPresent_pending (by rwa [hab]), if_neg (by simp)]
      simp only [Bool.or_false]
      exact hcache
    | true =>
      rw [ejectPresent_forced (by rwa [hab]), forceEject_cache, hcache, if_pos ⟨rfl, hd⟩, orphanWritebacks_forget, Vector.map_map]
      refine congrArg (fun v => ({ s.cache with entries := v, fetches := _, writebacks := _ } : Cache))
        (congrArg (fun g => Vector.map g s.cache.entries) (funext fun e => ?_))
      cases hs : e.state <;> by_cases hk : e.key.any (fun k => k.bay = b) = true <;>
        simp [CacheEntry.heldBy, CacheEntry.release, hs, hk]

/-- Settles O43: EJECT by the medium's state, and on a quiet part what it frees and orphans. -/
theorem ejectRemovesTheDisk : Obligations.EjectRemovesTheDisk := by
  unfold Obligations.EjectRemovesTheDisk
  refine ⟨fun s tag b force ht => ⟨fun h => ?_, exec_eject_present ht, fun hp hf hx hd => ?_, exec_eject_pending ht⟩,
    fun s tag b force held released fetches kept forced ht hq hx hheld hreleased hfetches hkept hforced => ⟨fun hp => ?_, fun hp hf => ?_⟩⟩
  · rw [exec_eject]
    exact congrArg Host.Outcome.next (takeRequest_onBay_refused (kind := 0x31) (c := .state) ht (ejectAct_empty (s := toHunt s) h))
  · subst hf
    exact exec_eject_pends ht hp hx hd
  all_goals
    obtain rfl : held = CacheEntry.heldBy b := funext hheld
    obtain rfl : released = CacheEntry.release := funext hreleased
    subst hfetches hkept hforced
    have hquiet := settle_quiet b (toHunt s) (ejectMedium_quiet (s := toHunt s) hq force b)
  · obtain ⟨t, he, -, -, hc⟩ := exec_eject_leaves (force := force) ht (present_ne_empty hp) rfl
    refine ⟨t, he, ?_⟩
    rw [hc, hquiet, ejectMedium_present (s := toHunt s) hp]
    exact ejectPresent_leaves (s := toHunt s) hx
  · obtain ⟨t, he, -, -, hc⟩ := exec_eject_leaves (force := force) ht (ejectPending_ne_empty hp) rfl
    refine ⟨t, he, ?_⟩
    rw [hc, hquiet, ejectMedium_pending (s := toHunt s) hp, if_pos hf]
    exact forceEject_cache b (toHunt s)

end Sys2Proof.Machine
end

section
/-! PROOFS. The statement of chapters 7 and 8 about answers to writebacks and writeback deadlines (R115, R125, R144, R145). -/

namespace Sys2Proof.Machine

open State.Agrees (dirtyCount_eq_zero)

variable {s t u : State} {b : Bay} {tag : Byte} {id serial : Nat} {ok failed : Bool} {r : WritebackRecord} {q : ServerRequest} {i : Fin 256}
  {c : Cache}

/-! ## One entry that no longer counts -/

theorem Cache.count_lose {p : CacheEntry → Bool} {f : CacheEntry → CacheEntry} (h : p (c.entry i) = true) (hf : p (f (c.entry i)) = false) :
    (c.modEntry i f).count p + 1 = c.count p := by
  have hget : c.entries.toList[i.val]'(by simp) = c.entry i := by simp [Cache.entry, Vector.get_eq_getElem]
  have hpos : 0 < c.entries.toList.countP p := List.countP_pos_iff.mpr ⟨_, List.getElem_mem (by simp), hget ▸ h⟩
  have hset : (c.modEntry i f).count p = (c.entries.toList.set i.val (f (c.entry i))).countP p := by
    unfold Cache.count
    exact congrArg (List.countP p) (Vector.toList_set i.isLt)
  rw [hset, List.countP_set (by simp), hget, h, hf]
  unfold Cache.count
  simp only [if_true, Bool.false_eq_true, if_false]
  omega

/-! ## A request that counts a block (R125) -/

theorem modPort_of_same {f : Port → Port} (h : f (s.slice b).port = (s.slice b).port) : s.modPort b f = s := by
  have hs : (s.modPort b f).slices = s.slices := by
    change s.slices.set b.val { s.slice b with port := f (s.slice b).port } = s.slices
    rw [h]
    exact set_get_self s.slices b
  exact congrArg (fun v => ({ s with slices := v } : State)) hs

/-- A request with one more block resolved, failed where the block failed. -/
def ServerRequest.counted (failed : Bool) (q : ServerRequest) : ServerRequest :=
  { q with resolved := q.resolved + 1, failed := q.failed || failed }

@[simp] theorem modRequest_port (b : Bay) (n : Nat) (f : ServerRequest → ServerRequest) (s : State) :
    ((modRequest b n f s).slice b).port = { (s.slice b).port with
      queue := (s.slice b).port.queue.map fun r => if r.serial = n then f r else r } := by
  simp [modRequest]

/-- A change that keeps the serial changes the request found by it. -/
theorem request_map {p o : Port} {n : Nat} {f : ServerRequest → ServerRequest} (hf : ∀ r, (f r).serial = r.serial)
    (ho : o.queue = p.queue.map fun r => if r.serial = n then f r else r) : o.request n = (p.request n).map f := by
  have hs (r : ServerRequest) : (if r.serial = n then f r else r).serial = r.serial := by
    split
    · exact hf r
    · rfl
  simp only [Port.request, ho, List.find?_map, Function.comp_def, hs]
  cases h : p.queue.find? fun r => decide (r.serial = n) with
  | none => rfl
  | some x =>
    have hx : x.serial = n := by simpa using List.find?_some h
    simp [hx]

theorem filter_map_changed (l : List ServerRequest) (n : Nat) {f : ServerRequest → ServerRequest} (hf : ∀ r, (f r).serial = r.serial) :
    ((l.map fun r => if r.serial = n then f r else r).filter fun r => r.serial ≠ n) = l.filter fun r => r.serial ≠ n := by
  induction l with
  | nil => rfl
  | cons x rest ih =>
    by_cases hx : x.serial = n
    · simpa [hx, hf] using ih
    · simpa [hx] using ih

theorem request_serial {p : Port} (h : p.request serial = some q) : q.serial = serial := by simpa using List.find?_some h

/-- The state once the block of a request is counted, before the request completes. -/
def counted (b : Bay) (failed : Bool) (serial : Nat) (s : State) : State := modRequest b serial (ServerRequest.counted failed) s

theorem counted_request (h : (s.slice b).port.request serial = some q) :
    ((counted b failed serial s).slice b).port.request serial = some (q.counted failed) := by
  unfold counted
  rw [modRequest_port, request_map (p := (s.slice b).port) (f := ServerRequest.counted failed) (fun _ => rfl) rfl, h]
  rfl

/-- A block resolved while the request has others to transfer or to resolve. -/
theorem resolveBlock_more (h : (s.slice b).port.request serial = some q) (hm : q.transferred ≠ q.count ∨ q.resolved + 1 ≠ q.count) :
    resolveBlock b failed serial s = counted b failed serial s := by
  have hr := counted_request (failed := failed) h
  unfold counted at hr ⊢
  unfold resolveBlock
  change (match ((modRequest b serial (ServerRequest.counted failed) s).slice b).port.request serial with | none => _ | some r => _) = _
  rw [hr]
  refine if_neg fun hd => ?_
  obtain ⟨ht, hres⟩ := hd
  exact hm.elim (fun h => h ht) fun h => h hres

/-- The last block resolved: the request completes with GOOD, or with MEDIA_ERROR where a block failed. -/
theorem resolveBlock_last (h : (s.slice b).port.request serial = some q) (ht : q.transferred = q.count) (hr : q.resolved + 1 = q.count) :
    resolveBlock b failed serial s = if (q.failed || failed) = true
      then setFlag b .mediaWriteFailed (complete b (q.counted failed) .mediaError (counted b failed serial s))
      else complete b (q.counted failed) .good (counted b failed serial s) := by
  have hreq := counted_request (failed := failed) h
  unfold counted at hreq ⊢
  unfold resolveBlock
  change (match ((modRequest b serial (ServerRequest.counted failed) s).slice b).port.request serial with | none => _ | some r => _) = _
  rw [hreq]
  exact if_pos ⟨ht, hr⟩

theorem resolveBlock_idle (h : (s.slice b).port.queue = []) : resolveBlock b failed serial s = s := by
  have hc : counted b failed serial s = s := modPort_of_same (s := s) (b := b)
    (f := fun p => { p with queue := p.queue.map fun r => if r.serial = serial then r.counted failed else r }) 
    (congrArg (fun l => ({ (s.slice b).port with queue := l } : Port)) (show _ = (s.slice b).port.queue by rw [h]; rfl))
  have hr : (s.slice b).port.request serial = none := by simp [Port.request, h]
  unfold resolveBlock
  change (match ((counted b failed serial s).slice b).port.request serial with | none => counted b failed serial s | some r => _) = _
  rw [hc, hr]

theorem resolveBlock_more_port (h : (s.slice b).port.request serial = some q) (hm : q.transferred ≠ q.count ∨ q.resolved + 1 ≠ q.count) :
    ((resolveBlock b failed serial s).slice b).port = { (s.slice b).port with
      queue := (s.slice b).port.queue.map fun p => if p.serial = serial then p.counted failed else p } := by
  rw [resolveBlock_more h hm]
  exact modRequest_port b serial _ s

theorem resolveBlock_last_port (h : (s.slice b).port.request serial = some q) (ht : q.transferred = q.count) (hr : q.resolved + 1 = q.count) :
    ((resolveBlock b failed serial s).slice b).port = { (s.slice b).port with
      queue := (s.slice b).port.queue.filter fun p => p.serial ≠ serial
      sent := (s.slice b).port.sent ++ [.status q.tag (if q.failed || failed then .mediaError else .good)] } := by
  have hport (st : ServerStatus) : ((complete b (q.counted failed) st (counted b failed serial s)).slice b).port = { (s.slice b).port with
      queue := (s.slice b).port.queue.filter fun p => p.serial ≠ serial
      sent := (s.slice b).port.sent ++ [.status q.tag st] } := by
    rw [complete_port, counted, modRequest_port, show (q.counted failed).serial = q.serial from rfl, request_serial h]
    simp only [filter_map_changed _ _ (f := ServerRequest.counted failed) fun _ => rfl]
    rfl
  rw [resolveBlock_last h ht hr]
  split
  case isTrue hf =>
    rw [show ∀ t : State, ((setFlag b .mediaWriteFailed t).slice b).port = (t.slice b).port from fun t => by rw [setFlag_slice_self],
      hport]
  case isFalse hf => rw [hport]

theorem resolveBlock_last_flag (h : (s.slice b).port.request serial = some q) (ht : q.transferred = q.count) (hr : q.resolved + 1 = q.count)
    (hf : q.failed = true ∨ failed = true) : (resolveBlock b failed serial s).flag b .mediaWriteFailed = true := by
  rw [resolveBlock_last h ht hr, if_pos (by simpa using hf), flag_of_slice (setFlag_slice_self _ b _), flags_set]
  simp

theorem resolveBlock_flag (b : Bay) (failed : Bool) (serial : Nat) (s : State) :
    (resolveBlock b failed serial s).flag b .mediaEjected = s.flag b .mediaEjected := by
  have hc : ((counted b failed serial s).slice b).flags = (s.slice b).flags := modRequest_same (p := .flags b) (by simp)
  have hcomplete (q : ServerRequest) (st : ServerStatus) (t : State) : ((complete b q st t).slice b).flags = (t.slice b).flags := by
    simp [complete, tell]
  cases h : (s.slice b).port.request serial with
  | none =>
    have hr : ((counted b failed serial s).slice b).port.request serial = none := by
      unfold counted
      rw [modRequest_port, request_map (p := (s.slice b).port) (f := ServerRequest.counted failed) (fun _ => rfl) rfl, h]
      rfl
    have he : resolveBlock b failed serial s = counted b failed serial s := by
      unfold resolveBlock
      change (match ((counted b failed serial s).slice b).port.request serial with | none => counted b failed serial s | some r => _) = _
      rw [hr]
    rw [he, State.flag, hc]
    rfl
  | some q =>
    by_cases hm : q.transferred = q.count ∧ q.resolved + 1 = q.count
    · obtain ⟨ht, hr⟩ := hm
      rw [resolveBlock_last h ht hr]
      split
      · rw [flag_of_slice (setFlag_slice_self _ b _), flags_set, hcomplete, hc]
        simp [State.flag]
      · rw [State.flag, hcomplete, hc]
        rfl
    · rw [resolveBlock_more h (not_and_or.mp hm), State.flag, hc]
      rfl

/-! ## A writeback resolved (R115, R144) -/

/-- The state once a writeback record is freed and its entry VALID or FREE. -/
def written (r : WritebackRecord) (keep : Bool) (s : State) : State :=
  s.modCache fun c => (r.entry.elim c fun i => resolveEntry keep i c).dropWriteback r.id

/-- The state once the block of a resolved writeback is counted for its request. -/
def credited (r : WritebackRecord) (ok keep : Bool) (s : State) : State :=
  r.request.elim (written r keep s) fun serial => resolveBlock r.bay (!ok) serial (written r keep s)

theorem resolveWriteback_eq (r : WritebackRecord) (ok : Bool) (s : State) : resolveWriteback r ok s =
    settle r.bay s (finishEject r.bay (credited r ok (ok && (s.slice r.bay).medium.state ≠ .ejectPending) s)) := rfl

theorem written_slice (r : WritebackRecord) (keep : Bool) (s : State) (b : Bay) : (written r keep s).slice b = s.slice b := rfl

theorem finishEject_not (h : (s.slice b).medium.state ≠ .ejectPending ∨ dirtyCount b s ≠ 0) : finishEject b s = s :=
  if_neg fun ⟨hp, hd⟩ => h.elim (fun h => h hp) fun h => h hd

theorem finishEject_ends (hp : (s.slice b).medium.state = .ejectPending) (hd : dirtyCount b s = 0) : finishEject b s = emptyMedium b s :=
  if_pos ⟨hp, hd⟩

theorem finishEject_cache (b : Bay) (s : State) : (finishEject b s).cache = s.cache := by
  unfold finishEject
  split
  · exact emptyMedium_cache b s
  · rfl

theorem finishEject_port (b : Bay) (s : State) : ((finishEject b s).slice b).port = (s.slice b).port := by
  unfold finishEject
  split
  · rw [emptyMedium_slice]
  · rfl

variable {keep : Bool}

theorem credited_cache (r : WritebackRecord) (ok keep : Bool) (s : State) : (credited r ok keep s).cache = (written r keep s).cache := by
  unfold credited
  cases r.request with
  | none => rfl
  | some n => exact resolveBlock_same (p := .cache) (by simp) rfl

theorem credited_medium (r : WritebackRecord) (ok keep : Bool) (s : State) :
    ((credited r ok keep s).slice r.bay).medium = (s.slice r.bay).medium := by
  unfold credited
  cases r.request with
  | none => rfl
  | some n => exact (resolveBlock_same (p := .medium r.bay) (s := written r keep s) (by simp) rfl : _ = _)

theorem credited_flag (r : WritebackRecord) (ok keep : Bool) (s : State) :
    (credited r ok keep s).flag r.bay .mediaEjected = s.flag r.bay .mediaEjected := by
  unfold credited
  cases r.request with
  | none => rfl
  | some n => exact resolveBlock_flag r.bay (!ok) n (written r keep s)

theorem credited_quiet (hq : s.quiet) (r : WritebackRecord) (ok keep : Bool) : credited r ok keep s = written r keep s := by
  unfold credited
  cases r.request with
  | none => rfl
  | some n => exact resolveBlock_idle (s := written r keep s) (hq r.bay)

theorem written_cache (he : r.entry = some i) (keep : Bool) (s : State) : (written r keep s).cache = { s.cache with
    entries := s.cache.entries.set i (if keep then { s.cache.entry i with state := .valid, owner := none }
      else { s.cache.entry i with state := .free, key := none, owner := none })
    writebacks := s.cache.writebacks.filter fun q => q.id ≠ r.id } := by
  unfold written
  rw [he]
  rfl

/-- On a quiet part, with the medium PRESENT, the record is freed with its entry VALID after ok and FREE after a fail (R144). -/
theorem resolveWriteback_quiet (hq : s.quiet) (he : r.entry = some i) (hm : (s.slice r.bay).medium.state = .present) (ok : Bool) :
    resolveWriteback r ok s = s.withCache { s.cache with
      entries := s.cache.entries.set i (if ok then { s.cache.entry i with state := .valid, owner := none }
        else { s.cache.entry i with state := .free, key := none, owner := none })
      writebacks := s.cache.writebacks.filter fun q => q.id ≠ r.id } := by
  have hkeep : (ok && decide ((s.slice r.bay).medium.state ≠ .ejectPending)) = ok := by simp [hm]
  rw [resolveWriteback_eq, hkeep, credited_quiet hq, finishEject_not (.inl (by rw [written_slice, hm]; simp)),
    settle_quiet r.bay s (t := written r ok s) hq, ← written_cache he]
  rfl

theorem finishEject_quiet (hq : s.quiet) (b : Bay) : (finishEject b s).quiet := by
  intro c
  have hp : ((finishEject b s).slice c).port = (s.slice c).port := by
    by_cases hc : c = b
    · subst hc
      exact finishEject_port c s
    · unfold finishEject
      split
      · rw [emptyMedium_slice_ne s hc]
      · rfl
  rw [hp]
  exact hq c

/-- The writeback of an EJECT_PENDING medium resolved: its entry is FREE, and the last one takes the medium to EMPTY (R115). -/
theorem resolveWriteback_pending (he : r.entry = some i) (hm : (s.slice r.bay).medium.state = .ejectPending)
    (hd : (s.cache.entry i).state = .dirty) (hk : (s.cache.entry i).key.map BlockKey.bay = some r.bay) (ok : Bool)
    (ht : t = resolveWriteback r ok s) :
    dirtyCount r.bay t + 1 = dirtyCount r.bay s ∧
      (s.quiet → t.cache = { s.cache with
        entries := s.cache.entries.set i { s.cache.entry i with state := .free, key := none, owner := none }
        writebacks := s.cache.writebacks.filter fun q => q.id ≠ r.id }) ∧
      (dirtyCount r.bay s = 1 →
        (t.slice r.bay).medium = { state := .empty, generation := (s.slice r.bay).medium.generation, changed := true } ∧
        t.flag r.bay .mediaEjected = true) ∧
      (dirtyCount r.bay s ≠ 1 →
        (t.slice r.bay).medium = (s.slice r.bay).medium ∧ t.flag r.bay .mediaEjected = s.flag r.bay .mediaEjected) := by
  have hkeep : (ok && decide ((s.slice r.bay).medium.state ≠ .ejectPending)) = false := by simp [hm]
  rw [resolveWriteback_eq, hkeep] at ht
  obtain ⟨v, hv⟩ : ∃ v, v = credited r ok false s := ⟨_, rfl⟩
  have hcache : v.cache = (written r false s).cache := by rw [hv, credited_cache]
  have hmedium : (v.slice r.bay).medium = (s.slice r.bay).medium := by rw [hv, credited_medium]
  have hflag : v.flag r.bay .mediaEjected = s.flag r.bay .mediaEjected := by rw [hv, credited_flag]
  have hquiet (hq : s.quiet) : v = written r false s := by rw [hv, credited_quiet hq]
  rw [← hv] at ht
  clear hv
  have hheld : (s.cache.entry i).heldBy r.bay = true := by
    obtain ⟨k, hkey, hbay⟩ := Option.map_eq_some_iff.mp hk
    simp [CacheEntry.heldBy, hd, hkey, hbay]
  have hlose : dirtyCount r.bay v + 1 = dirtyCount r.bay s := by
    have hc := Cache.count_lose (c := s.cache) (i := i) (p := fun e => e.heldBy r.bay && decide (e.state = .dirty)) (f := CacheEntry.release)
      (by simp [hheld, hd]) (by simp [CacheEntry.release])
    unfold dirtyCount
    rw [hcache, written_cache he]
    exact hc
  have hcount : dirtyCount r.bay (finishEject r.bay v) = dirtyCount r.bay v := by unfold dirtyCount; rw [finishEject_cache]
  have hE := settle_engines r.bay s (finishEject r.bay v)
  refine ⟨by rw [ht, hE.dirtyCount, hcount, hlose], fun hq => ?_, fun h1 => ?_, fun h1 => ?_⟩
  · rw [ht, settle_quiet r.bay s (finishEject_quiet (by rw [hquiet hq]; exact hq) r.bay), finishEject_cache, hcache, written_cache he]
    rfl
  · have hfin := finishEject_ends (hmedium ▸ hm) (show dirtyCount r.bay v = 0 by omega)
    rw [ht, settled_medium, settled_flag, hfin, emptyMedium_slice, hmedium, flag_of_slice (emptyMedium_slice r.bay v), flags_set]
    simp
  · have hfin := finishEject_not (b := r.bay) (s := v) (.inr (by omega))
    rw [ht, settled_medium, settled_flag, hfin, hmedium, hflag]
    exact ⟨rfl, rfl⟩

/-- The request that a resolved writeback belongs to has its block counted, and completes once every block is. -/
theorem resolveWriteback_port (hreq : r.request = some serial) (ok : Bool) (ht : t = resolveWriteback r ok s) :
    (t.slice r.bay).port.queue = ((resolveBlock r.bay (!ok) serial (written r (ok && (s.slice r.bay).medium.state ≠ .ejectPending) s)).slice
      r.bay).port.queue ∧
    (t.slice r.bay).port.sent = ((resolveBlock r.bay (!ok) serial (written r (ok && (s.slice r.bay).medium.state ≠ .ejectPending) s)).slice
      r.bay).port.sent ∧
    ((resolveBlock r.bay (!ok) serial (written r (ok && (s.slice r.bay).medium.state ≠ .ejectPending) s)).flag r.bay .mediaWriteFailed = true →
      t.flag r.bay .mediaWriteFailed = true) := by
  rw [resolveWriteback_eq, credited, hreq] at ht
  change t = settle r.bay s (finishEject r.bay (resolveBlock r.bay (!ok) serial (written r _ s))) at ht
  obtain ⟨v, hv⟩ : ∃ v, v = resolveBlock r.bay (!ok) serial (written r (ok && (s.slice r.bay).medium.state ≠ .ejectPending) s) := ⟨_, rfl⟩
  rw [← hv] at ht ⊢
  have hE := settle_engines r.bay s (finishEject r.bay v)
  refine ⟨by rw [ht, hE.queue, finishEject_port], by rw [ht, hE.sent, finishEject_port], fun hf => ?_⟩
  rw [ht, settled_flag]
  unfold finishEject
  split
  · rw [flag_of_slice (emptyMedium_slice r.bay v), flags_set]
    simpa [State.flag] using hf
  · exact hf

/-! ## WRITE_DONE and the writeback deadline (R144, R145) -/

theorem outcomeOf_le {outcome : Byte} (h : outcome.toNat ≤ 1) : ∃ ok, outcomeOf outcome = some ok := by
  unfold outcomeOf
  obtain h | h : outcome.toNat = 0 ∨ outcome.toNat = 1 := by omega
  · exact ⟨true, by rw [h]; rfl⟩
  · exact ⟨false, by rw [h]; rfl⟩

theorem exec_writeDone {outcome : Byte} (ho : outcomeOf outcome = some ok) (tag id : Byte) (s : State) :
    exec (.writeDone tag id outcome) s = .next (takeRequest 0x36 tag (writeDoneAct id.toNat ok) s) := by
  change Host.Outcome.next (takeWriteDone tag id outcome s) = _
  unfold takeWriteDone
  rw [ho]
  rfl

theorem writeDoneAct_unknown (h : s.cache.writebackOf id = none) : writeDoneAct id ok s = answerCounted .unknown s := by
  unfold writeDoneAct
  rw [h]

theorem writeDoneAct_orphan (h : s.cache.writebackOf id = some r) (ho : r.orphan = true) (hq : s.quiet) :
    writeDoneAct id ok s = answerCounted .stale (s.modCache fun c => c.dropWriteback id) := by
  unfold writeDoneAct
  rw [h]
  dsimp only
  rw [if_pos ho, settle_quiet r.bay s (t := s.modCache fun c => c.dropWriteback id) hq]

theorem writeDoneAct_live (h : s.cache.writebackOf id = some r) (ho : r.orphan = false) :
    writeDoneAct id ok s = accept (resolveWriteback r ok s) [] := by
  unfold writeDoneAct
  rw [h]
  exact if_neg (by simp [ho])

theorem exec_writebackDeadlineExpiry_unknown {id : Byte} (h : s.cache.writebackOf id.toNat = none) :
    exec (.writebackDeadlineExpiry id) s = .next s := by
  change execWritebackDeadlineExpiry id s = _
  unfold execWritebackDeadlineExpiry
  rw [h]

theorem exec_writebackDeadlineExpiry_stopped {id : Byte} (h : s.cache.writebackOf id.toNat = some r) (hd : r.deadline = none) :
    exec (.writebackDeadlineExpiry id) s = .next s := by
  change execWritebackDeadlineExpiry id s = _
  unfold execWritebackDeadlineExpiry
  rw [h]
  exact if_pos (by simp [hd])

theorem exec_writebackDeadlineExpiry_orphan {id : Byte} (h : s.cache.writebackOf id.toNat = some r) (hd : r.deadline ≠ none)
    (ho : r.orphan = true) :
    exec (.writebackDeadlineExpiry id) s = .next (settle r.bay s (countTimeout (s.modCache fun c => c.dropWriteback r.id))) := by
  change execWritebackDeadlineExpiry id s = _
  unfold execWritebackDeadlineExpiry
  rw [h]
  exact (if_neg (by simp [hd])).trans (if_pos ho)

theorem exec_writebackDeadlineExpiry_live {id : Byte} (h : s.cache.writebackOf id.toNat = some r) (hd : r.deadline ≠ none)
    (ho : r.orphan = false) : exec (.writebackDeadlineExpiry id) s = .next (resolveWriteback r false (countTimeout s)) := by
  change execWritebackDeadlineExpiry id s = _
  unfold execWritebackDeadlineExpiry
  rw [h]
  exact (if_neg (by simp [hd])).trans (if_neg (by simp [ho]))

/-- WRITE_DONE of a live record leaves what the writeback's resolution leaves, with its reply. -/
theorem exec_writeDone_live {outcome id : Byte} (ht : takesRequest tag s) (ho : outcomeOf outcome = some ok)
    (h : s.cache.writebackOf id.toNat = some r) (hor : r.orphan = false) :
    ∃ t, exec (.writeDone tag id outcome) s = .next t ∧ t.link.replies = s.link.replies ++ [⟨0xB6, tag, [0]⟩] ∧
      (∀ b, t.slice b = (resolveWriteback r ok (toHunt s)).slice b) ∧ t.cache = (resolveWriteback r ok (toHunt s)).cache := by
  obtain ⟨t, he, hrest⟩ := takeRequest_leaves (kind := 0x36) (act := writeDoneAct id.toNat ok) ht (writeDoneAct_live (s := toHunt s) h hor)
    (resolveWriteback_same (p := .replies) (s := toHunt s) rfl (by simp) rfl)
  exact ⟨t, (exec_writeDone ho tag id s).trans (congrArg Host.Outcome.next he), hrest⟩

/-- The writeback of an EJECT_PENDING medium resolved by an answer or by its deadline. -/
theorem exec_resolves_pending {id outcome : Byte} {x : Instr} (hx : (takesRequest tag s ∧ outcome.toNat ≤ 1 ∧ x = .writeDone tag id outcome) ∨
      (r.deadline ≠ none ∧ x = .writebackDeadlineExpiry id))
    (h : s.cache.writebackOf id.toNat = some r) (hor : r.orphan = false) (he : r.entry = some i)
    (hm : (s.slice r.bay).medium.state = .ejectPending) (hd : (s.cache.entry i).state = .dirty)
    (hk : (s.cache.entry i).key.map BlockKey.bay = some r.bay) :
    ∃ t, exec x s = .next t ∧
      t.link.replies = s.link.replies ++ (if x = .writebackDeadlineExpiry id then [] else [⟨0xB6, tag, [0]⟩]) ∧
      dirtyCount r.bay t + 1 = dirtyCount r.bay s ∧
      (s.quiet → t.cache = { s.cache with
        entries := s.cache.entries.set i { s.cache.entry i with state := .free, key := none, owner := none }
        writebacks := s.cache.writebacks.filter fun q => q.id ≠ id.toNat
        counters := { s.cache.counters with
          timeout := if x = .writebackDeadlineExpiry id then min (s.cache.counters.timeout + 1) 65535
            else s.cache.counters.timeout } }) ∧
      (dirtyCount r.bay s = 1 →
        (t.slice r.bay).medium = { state := .empty, generation := (s.slice r.bay).medium.generation, changed := true } ∧
        t.flag r.bay .mediaEjected = true) ∧
      (dirtyCount r.bay s ≠ 1 →
        (t.slice r.bay).medium = (s.slice r.bay).medium ∧ t.flag r.bay .mediaEjected = s.flag r.bay .mediaEjected) := by
  obtain ⟨ht, ho, rfl⟩ | ⟨hdl, rfl⟩ := hx
  · obtain ⟨ok, ho⟩ := outcomeOf_le ho
    obtain ⟨t, hexec, hr, hs, hc⟩ := exec_writeDone_live ht ho h hor
    obtain ⟨hcount, hquiet, hlast, hmore⟩ := resolveWriteback_pending (s := toHunt s) he hm hd hk ok rfl
    refine ⟨t, hexec, by rw [if_neg (by simp)]; exact hr, ?_, fun hq => ?_, ?_, ?_⟩
    · rw [show dirtyCount r.bay t = dirtyCount r.bay (resolveWriteback r ok (toHunt s)) by unfold dirtyCount; rw [hc]]
      exact hcount
    · rw [if_neg (by simp), hc, hquiet hq, writebackOf_id h]
      rfl
    · rw [hs, flag_of_slice (hs r.bay)]
      exact hlast
    · rw [hs, flag_of_slice (hs r.bay)]
      exact hmore
  · obtain ⟨hcount, hquiet, hlast, hmore⟩ := resolveWriteback_pending (s := countTimeout s) he hm hd hk false rfl
    refine ⟨_, exec_writebackDeadlineExpiry_live h hdl hor, ?_, hcount, fun hq => ?_, hlast, hmore⟩
    · rw [if_pos rfl, List.append_nil]
      exact (resolveWriteback_same (p := .replies) (s := countTimeout s) rfl (by simp) rfl : _ = _)
    · rw [if_pos rfl, hquiet hq, writebackOf_id h]
      rfl

/-- A writeback of a WRITE resolved by an answer or by its deadline counts for it. -/
theorem exec_resolves_request {id : Byte} {x : Instr} (hx : (takesRequest tag s ∧ x = .writeDone tag id (if ok then 0 else 1)) ∨
      (ok = false ∧ r.deadline ≠ none ∧ x = .writebackDeadlineExpiry id))
    (h : s.cache.writebackOf id.toNat = some r) (hor : r.orphan = false) :
    ∃ t u, exec x s = .next t ∧ u = resolveWriteback r ok (if x = .writebackDeadlineExpiry id then countTimeout s else toHunt s) ∧
      t.slice r.bay = u.slice r.bay := by
  obtain ⟨ht, rfl⟩ | ⟨rfl, hdl, rfl⟩ := hx
  · have ho : outcomeOf (if ok then 0 else 1) = some ok := by cases ok <;> rfl
    obtain ⟨t, hexec, -, hs, -⟩ := exec_writeDone_live ht ho h hor
    exact ⟨t, _, hexec, by rw [if_neg (by simp)], hs r.bay⟩
  · exact ⟨_, _, exec_writebackDeadlineExpiry_live h hdl hor, by rw [if_pos rfl], rfl⟩

/-- Settles O50: the record's cases, the EJECT_PENDING medium, and the WRITE that the block belongs to. -/
theorem writebacksAreResolved : Obligations.WritebacksAreResolved := by
  unfold Obligations.WritebacksAreResolved
  refine ⟨fun s tag id => ⟨fun h => ⟨fun outcome ht ho => ?_, exec_writebackDeadlineExpiry_unknown h⟩, fun r h =>
    ⟨exec_writebackDeadlineExpiry_stopped h, fun ho hq => ⟨fun outcome ht hout => ?_, fun hd => ?_⟩,
      fun i ho he hq hm freed kept hkept hfreed => ⟨fun ht => ⟨?_, ?_⟩, fun hd => ?_⟩,
      fun i outcome x hx ho he hm hd hk => exec_resolves_pending hx h ho he hm hd hk⟩⟩,
    fun s tag id ok x r serial q hx h ho hreq _ hq => ?_⟩
  · obtain ⟨ok, ho⟩ := outcomeOf_le ho
    rw [exec_writeDone ho]
    exact congrArg Host.Outcome.next (takeRequest_counted (kind := 0x36) (code := .unknown) ht (writeDoneAct_unknown (s := toHunt s) h))
  · obtain ⟨ok, hok⟩ := outcomeOf_le hout
    rw [exec_writeDone hok]
    exact congrArg Host.Outcome.next (takeRequest_counted (kind := 0x36) (code := .stale) ht (writeDoneAct_orphan (s := toHunt s) h ho hq))
  · rw [exec_writebackDeadlineExpiry_orphan h hd ho,
      settle_quiet r.bay s (t := countTimeout (s.modCache fun c => c.dropWriteback r.id)) hq, writebackOf_id h]
    rfl
  · rw [exec_writeDone (ok := true) rfl, hkept, ← writebackOf_id h]
    exact congrArg Host.Outcome.next (takeRequest_accepted (kind := 0x36) ht ((writeDoneAct_live (s := toHunt s) (writebackOf_id h ▸ h) ho).trans
      (congrArg (fun u => accept u []) (resolveWriteback_quiet (s := toHunt s) hq he hm true))))
  · rw [exec_writeDone (ok := false) rfl, hfreed, ← writebackOf_id h]
    exact congrArg Host.Outcome.next (takeRequest_accepted (kind := 0x36) ht ((writeDoneAct_live (s := toHunt s) (writebackOf_id h ▸ h) ho).trans
      (congrArg (fun u => accept u []) (resolveWriteback_quiet (s := toHunt s) hq he hm false))))
  · rw [exec_writebackDeadlineExpiry_live h hd ho, hfreed, ← writebackOf_id h, resolveWriteback_quiet (s := countTimeout s) hq he hm false]
    rfl
  · obtain ⟨t, u, hexec, hu, hslice⟩ := exec_resolves_request hx h ho
    have hport := resolveWriteback_port hreq ok hu
    generalize hv : written r _ _ = v at hport
    have hsame : v.slice r.bay = s.slice r.bay := by
      rw [← hv, written_slice]
      split <;> rfl
    rw [← hsame] at hq ⊢
    obtain ⟨hqueue, hsent, hflag⟩ := hport
    refine ⟨fun hm => ⟨t, hexec, ?_, ?_⟩, fun htr hres => ⟨t, hexec, ?_, ?_, fun hf => ?_⟩⟩
    · rw [hslice, hqueue, resolveBlock_more_port hq hm]
      rfl
    · rw [hslice, hsent, resolveBlock_more_port hq hm]
    · rw [hslice, hqueue, resolveBlock_last_port hq htr hres]
    · rw [hslice, hsent, resolveBlock_last_port hq htr hres]
    · rw [flag_of_slice hslice]
      exact hflag (resolveBlock_last_flag hq htr hres (hf.imp (fun h => h) fun h => by simp [h]))

end Sys2Proof.Machine
end

section
/-! PROOFS. The statement of chapters 7 and 8 about the end of a block transfer (R123, R125, R126, R143). -/

namespace Sys2Proof.Machine

variable {s t u : State} {b : Bay} {x : Transfer} {r : ServerRequest} {data : Block}

theorem execTransferEnd_none (h : (s.slice b).port.transfer = none) : exec (.transferEnd b data) s = .next s := by
  change execTransferEnd b data s = _
  unfold execTransferEnd
  rw [h]

/-- The transfer of a request that has left the queue meanwhile ends (log entry 49). -/
theorem execTransferEnd_gone (h : (s.slice b).port.transfer = some x) (hr : (s.slice b).port.request x.serial = none) :
    exec (.transferEnd b data) s = .next (settle b s (unpin b x s)) := by
  change execTransferEnd b data s = _
  unfold execTransferEnd
  rw [h]
  dsimp only
  rw [hr]

theorem execTransferEnd_some (h : (s.slice b).port.transfer = some x) (hr : (s.slice b).port.request x.serial = some r) :
    exec (.transferEnd b data) s = .next (if x.write then endWrite b x r data s else endRead b x r s) := by
  change execTransferEnd b data s = _
  unfold execTransferEnd
  rw [h]
  dsimp only
  rw [hr]

@[simp] theorem unpin_port (b : Bay) (x : Transfer) (s : State) :
    ((unpin b x s).slice b).port = { (s.slice b).port with transfer := none } := by simp [unpin]

@[simp] theorem tell_port (b : Bay) (m : PortMessage) (s : State) :
    ((tell b m s).slice b).port = { (s.slice b).port with sent := (s.slice b).port.sent ++ [m] } := by simp [tell]

/-! ## The end of a READ transfer (R123) -/

/-- The state once a READ's block is sent. -/
def blockSent (b : Bay) (x : Transfer) (r : ServerRequest) (s : State) : State :=
  tell b (.block r.tag r.next (s.cache.entry x.entry).data) (unpin b x s)

theorem blockSent_port (b : Bay) (x : Transfer) (r : ServerRequest) (s : State) : ((blockSent b x r s).slice b).port =
    { (s.slice b).port with
      transfer := none, sent := (s.slice b).port.sent ++ [.block r.tag r.next (s.cache.entry x.entry).data] } := by
  rw [blockSent, tell_port, unpin_port]

theorem endRead_last (h : r.start + r.count ≤ r.next + 1) : endRead b x r s = settle b s (complete b r .good (blockSent b x r s)) := if_pos h

/-- The end of a READ's transfer before its last block leaves what the engines leave of the advanced request. -/
theorem endRead_more (h : r.next + 1 < r.start + r.count)
    (hu : u = modRequest b r.serial (fun q => { q with next := q.next + 1 }) (blockSent b x r s)) :
    ((endRead b x r s).slice b).port.queue = (u.slice b).port.queue ∧ ((endRead b x r s).slice b).port.sent = (u.slice b).port.sent := by
  have he : endRead b x r s = if (u.cache.find (u.key b (r.next + 1))).isNone
      then serve serveLimit (changeReport b s u :: (askFetch b (r.next + 1) (r.start + r.count - 1) u).2)
        (askFetch b (r.next + 1) (r.start + r.count - 1) u).1
      else serve serveLimit [changeReport b s u] u := by
    subst hu
    exact if_neg (show ¬ r.start + r.count ≤ r.next + 1 by omega)
  rw [he]
  split
  · have hE := serve_engines serveLimit (changeReport b s u :: (askFetch b (r.next + 1) (r.start + r.count - 1) u).2)
      (askFetch b (r.next + 1) (r.start + r.count - 1) u).1
    have hport : ((askFetch b (r.next + 1) (r.start + r.count - 1) u).1.slice b).port = (u.slice b).port :=
      askFetch_same (p := .port b) nofun
    rw [hE.queue, hE.sent, hport]
    exact ⟨rfl, rfl⟩
  · have hE := serve_engines serveLimit [changeReport b s u] u
    exact ⟨hE.queue b, hE.sent b⟩

/-! ## The end of a WRITE transfer (R125, R143) -/

/-- The state once a WRITE's block is DIRTY and the request has advanced. -/
def blockTaken (b : Bay) (x : Transfer) (r : ServerRequest) (data : Block) (s : State) : State :=
  modRequest b r.serial (fun q => { q with next := q.next + 1, transferred := q.transferred + 1 })
    ((unpin b x s).modCache fun c => c.makeDirty b (s.slice b).medium.generation x.entry r.next r.serial data)

theorem endWrite_eq (b : Bay) (x : Transfer) (r : ServerRequest) (data : Block) (s : State) :
    endWrite b x r data s = settle b s (blockTaken b x r data s) := rfl

theorem blockTaken_port (b : Bay) (x : Transfer) (r : ServerRequest) (data : Block) (s : State) :
    ((blockTaken b x r data s).slice b).port = { (s.slice b).port with
      transfer := none
      queue := (s.slice b).port.queue.map fun q =>
        if q.serial = r.serial then { q with next := q.next + 1, transferred := q.transferred + 1 } else q } := by
  rw [blockTaken, modRequest_port, State.modCache_slice, unpin_port]

theorem blockTaken_cache (b : Bay) (x : Transfer) (r : ServerRequest) (data : Block) (s : State) : (blockTaken b x r data s).cache =
    { s.cache with
      entries := s.cache.entries.set x.entry { s.cache.entry x.entry with
        pinned := false, state := .dirty, data := data, owner := some (.writeback s.cache.nextWritebackId) }
      writebacks := s.cache.writebacks ++ [⟨s.cache.nextWritebackId, b, (s.slice b).medium.generation, r.next, some x.entry, some r.serial,
        .pending, none, false⟩]
      lastWritebackId := s.cache.nextWritebackId } := by
  have hc : (blockTaken b x r data s).cache = (s.cache.modEntry x.entry fun e => { e with pinned := false }).makeDirty b
      (s.slice b).medium.generation x.entry r.next r.serial data := rfl
  rw [hc, Cache.makeDirty]
  simp only [Cache.modEntry_modEntry]
  rfl

/-- A DIRTY entry stays as it is through the engines' work. -/
theorem Engines.dirty_entry (h : Engines s t) {i : Fin 256} (hd : (s.cache.entry i).state = .dirty) :
    (t.cache.entry i).state = .dirty ∧ (t.cache.entry i).key = (s.cache.entry i).key ∧ (t.cache.entry i).data = (s.cache.entry i).data ∧
      (t.cache.entry i).owner = (s.cache.entry i).owner := by
  rcases h.cache.entries i with ⟨hs, hk, hdata, ho⟩ | ⟨hne, _⟩
  · exact ⟨hs.trans hd, hk, hdata, ho⟩
  · exact absurd hd hne

/-- Settles O46, by what the transfer is: none, of a request gone, of a READ, of a WRITE. -/
theorem transferEndAdvancesTheRequest : Obligations.TransferEndAdvancesTheRequest := by
  unfold Obligations.TransferEndAdvancesTheRequest
  refine fun s b data => ⟨execTransferEnd_none, fun x hx hq => ?_, fun x r hx hr _ => ⟨fun hw hl => ?_, fun hw hm => ?_, fun hw => ?_⟩⟩
  · rw [execTransferEnd_gone hx (by simp [Port.request, hq b]), settle_quiet]
    · rfl
    · intro c
      by_cases hc : c = b
      · subst hc
        rw [unpin_port]
        exact hq c
      · rw [unpin, State.slice_modSlice_ne _ _ _ _ hc]
        exact hq c
  · have hE := settle_engines b s (complete b r .good (blockSent b x r s))
    refine ⟨_, execTransferEnd_some hx hr, ?_⟩
    rw [if_neg (by simp [hw]), endRead_last hl, hE.queue, hE.sent, complete_port, blockSent_port]
    exact ⟨rfl, List.append_assoc _ _ _⟩
  · obtain ⟨hqueue, hsent⟩ := endRead_more (s := s) (b := b) (x := x) hm rfl
    refine ⟨_, execTransferEnd_some hx hr, ?_⟩
    rw [if_neg (by simp [hw]), hqueue, hsent, modRequest_port, blockSent_port]
    exact ⟨rfl, rfl⟩
  · have hE := settle_engines b s (blockTaken b x r data s)
    have hentry : (blockTaken b x r data s).cache.entry x.entry = { s.cache.entry x.entry with
        pinned := false, state := .dirty, data := data, owner := some (.writeback s.cache.nextWritebackId) } := by
      rw [blockTaken_cache]
      exact get_set_self _ _ _
    obtain ⟨hstate, hkey, hdata, hown⟩ := hE.dirty_entry (i := x.entry) (by rw [hentry])
    refine ⟨_, s.cache.nextWritebackId, execTransferEnd_some hx hr, ?_⟩
    rw [if_pos hw, endWrite_eq, hE.queue, hE.sent, hstate, hkey, hdata, hown, hentry, blockTaken_port, hE.cache.writebacks.1,
      hE.cache.writebacks.2, blockTaken_cache]
    exact ⟨rfl, fun hl hid => freshId_idAfter (by rw [List.length_map]; omega) hid, rfl, rfl, rfl, rfl, rfl, rfl, rfl⟩

end Sys2Proof.Machine
end

section
/-! PROOFS. The victims of the block cache and the extents of fetches, as the statements name them (R131, R133, R134, R136). -/

namespace Sys2Proof.Machine

variable {s : State} {b : Bay} {c : Cache} {i j v : Fin 256} {id n k : Nat} {key : Nat → BlockKey}

/-! ## The victim (R131, R133) -/

theorem Cache.freeVictim_iff (c : Cache) (i : Fin 256) : c.freeVictim i = true ↔ (c.entry i).state = .free ∧ (c.entry i).pinned = false := by
  simp [Cache.freeVictim]

theorem Cache.validVictim_iff (c : Cache) (b : Bay) (i : Fin 256) : c.validVictim b i = true ↔ ValidEligible c b i := by
  unfold Cache.validVictim ValidEligible
  simp only [Bool.and_eq_true, decide_eq_true_eq, Bool.not_eq_true', Option.any_eq_true, Bool.or_eq_true, and_assoc]
  rfl

/-- The oldest of a list in ascending order: of the greatest age, and of equal ages the lowest (R131). -/
theorem Cache.oldest_spec {l : List (Fin 256)} (hl : l.Pairwise (· < ·)) : ∀ {i}, c.oldest l = some i →
    i ∈ l ∧ ∀ j ∈ l, c.age j < c.age i ∨ c.age j = c.age i ∧ i ≤ j := by
  induction l with
  | nil => exact nofun
  | cons a rest ih =>
    intro i h
    obtain ⟨ha, hrest⟩ := List.pairwise_cons.mp hl
    refine ⟨Cache.oldest_mem h, fun j hj => ?_⟩
    unfold Cache.oldest at h
    split at h
    case h_1 hnone =>
      cases h
      cases rest with
      | nil => exact .inr ⟨by rw [List.mem_singleton.mp hj], by rw [List.mem_singleton.mp hj]⟩
      | cons x xs =>
        unfold Cache.oldest at hnone
        split at hnone
        · cases hnone
        · split at hnone <;> cases hnone
    case h_2 o ho =>
      obtain ⟨hmem, hmax⟩ := ih hrest ho
      rcases List.mem_cons.mp hj with rfl | hj
      · split at h
        case isTrue hlt =>
          cases h
          exact .inl hlt
        case isFalse =>
          cases h
          exact .inr ⟨rfl, le_refl _⟩
      · have hjm := hmax j hj
        split at h
        case isTrue =>
          cases h
          exact hjm
        case isFalse hge =>
          cases h
          have haj := ha j hj
          rcases hjm with hlt | ⟨heq, -⟩
          · exact .inl (by omega)
          · by_cases hai : c.age j < c.age a
            · exact .inl hai
            · exact .inr ⟨by omega, le_of_lt haj⟩

theorem Cache.oldest_isSome {l : List (Fin 256)} (h : l ≠ []) : ∃ i, c.oldest l = some i := by
  cases l with
  | nil => exact absurd rfl h
  | cons a rest =>
    unfold Cache.oldest
    split
    · exact ⟨_, rfl⟩
    · split <;> exact ⟨_, rfl⟩

/-- A victim chosen is the victim that R133 names. -/
theorem Cache.victimFor_of_victim (h : c.victim b = some i) : VictimFor c b i := by
  unfold Cache.victim at h
  split at h
  case h_1 x hx =>
    cases h
    obtain ⟨hi, k, hk, hget, hlow⟩ := List.find?_eq_some_iff_getElem.mp hx
    obtain ⟨hs, hp⟩ := (c.freeVictim_iff i).mp hi
    have hk' : k = i.val := by simpa using congrArg Fin.val hget
    refine .inl ⟨hs, hp, fun j hj => ?_⟩
    have hj' := hlow j.val (by rw [hk']; exact hj)
    rw [List.getElem_finRange] at hj'
    simp only [Cache.freeVictim] at hj'
    by_cases hf : (c.entry j).state = .free
    · right
      simpa [hf] using hj'
    · exact .inl hf
  case h_2 hnone =>
    have hfree (j : Fin 256) : (c.entry j).state ≠ .free ∨ (c.entry j).pinned = true := by
      have hj := List.find?_eq_none.mp hnone j (List.mem_finRange j)
      rw [c.freeVictim_iff] at hj
      by_cases hf : (c.entry j).state = .free
      · right
        simpa [hf] using hj
      · exact .inl hf
    obtain ⟨hmem, hmax⟩ := Cache.oldest_spec ((List.pairwise_lt_finRange 256).filter _) h
    refine .inr ⟨hfree, (c.validVictim_iff b i).mp (List.mem_filter.mp hmem).2, fun j hj => ?_⟩
    have hj' := hmax j (List.mem_filter.mpr ⟨List.mem_finRange j, (c.validVictim_iff b j).mpr hj⟩)
    exact hj'.imp (fun h => h) fun ⟨he, hle⟩ => ⟨BitVec.eq_of_toNat_eq he, hle⟩

theorem VictimFor.unique (hi : VictimFor c b i) (hj : VictimFor c b j) : i = j := by
  rcases hi with ⟨hs, hp, hlow⟩ | ⟨hfree, hv, hmax⟩
  · rcases hj with ⟨hs', hp', hlow'⟩ | ⟨hfree', -, -⟩
    · rcases lt_trichotomy i j with hlt | heq | hgt
      · exact ((hlow' i hlt).elim (fun h => h hs) fun h => by simp [hp] at h).elim
      · exact heq
      · exact ((hlow j hgt).elim (fun h => h hs') fun h => by simp [hp'] at h).elim
    · exact ((hfree' i).elim (fun h => h hs) fun h => by simp [hp] at h).elim
  · rcases hj with ⟨hs', hp', -⟩ | ⟨-, hv', hmax'⟩
    · exact ((hfree j).elim (fun h => h hs') fun h => by simp [hp'] at h).elim
    · rcases hmax j hv' with hlt | ⟨heq, hle⟩
      · rcases hmax' i hv with hlt' | ⟨heq', -⟩
        · omega
        · rw [heq'] at hlt
          exact absurd hlt (lt_irrefl _)
      · rcases hmax' i hv with hlt' | ⟨-, hle'⟩
        · rw [heq] at hlt'
          exact absurd hlt' (lt_irrefl _)
        · exact le_antisymm hle hle'

theorem Cache.victim_isSome (h : VictimFor c b i) : ∃ j, c.victim b = some j := by
  unfold Cache.victim
  split
  · exact ⟨_, rfl⟩
  case h_2 hnone =>
    rcases h with ⟨hs, hp, -⟩ | ⟨-, hv, -⟩
    · exact absurd ((c.freeVictim_iff i).mpr ⟨hs, hp⟩) (List.find?_eq_none.mp hnone i (List.mem_finRange i))
    · refine Cache.oldest_isSome (List.ne_nil_of_mem (a := i) (List.mem_filter.mpr ⟨List.mem_finRange i, ?_⟩))
      exact (c.validVictim_iff b i).mpr hv

theorem Cache.victim_eq (h : VictimFor c b i) : c.victim b = some i := by
  obtain ⟨j, hj⟩ := Cache.victim_isSome h
  rw [hj, (Cache.victimFor_of_victim hj).unique h]

theorem Cache.victim_none (h : ∀ i, ¬VictimFor c b i) : c.victim b = none := by
  cases hv : c.victim b with
  | none => rfl
  | some i => exact absurd (Cache.victimFor_of_victim hv) (h i)

/-! ## The victims of an extent (R134, R136) -/

/-- The cache once entries are taken, one after the other, for the blocks from an index on. -/
def Cache.takeAll (key : Nat → BlockKey) (id : Nat) : List (Fin 256) → Nat → Cache → Cache
  | [], _, c => c
  | v :: rest, n, c => Cache.takeAll key id rest (n + 1) (c.take v (key n) .filling (some (.fetch id n)))

/-- The entries are the victims chosen one after the other, for at most `m` blocks. -/
def Cache.Picks (key : Nat → BlockKey) (id : Nat) (b : Bay) : List (Fin 256) → Nat → Nat → Cache → Prop
  | [], m, _, c => m = 0 ∨ c.victim b = none
  | v :: rest, m, n, c => 0 < m ∧ c.victim b = some v ∧
      Cache.Picks key id b rest (m - 1) (n + 1) (c.take v (key n) .filling (some (.fetch id n)))

theorem takeVictims_picks {first : Nat} (vs : List (Fin 256)) : ∀ (m n : Nat) (c : Cache),
    Cache.Picks (fun x => key (first + x)) id b vs m n c → ∃ lost, takeVictims key b id (List.range' (first + n) m) n c =
      (Cache.takeAll (fun x => key (first + x)) id vs n c, n + vs.length, lost) := by
  induction vs with
  | nil =>
    intro m n c h
    refine ⟨[], ?_⟩
    rcases h with rfl | h
    · rfl
    · cases m with
      | zero => rfl
      | succ m =>
        rw [List.range'_succ]
        unfold takeVictims
        rw [h]
        rfl
  | cons v rest ih =>
    intro m n c ⟨hm, hv, hrest⟩
    obtain ⟨m, rfl⟩ : ∃ l, m = l + 1 := ⟨m - 1, by omega⟩
    obtain ⟨lost, hl⟩ := ih _ _ _ hrest
    rw [Nat.add_sub_cancel, ← Nat.add_assoc] at hl
    refine ⟨(c.loser v).toList ++ lost, ?_⟩
    rw [List.range'_succ]
    unfold takeVictims
    rw [hv]
    dsimp only
    rw [hl, List.length_cons, Cache.takeAll]
    dsimp only
    rw [show n + 1 + rest.length = n + (rest.length + 1) by omega]

/-- Taking entries leaves the tables, the settings and the counters, and counts a use for each. -/
theorem Cache.takeAll_fields (vs : List (Fin 256)) : ∀ (n : Nat) (c : Cache), Cache.takeAll key id vs n c = { c with
    entries := (Cache.takeAll key id vs n c).entries, useCounter := c.useCounter + BitVec.ofNat 32 vs.length } := by
  induction vs with
  | nil =>
    intro n c
    simp [Cache.takeAll]
  | cons v rest ih =>
    intro n c
    have hcount : c.useCounter + BitVec.ofNat 32 (rest.length + 1) = c.useCounter + 1 + BitVec.ofNat 32 rest.length := by
      rw [BitVec.ofNat_add, BitVec.add_comm (BitVec.ofNat 32 rest.length), ← BitVec.add_assoc]
      rfl
    rw [Cache.takeAll, ih, List.length_cons, hcount]
    rfl

theorem Cache.takeAll_entry_other (vs : List (Fin 256)) : ∀ (n : Nat) (c : Cache), i ∉ vs →
    (Cache.takeAll key id vs n c).entry i = c.entry i := by
  induction vs with
  | nil => exact fun _ _ _ => rfl
  | cons v rest ih =>
    intro n c hi
    obtain ⟨hne, hrest⟩ := not_or.mp fun h => hi (List.mem_cons.mpr h)
    rw [Cache.takeAll, ih _ _ hrest, Cache.entry_take, if_neg hne]

/-- Each entry taken holds its block and has recorded its use (R134). -/
theorem Cache.takeAll_entry (vs : List (Fin 256)) : ∀ (n : Nat) (c : Cache), vs.Nodup → ∀ x i, vs[x]? = some i →
    (Cache.takeAll key id vs n c).entry i = { c.entry i with
      state := .filling, key := some (key (n + x)), stamp := c.useCounter + BitVec.ofNat 32 (x + 1), owner := some (.fetch id (n + x)) } := by
  induction vs with
  | nil => exact fun _ _ _ x i h => by simp at h
  | cons v rest ih =>
    intro n c hn x i hx
    obtain ⟨hout, hrest⟩ := List.nodup_cons.mp hn
    cases x with
    | zero =>
      obtain rfl : v = i := by simpa using hx
      rw [Cache.takeAll, Cache.takeAll_entry_other _ _ _ hout, Cache.entry_take, if_pos rfl]
      rfl
    | succ x =>
      have hx : rest[x]? = some i := by simpa using hx
      have hne : i ≠ v := fun h => hout (h ▸ List.mem_of_getElem? hx)
      have hcount : c.useCounter + BitVec.ofNat 32 (x + 1 + 1) = c.useCounter + 1 + BitVec.ofNat 32 (x + 1) := by
        rw [BitVec.ofNat_add _ 1, BitVec.add_comm (BitVec.ofNat 32 (x + 1)), ← BitVec.add_assoc]
        rfl
      rw [Cache.takeAll, ih _ _ hrest x i hx, Cache.entry_take, if_neg hne, hcount, show n + 1 + x = n + (x + 1) by omega]
      rfl

/-! ## The FREE entries as victims (R133) -/

/-- The FREE entries that are not pinned, lowest first. -/
def Cache.freeList (c : Cache) : List (Fin 256) := (List.finRange 256).filter fun i => (c.entry i).state = .free && !(c.entry i).pinned

theorem Cache.freeList_nodup (c : Cache) : c.freeList.Nodup := (List.nodup_finRange 256).filter _

theorem Cache.find_freeVictim (c : Cache) : (List.finRange 256).find? c.freeVictim = c.freeList.head? := List.head?_filter.symm

theorem Cache.victim_of_freeList {rest : List (Fin 256)} (h : c.freeList = v :: rest) : c.victim b = some v := by
  unfold Cache.victim
  rw [Cache.find_freeVictim, h]
  rfl

theorem Cache.victim_of_no_free (h : c.freeList = []) (hv : ∀ i, ¬ValidEligible c b i) : c.victim b = none := by
  unfold Cache.victim
  rw [Cache.find_freeVictim, h]
  have hnone : (List.finRange 256).filter (c.validVictim b) = [] :=
    List.filter_eq_nil_iff.mpr fun i _ hi => hv i ((c.validVictim_iff b i).mp hi)
  change c.oldest ((List.finRange 256).filter (c.validVictim b)) = none
  rw [hnone]
  rfl

/-- An entry taken is FREE no more; the other FREE entries stay. -/
theorem Cache.freeList_take {rest : List (Fin 256)} {k : BlockKey} {o : Option Owner} (h : c.freeList = v :: rest) :
    (c.take v k .filling o).freeList = rest := by
  have hv : v ∉ rest := (List.nodup_cons.mp (h ▸ c.freeList_nodup)).1
  have hp : (fun i => decide (((c.take v k .filling o).entry i).state = .free) && !((c.take v k .filling o).entry i).pinned) =
      fun i => decide (i ≠ v) && (decide ((c.entry i).state = .free) && !(c.entry i).pinned) := by
    funext i
    rw [Cache.entry_take]
    by_cases hi : i = v <;> simp [hi]
  unfold Cache.freeList at h ⊢
  rw [hp, ← List.filter_filter, h, List.filter_cons_of_neg (by simp)]
  exact List.filter_eq_self.mpr fun i hi => by simpa using fun e : i = v => hv (e ▸ hi)

/-- A FREE entry taken for a bay makes no entry eligible that was not. -/
theorem ValidEligible.of_take {k : BlockKey} {o : Option Owner} (hb : k.bay = b) (hv : (c.entry v).state = .free)
    (h : ValidEligible (c.take v k .filling o) b i) : ValidEligible c b i := by
  have hi : i ≠ v := by
    rintro rfl
    have hs := h.1
    rw [Cache.entry_take, if_pos rfl] at hs
    cases hs
  obtain ⟨hs, hp, q, hq, hres⟩ := h
  rw [Cache.entry_take, if_neg hi] at hs hp hq
  refine ⟨hs, hp, q, hq, ?_⟩
  by_cases hqb : q.bay = b
  · exact .inl hqb
  · have hcount : (c.take v k .filling o).count (CacheEntry.heldBy q.bay) = c.count (CacheEntry.heldBy q.bay) := by
      refine Cache.count_congr fun j => ?_
      rw [Cache.entry_take]
      by_cases hj : j = v
      · have hne : ¬ b = q.bay := fun e => hqb e.symm
        subst hj
        simp [CacheEntry.heldBy, hv, hb, hne]
      · rw [if_neg hj]
    have hres := hres.resolve_left hqb
    exact .inr (lt_of_lt_of_eq hres hcount)

/-- The victims of an extent are the lowest FREE entries, where these suffice or no VALID entry is eligible (R133, R136). -/
theorem Cache.picks_free (hkey : ∀ x, (key x).bay = b) (m : Nat) : ∀ (n : Nat) (c : Cache),
    ((c.freeList.take m).length = m ∨ ∀ i, ¬ValidEligible c b i) → Cache.Picks key id b (c.freeList.take m) m n c := by
  induction m with
  | zero => exact fun _ _ _ => .inl rfl
  | succ m ih =>
    intro n c h
    cases hl : c.freeList with
    | nil =>
      rw [hl] at h
      refine .inr (Cache.victim_of_no_free hl (h.resolve_left ?_))
      simp
    | cons v rest =>
      have hrest : (c.take v (key n) .filling (some (.fetch id n))).freeList = rest := Cache.freeList_take hl
      have hfree : (c.entry v).state = .free := by
        have hv : v ∈ c.freeList := by rw [hl]; exact List.mem_cons_self
        have := (List.mem_filter.mp hv).2
        simp only [Bool.and_eq_true, decide_eq_true_eq] at this
        exact this.1
      refine ⟨Nat.succ_pos m, Cache.victim_of_freeList hl, ?_⟩
      have hnext := ih (n + 1) (c.take v (key n) .filling (some (.fetch id n))) ?_
      · rw [hrest] at hnext
        exact hnext
      · rw [hrest]
        rw [hl] at h
        refine h.imp (fun hlen => ?_) fun hnone i hi => hnone i (hi.of_take (hkey n) hfree)
        simpa using hlen

theorem Cache.picks_one (h : VictimFor c b v) : Cache.Picks key id b [v] 1 n c := ⟨Nat.one_pos, Cache.victim_eq h, .inl rfl⟩

/-! ## Extents (R136) -/

theorem find_isNone_iff (s : State) (b : Bay) (block : Nat) : (s.cache.find (s.key b block)).isNone = true ↔ MissingBlock s b block := by
  rw [Option.isNone_iff_eq_none, Cache.find, List.find?_eq_none]
  unfold MissingBlock
  refine ⟨fun h i => ?_, fun h i _ => ?_⟩
  · have hi := h i (List.mem_finRange i)
    by_cases hs : (s.cache.entry i).state = .free
    · exact .inl hs
    · right
      have hk : (s.cache.entry i).key ≠ some (s.key b block) := by simpa [hs] using hi
      exact hk
  · rcases h i with hs | hk
    · simp [hs]
    · have hk' : (s.cache.entry i).key ≠ some (s.key b block) := hk
      simp [hk']

/-- A block that an extent may include (R136, step 2). -/
def State.inExtent (s : State) (b : Bay) (last block : Nat) : Prop :=
  MissingBlock s b block ∧ block < (s.slice b).medium.capacity.getD 0 ∧ block ≤ last

/-- The extent runs to the first block that it may not include, or to its greatest length. -/
theorem fetchExtent_eq {last : Nat} (n : Nat) : ∀ (block k : Nat), (∀ x < k, s.inExtent b last (block + x)) → k ≤ n →
    (k < n → ¬s.inExtent b last (block + k)) → fetchExtent s b last n block = List.range' block k := by
  induction n with
  | zero =>
    intro block k _ hk _
    obtain rfl : k = 0 := by omega
    rfl
  | succ n ih =>
    intro block k hin hk hout
    have hc : ((s.cache.find (s.key b block)).isNone && decide (block < (s.slice b).medium.capacity.getD 0) && decide (block ≤ last)) = true ↔
        s.inExtent b last block := by
      simp only [Bool.and_eq_true, decide_eq_true_eq, find_isNone_iff, and_assoc]
      rfl
    unfold fetchExtent
    cases k with
    | zero => exact if_neg fun h => hout (Nat.succ_pos n) (hc.mp h)
    | succ k =>
      rw [if_pos (hc.mpr (hin 0 (Nat.succ_pos k))), List.range'_succ, ih (block + 1) k ?_ (by omega) ?_]
      · intro x hx
        rw [Nat.add_assoc, Nat.add_comm 1 x]
        exact hin (x + 1) (by omega)
      · intro hlt
        rw [Nat.add_assoc, Nat.add_comm 1 k]
        exact hout (by omega)

end Sys2Proof.Machine
end

section
/-! PROOFS. The statement of chapters 7 and 8 about server requests: how they are judged and what the engine does with one that stands alone
(R119 to R124, R133 to R136). -/

namespace Sys2Proof.Machine

variable {s t u : State} {b c : Bay} {tag : Byte} {start : BitVec 32} {count n : Nat} {r : ServerRequest} {i v : Fin 256} {ask : Bool}
  {more : List Report}

/-! ## The judgement of a request (R119, R120) -/

theorem arrive_busy (hu : (s.slice b).port.up = true) (hq : 4 ≤ (s.slice b).port.queue.length) (pass : State → State) :
    arrive b tag pass s = s.told b (.status tag .busy) := (if_neg (by simp [hu])).trans (if_pos hq)

theorem arrive_notReady (hu : (s.slice b).port.up = true) (hq : (s.slice b).port.queue.length < 4) (hm : (s.slice b).medium.state ≠ .present)
    (pass : State → State) : arrive b tag pass s = s.told b (.status tag .notReady) :=
  (if_neg (by simp [hu])).trans ((if_neg (Nat.not_le.mpr hq)).trans (if_pos hm))

theorem arrive_changed (hu : (s.slice b).port.up = true) (hq : (s.slice b).port.queue.length < 4) (hm : (s.slice b).medium.state = .present)
    (hc : (s.slice b).medium.changed = true) (pass : State → State) :
    arrive b tag pass s = s.withSlice b { s.slice b with
      medium := { (s.slice b).medium with changed := false }
      port := { (s.slice b).port with sent := (s.slice b).port.sent ++ [.status tag .mediumChanged] } } := by
  refine (if_neg (by simp [hu])).trans ((if_neg (Nat.not_le.mpr hq)).trans ((if_neg (by simp [hm])).trans ((if_pos hc).trans ?_)))
  rw [show (s.modMedium b fun m => { m with changed := false }) = s.withSlice b { s.slice b with
    medium := { (s.slice b).medium with changed := false } } from rfl]
  unfold tell State.modPort
  rw [modSlice_withSlice]

/-- The state in which a request passes the checks that are not about its blocks. -/
structure Serves (b : Bay) (s : State) : Prop where
  up : (s.slice b).port.up = true
  room : (s.slice b).port.queue.length < 4
  present : (s.slice b).medium.state = .present
  unchanged : (s.slice b).medium.changed = false

theorem Serves.arrive (h : Serves b s) (tag : Byte) (pass : State → State) : arrive b tag pass s = pass s := by
  refine (if_neg (by simp [h.up])).trans ((if_neg (Nat.not_le.mpr h.room)).trans ((if_neg (by simp [h.present])).trans (if_neg ?_)))
  simp [h.unchanged]

/-- What becomes of an arrival before its own checks is the same for every defined kind. -/
theorem exec_arrivals (h : ∀ pass, arrive b tag pass s = t) :
    ∀ i ∈ [Instr.read b tag start count, .write b tag start count, .capacity b tag, .ready b tag], exec i s = .next t := by
  intro i hi
  simp only [List.mem_cons, List.not_mem_nil, or_false] at hi
  rcases hi with rfl | rfl | rfl | rfl
  · exact congrArg Host.Outcome.next (h _)
  · exact congrArg Host.Outcome.next (h _)
  · exact congrArg Host.Outcome.next (h _)
  · exact congrArg Host.Outcome.next (h _)

theorem exec_invalid_busy (hu : (s.slice b).port.up = true) (hq : 4 ≤ (s.slice b).port.queue.length) :
    exec (.serverRequestInvalid b tag) s = .next (s.told b (.status tag .busy)) := (if_neg (by simp [hu])).trans (if_pos hq)

theorem exec_invalid (hu : (s.slice b).port.up = true) (hq : (s.slice b).port.queue.length < 4) :
    exec (.serverRequestInvalid b tag) s = .next (s.told b (.status tag .invalid)) :=
  (if_neg (by simp [hu])).trans (if_neg (Nat.not_le.mpr hq))

theorem blocksInRange_iff {m : Medium} (hn : m.capacity = some n) (first count : Nat) :
    blocksInRange m first count = true ↔ 1 ≤ count ∧ count ≤ 128 ∧ first + count ≤ n := by
  unfold blocksInRange
  rw [hn]
  simp only [Bool.and_eq_true, decide_eq_true_eq, Option.getD_some, and_assoc]
  omega

/-- A request as it is admitted: its next block is its first, and no failure is marked (R120). -/
def newRequest (serial : Nat) (tag : Byte) (write : Bool) (first count : Nat) : ServerRequest :=
  ⟨serial, tag, write, first, count, first, false, 0, 0⟩

namespace Serves

theorem read_outside (h : Serves b s) (tag : Byte) (hr : blocksInRange (s.slice b).medium start.toNat count = false) :
    exec (.read b tag start count) s = .next (s.told b (.status tag .outOfRange)) :=
  congrArg Host.Outcome.next ((h.arrive tag _).trans (if_neg (by simp [hr])))

theorem write_outside (h : Serves b s) (tag : Byte) (hr : blocksInRange (s.slice b).medium start.toNat count = false) :
    exec (.write b tag start count) s = .next (s.told b (.status tag .outOfRange)) :=
  congrArg Host.Outcome.next ((h.arrive tag _).trans (if_pos (by simp [hr])))

theorem write_protected (h : Serves b s) (tag : Byte) (hr : blocksInRange (s.slice b).medium start.toNat count = true)
    (hw : (s.slice b).medium.writable = false) : exec (.write b tag start count) s = .next (s.told b (.status tag .writeProtected)) :=
  congrArg Host.Outcome.next ((h.arrive tag _).trans ((if_neg (by simp [hr])).trans (if_neg (by simp [hw]))))

theorem read_admits (h : Serves b s) (tag : Byte) (hr : blocksInRange (s.slice b).medium start.toNat count = true) :
    exec (.read b tag start count) s = .next (admitAndServe b (newRequest s.nextSerial tag false start.toNat count) s) :=
  congrArg Host.Outcome.next ((h.arrive tag _).trans (if_pos hr))

theorem write_admits (h : Serves b s) (tag : Byte) (hr : blocksInRange (s.slice b).medium start.toNat count = true)
    (hw : (s.slice b).medium.writable = true) :
    exec (.write b tag start count) s = .next (admitAndServe b (newRequest s.nextSerial tag true start.toNat count) s) :=
  congrArg Host.Outcome.next ((h.arrive tag _).trans ((if_neg (by simp [hr])).trans (if_pos hw)))

end Serves

/-! ## Admission (R120) -/

theorem enqueue_port (b : Bay) (r : ServerRequest) (s : State) : ((enqueue b r s).slice b).port =
    { (s.slice b).port with queue := (s.slice b).port.queue ++ [r] } := by
  change ((s.modPort b fun p => { p with queue := p.queue ++ [r] }).slice b).port = _
  simp

theorem enqueue_medium (b c : Bay) (r : ServerRequest) (s : State) : ((enqueue b r s).slice c).medium = (s.slice c).medium :=
  State.slice_modSlice_of Slice.medium s b c (fun x => { x with port := { x.port with queue := x.port.queue ++ [r] } }) fun _ => rfl

theorem admitAndServe_engines (b : Bay) (r : ServerRequest) (s : State) : Engines (enqueue b r s) (admitAndServe b r s) := by
  have hq : ((enqueue b r s).slice b).port.queue ≠ [] := by
    rw [enqueue_port]
    exact List.append_ne_nil_of_right_ne_nil _ (List.cons_ne_nil _ _)
  unfold admitAndServe
  dsimp only
  split
  · exact (enginesKeep _).serve _ _ _ ((Engines.refl _).askFetch hq)
  · exact serve_engines _ _ _

/-- What admission leaves but for the ports and the cache is what it leaves before the engine judges the queue. -/
theorem admitAndServe_settles {p : Part} (h : p.moving = false) (b : Bay) (r : ServerRequest) (s : State) :
    p.Same (enqueue b r s) (admitAndServe b r s) := by
  have hc : p ≠ .cache := Part.ne_cache_of_moving h
  unfold admitAndServe
  dsimp only
  split
  · exact (askFetch_same hc).trans (serve_same h _ _ _)
  · exact serve_same h _ _ _

theorem admitAndServe_admits (b : Bay) (r : ServerRequest) (s : State) (ht : t = admitAndServe b r s) :
    (t.slice b).port.queue = (s.slice b).port.queue ++ [r] ∧ (t.slice b).port.sent = (s.slice b).port.sent ∧
      (t.slice b).medium = (s.slice b).medium ∧ t.nextSerial = s.nextSerial + 1 ∧ t.cache.writebacks = s.cache.writebacks := by
  have hE := admitAndServe_engines b r s
  have hmedium : ((admitAndServe b r s).slice b).medium = ((enqueue b r s).slice b).medium :=
    admitAndServe_settles (p := .medium b) rfl b r s
  have hserial : (admitAndServe b r s).nextSerial = (enqueue b r s).nextSerial := admitAndServe_settles (p := .serials) rfl b r s
  rw [← ht] at hE hmedium hserial
  refine ⟨by rw [hE.queue, enqueue_port], by rw [hE.sent, enqueue_port], hmedium.trans (enqueue_medium b b r s), hserial, ?_⟩
  rw [hE.cache.writebacks.1]
  rfl

/-! ## The engine and one request (R121 to R124) -/

theorem judgeQueue_single (hq : (s.slice b).port.queue = [r]) (ask : Bool) :
    judgeQueue ask b s = if r.write then lookWrite b r s else lookRead ask b r s := by
  have hr : (s.slice b).port.request r.serial = some r := by simp [Port.request, hq]
  have hlook : lookRequest ask b r.serial s = if r.write then lookWrite b r s else lookRead ask b r s := by
    unfold lookRequest
    rw [hr]
  unfold judgeQueue
  rw [hq]
  simp only [List.map_cons, List.map_nil, lookAll, hlook, List.append_nil]

theorem judgePorts_single (ask : Bool) (b : Bay) (s : State) : judgePorts ask [b] s = judgeQueue ask b s := by
  simp only [judgePorts, List.append_nil]

/-- The report of an admission is taken first. -/
theorem serve_first (hj : judgeQueue false b s = (t, more)) (rest : List Report) :
    serve serveLimit (⟨b, false, false⟩ :: rest) s = serve 1023 (rest ++ more) t := by
  have hp : judgePorts false [b] s = (t, more) := (judgePorts_single false b s).trans hj
  change (match judgePorts false [b] s with | (s', more) => serve 1023 (rest ++ more) s') = _
  rw [hp]

theorem serve_alone (hj : judgeQueue false b s = (t, [])) : serve serveLimit [⟨b, false, false⟩] s = t := serve_first hj []

/-- No port's engine finds anything to do. -/
def State.still (s : State) : Prop := ∀ ask c, judgeQueue ask c s = (s, [])

theorem judgePorts_still (h : s.still) (ask : Bool) (bs : List Bay) : judgePorts ask bs s = (s, []) := by
  induction bs with
  | nil => rfl
  | cons b rest ih =>
    unfold judgePorts
    rw [h ask b]
    dsimp only
    rw [ih]
    rfl

theorem serve_still (h : s.still) (n : Nat) : ∀ rs, serve n rs s = s := by
  induction n with
  | zero => exact fun rs => by cases rs <;> rfl
  | succ n ih =>
    intro rs
    cases rs with
    | nil => rfl
    | cons r rest =>
      unfold serve
      rw [judgePorts_still h]
      exact ih _

/-- A request that stands alone and can do nothing leaves every engine still. -/
theorem State.still_of (hq : (s.slice b).port.queue = [r]) (hothers : ∀ c, c ≠ b → (s.slice c).port.queue = [])
    (hlook : ∀ ask, (if r.write then lookWrite b r s else lookRead ask b r s) = (s, [])) : s.still := by
  intro ask c
  by_cases hc : c = b
  · subst hc
    rw [judgeQueue_single hq, hlook]
  · unfold judgeQueue
    rw [hothers c hc]
    rfl

theorem lookRead_hit (hf : s.cache.find (s.key b r.next) = some i) (ht : (s.slice b).port.transfer = none) (hv : (s.cache.entry i).state = .valid) :
    lookRead ask b r s = (startTransfer b r i s, []) := by
  unfold lookRead
  rw [hf]
  exact if_pos (by simp [ht, hv])

theorem lookRead_filling (hf : s.cache.find (s.key b r.next) = some i) (hv : (s.cache.entry i).state = .filling) :
    lookRead ask b r s = (s, []) := by
  unfold lookRead
  rw [hf]
  exact if_neg (by simp [hv])

theorem lookRead_missing (hf : s.cache.find (s.key b r.next) = none) : lookRead false b r s = (s, []) := by
  unfold lookRead
  rw [hf]
  rfl

theorem lookWrite_full (h : (s.slice b).port.transfer.isSome = true ∨ 16 ≤ usedPlaces s) : lookWrite b r s = (s, []) := by
  refine if_pos ?_
  rcases h with h | h
  · simp [h]
  · have : Config.writebackMax ≤ usedPlaces s := h
    simp [this]

/-- A WRITE that may look for its entry: no transfer in flight, blocks left and a place free (R124). -/
structure MayWrite (b : Bay) (r : ServerRequest) (s : State) : Prop where
  idle : (s.slice b).port.transfer = none
  left : r.transferred < r.count
  place : usedPlaces s < 16

theorem MayWrite.not_full (h : MayWrite b r s) :
    ¬((s.slice b).port.transfer.isSome || r.count ≤ r.transferred || Config.writebackMax ≤ usedPlaces s) = true := by
  have hp : ¬ Config.writebackMax ≤ usedPlaces s := Nat.not_le.mpr h.place
  simp [h.idle, Nat.not_le.mpr h.left, hp]

theorem MayWrite.found (h : MayWrite b r s) (hf : s.cache.find (s.key b r.next) = some i) : lookWrite b r s =
    if (s.cache.entry i).state = .valid && !(s.cache.entry i).pinned then (startTransfer b r i s, []) else (s, []) := by
  unfold lookWrite
  rw [if_neg h.not_full, hf]

theorem MayWrite.no_victim (h : MayWrite b r s) (hf : s.cache.find (s.key b r.next) = none) (hv : s.cache.victim b = none) :
    lookWrite b r s = (s, []) := by
  unfold lookWrite
  rw [if_neg h.not_full, hf, hv]

theorem MayWrite.takes (h : MayWrite b r s) (hf : s.cache.find (s.key b r.next) = none) (hv : s.cache.victim b = some i) :
    lookWrite b r s =
      (startTransfer b r i (s.modCache fun c => c.take i (s.key b r.next) .valid none), (s.cache.loser i).toList.map lossReport) := by
  unfold lookWrite
  rw [if_neg h.not_full, hf, hv]

end Sys2Proof.Machine
end

section
/-! PROOFS. The statement of chapters 7 and 8 about server requests: a request that stands alone, its transfer and its fetch (R121 to R124,
R131, R133 to R136). -/

namespace Sys2Proof.Machine

variable {s t u : State} {b c : Bay} {tag : Byte} {start : BitVec 32} {count n k id : Nat} {r : ServerRequest} {i v : Fin 256} {p : Port}

/-! ## A request that waits alone -/

/-- The state with one request queued on a port, admitted a moment ago (R120). -/
def State.waiting (s : State) (b : Bay) (r : ServerRequest) : State :=
  { s.withPort b { (s.slice b).port with queue := [r] } with nextSerial := s.nextSerial + 1 }

theorem enqueue_alone (hq : (s.slice b).port.queue = []) (r : ServerRequest) : enqueue b r s = s.waiting b r := by
  change { s.withPort b { (s.slice b).port with queue := (s.slice b).port.queue ++ [r] } with nextSerial := s.nextSerial + 1 } = _
  rw [hq]
  rfl

theorem waiting_port (s : State) (b : Bay) (r : ServerRequest) : ((s.waiting b r).slice b).port = { (s.slice b).port with queue := [r] } :=
  congrArg Slice.port (slice_withSlice_self s b { s.slice b with port := { (s.slice b).port with queue := [r] } })

theorem waiting_slice_ne (s : State) (r : ServerRequest) (h : c ≠ b) : (s.waiting b r).slice c = s.slice c :=
  State.slice_modSlice_ne s b c (fun x => { x with port := { (s.slice b).port with queue := [r] } }) h

theorem waiting_cache (s : State) (b : Bay) (r : ServerRequest) : (s.waiting b r).cache = s.cache := rfl

theorem waiting_medium (s : State) (b : Bay) (r : ServerRequest) : ((s.waiting b r).slice b).medium = (s.slice b).medium := by
  have h : (s.waiting b r).slice b = { s.slice b with port := { (s.slice b).port with queue := [r] } } := slice_withSlice_self s b _
  rw [h]

theorem waiting_key (s : State) (b : Bay) (r : ServerRequest) (block : Nat) : (s.waiting b r).key b block = s.key b block := by
  unfold State.key
  rw [waiting_medium]

theorem waiting_missing (s : State) (b : Bay) (r : ServerRequest) (block : Nat) : MissingBlock (s.waiting b r) b block ↔ MissingBlock s b block := by
  unfold MissingBlock
  rw [waiting_medium, waiting_cache]

theorem waiting_usedPlaces (s : State) (b : Bay) (r : ServerRequest) : usedPlaces (s.waiting b r) = usedPlaces s := by
  have hr : reservedPlaces (s.waiting b r) = reservedPlaces s := by
    refine reservedPlaces_congr fun c => ?_
    by_cases hc : c = b
    · subst hc
      rw [waiting_port]
    · rw [waiting_slice_ne s r hc]
  unfold usedPlaces
  rw [hr, waiting_cache]

/-- A request admitted that finds its block's entry at hand, or is a WRITE, is judged at once. -/
theorem admitAndServe_judged (hq : (s.slice b).port.queue = []) (h : r.write = true ∨ ¬MissingBlock s b r.next)
    (hj : judgeQueue false b (s.waiting b r) = (t, [])) : admitAndServe b r s = t := by
  unfold admitAndServe
  rw [enqueue_alone hq]
  dsimp only
  rw [waiting_key, waiting_cache]
  refine (if_neg ?_).trans (serve_alone hj)
  rw [Bool.and_eq_true, find_isNone_iff]
  rintro ⟨hw, hm⟩
  exact h.elim (fun h => by simp [h] at hw) fun h => h hm

/-! ## The start of a transfer (R123, R124) -/

theorem modPort_withPort (b : Bay) (f : Port → Port) (p : Port) (s : State) : (s.withPort b p).modPort b f = s.withPort b (f p) := by
  unfold State.withPort State.modPort
  rw [modSlice_withSlice]

theorem Cache.pin_eq (c : Cache) (i : Fin 256) : (c.modEntry i fun e => { e with pinned := true }).use i = { c with
    useCounter := c.useCounter + 1
    entries := c.entries.set i { c.entry i with pinned := true, stamp := c.useCounter + 1 } } := by
  unfold Cache.use
  rw [show ∀ (f : CacheEntry → CacheEntry) (x : BitVec 32), ({ c.modEntry i f with useCounter := x } : Cache) =
      ({ c with useCounter := x } : Cache).modEntry i f from fun _ _ => rfl, Cache.modEntry_modEntry]
  rfl

theorem Cache.take_eq (c : Cache) (i : Fin 256) (k : BlockKey) (st : EntryState) (o : Option Owner) : c.take i k st o = { c with
    useCounter := c.useCounter + 1
    entries := c.entries.set i { c.entry i with state := st, key := some k, owner := o, stamp := c.useCounter + 1 } } := by
  unfold Cache.take Cache.use
  rw [show ∀ (f : CacheEntry → CacheEntry) (x : BitVec 32), ({ c.modEntry i f with useCounter := x } : Cache) =
      ({ c with useCounter := x } : Cache).modEntry i f from fun _ _ => rfl, Cache.modEntry_modEntry]
  rfl

/-- A victim taken and pinned for a WRITE counts two uses (R131, log entry 27). -/
theorem Cache.take_pin_eq (c : Cache) (i : Fin 256) (k : BlockKey) (st : EntryState) (o : Option Owner) :
    ((c.take i k st o).modEntry i fun e => { e with pinned := true }).use i = { c with
      useCounter := c.useCounter + 2
      entries := c.entries.set i { c.entry i with
        state := st, key := some k, pinned := true, stamp := c.useCounter + 2, owner := o } } := by
  have htwo : c.useCounter + 1 + 1 = c.useCounter + 2 := by
    rw [BitVec.add_assoc]
    rfl
  have hentry : (c.take i k st o).entry i = { c.entry i with state := st, key := some k, owner := o, stamp := c.useCounter + 1 } := by
    rw [Cache.entry_take, if_pos rfl]
  rw [Cache.pin_eq, hentry, Cache.take_eq]
  simp only [htwo, Vector.set_set]

/-- A transfer started for the request that waits alone. -/
theorem startTransfer_waiting (s : State) (b : Bay) (r : ServerRequest) (i : Fin 256) (f : Cache → Cache) :
    startTransfer b r i ((s.waiting b r).modCache f) = { s.withPort b { (s.slice b).port with
        queue := [r], transfer := some ⟨r.serial, r.write, i⟩ } with
      nextSerial := s.nextSerial + 1
      cache := ((f s.cache).modEntry i fun e => { e with pinned := true }).use i } := by
  have h := congrArg State.slices (modPort_withPort b (fun p => { p with transfer := some ⟨r.serial, r.write, i⟩ })
    { (s.slice b).port with queue := [r] } s)
  exact congrArg (fun x => ({ s with
    slices := x, nextSerial := s.nextSerial + 1
    cache := ((f s.cache).modEntry i fun e => { e with pinned := true }).use i } : State)) h

/-- The state once the request's transfer uses an entry that holds its block. -/
theorem startTransfer_held (s : State) (b : Bay) (r : ServerRequest) (i : Fin 256) :
    startTransfer b r i (s.waiting b r) = { s.withPort b { (s.slice b).port with
        queue := [r], transfer := some ⟨r.serial, r.write, i⟩ } with
      nextSerial := s.nextSerial + 1
      cache := { s.cache with
        useCounter := s.cache.useCounter + 1
        entries := s.cache.entries.set i { s.cache.entry i with pinned := true, stamp := s.cache.useCounter + 1 } } } := by
  rw [← Cache.pin_eq]
  exact startTransfer_waiting s b r i fun c => c

theorem startTransfer_taken (s : State) (b : Bay) (r : ServerRequest) (i : Fin 256) (k : BlockKey) :
    startTransfer b r i ((s.waiting b r).modCache fun c => c.take i k .valid none) = { s.withPort b { (s.slice b).port with
        queue := [r], transfer := some ⟨r.serial, r.write, i⟩ } with
      nextSerial := s.nextSerial + 1
      cache := { s.cache with
        useCounter := s.cache.useCounter + 2
        entries := s.cache.entries.set i { s.cache.entry i with
          state := .valid, key := some k, pinned := true, stamp := s.cache.useCounter + 2, owner := none } } } := by
  rw [← Cache.take_pin_eq]
  exact startTransfer_waiting s b r i fun c => c.take i k .valid none

/-! ## A READ at hand (R123) -/

/-- A READ whose first block is held VALID starts its transfer. -/
theorem admitAndServe_read_hit (hq : (s.slice b).port.queue = []) (ht : (s.slice b).port.transfer = none) (hr : r.write = false)
    (hf : s.cache.find (s.key b r.next) = some i) (hv : (s.cache.entry i).state = .valid) :
    admitAndServe b r s = startTransfer b r i (s.waiting b r) := by
  refine admitAndServe_judged hq (.inr ?_) ?_
  · rw [← find_isNone_iff, hf]
    simp
  · rw [judgeQueue_single (r := r) (by rw [waiting_port]), if_neg (by simp [hr])]
    exact lookRead_hit (by rw [waiting_key, waiting_cache, hf]) (by rw [waiting_port]; exact ht) hv

/-! ## A WRITE (R124) -/

theorem admitAndServe_write (hq : (s.slice b).port.queue = []) (hr : r.write = true) (hl : lookWrite b r (s.waiting b r) = (t, [])) :
    admitAndServe b r s = t := by
  refine admitAndServe_judged hq (.inl hr) ?_
  rw [judgeQueue_single (r := r) (by rw [waiting_port]), if_pos hr, hl]

/-- The WRITE that stands alone, with its places counted as the statement counts them. -/
structure Writing (s : State) (b : Bay) (r : ServerRequest) : Prop where
  alone : (s.slice b).port.queue = []
  idle : (s.slice b).port.transfer = none
  write : r.write = true
  left : r.transferred < r.count

theorem Writing.full (h : Writing s b r) (hp : 16 ≤ usedPlaces s) : admitAndServe b r s = s.waiting b r :=
  admitAndServe_write h.alone h.write (lookWrite_full (.inr (by rwa [waiting_usedPlaces])))

theorem Writing.may (h : Writing s b r) (hp : usedPlaces s < 16) : MayWrite b r (s.waiting b r) :=
  ⟨by rw [waiting_port]; exact h.idle, h.left, by rwa [waiting_usedPlaces]⟩

theorem waiting_find (s : State) (b : Bay) (r : ServerRequest) :
    (s.waiting b r).cache.find ((s.waiting b r).key b r.next) = s.cache.find (s.key b r.next) := by
  rw [waiting_key, waiting_cache]

theorem find_of_missing (hm : MissingBlock s b r.next) : s.cache.find (s.key b r.next) = none :=
  Option.isNone_iff_eq_none.mp ((find_isNone_iff s b r.next).mpr hm)

theorem Writing.hit (h : Writing s b r) (hp : usedPlaces s < 16) (hf : s.cache.find (s.key b r.next) = some i)
    (hv : (s.cache.entry i).state = .valid) (hpin : (s.cache.entry i).pinned = false) :
    admitAndServe b r s = startTransfer b r i (s.waiting b r) := by
  refine admitAndServe_write h.alone h.write ?_
  rw [(h.may hp).found ((waiting_find s b r).trans hf)]
  exact if_pos (by simp [waiting_cache, hv, hpin])

theorem Writing.waits (h : Writing s b r) (hf : s.cache.find (s.key b r.next) = some i)
    (hw : 16 ≤ usedPlaces s ∨ (s.cache.entry i).state ≠ .valid ∨ (s.cache.entry i).pinned = true) : admitAndServe b r s = s.waiting b r := by
  by_cases hp : 16 ≤ usedPlaces s
  · exact h.full hp
  · refine admitAndServe_write h.alone h.write ?_
    rw [(h.may (Nat.lt_of_not_le hp)).found ((waiting_find s b r).trans hf)]
    refine if_neg ?_
    rcases hw.resolve_left hp with hs | hpin
    · simp [waiting_cache, hs]
    · simp [waiting_cache, hpin]

theorem Writing.missing_waits (h : Writing s b r) (hm : MissingBlock s b r.next) (hw : 16 ≤ usedPlaces s ∨ ∀ i, ¬VictimFor s.cache b i) :
    admitAndServe b r s = s.waiting b r := by
  by_cases hp : 16 ≤ usedPlaces s
  · exact h.full hp
  · exact admitAndServe_write h.alone h.write ((h.may (Nat.lt_of_not_le hp)).no_victim ((waiting_find s b r).trans (find_of_missing hm))
      (Cache.victim_none (hw.resolve_left hp)))

/-- A WRITE whose block is missing takes a victim; the bay that loses a block to it has nothing queued that could move. -/
theorem Writing.missing (h : Writing s b r) (hq : s.quiet) (hm : MissingBlock s b r.next) (hp : usedPlaces s < 16) (hv : VictimFor s.cache b v) :
    admitAndServe b r s = startTransfer b r v ((s.waiting b r).modCache fun c => c.take v (s.key b r.next) .valid none) := by
  have hlook := (h.may hp).takes ((waiting_find s b r).trans (find_of_missing hm)) (Cache.victim_eq hv)
  rw [waiting_key] at hlook
  obtain ⟨w, hw⟩ : ∃ w, w = startTransfer b r v ((s.waiting b r).modCache fun c => c.take v (s.key b r.next) .valid none) := ⟨_, rfl⟩
  rw [← hw] at hlook ⊢
  have hport : (w.slice b).port = { (s.slice b).port with queue := [r], transfer := some ⟨r.serial, r.write, v⟩ } := by
    rw [hw, startTransfer_taken]
    exact congrArg Slice.port (slice_withSlice_self s b _)
  have hother (c : Bay) (hc : c ≠ b) : (w.slice c).port.queue = [] := by
    rw [hw, startTransfer, State.slice_modSlice_ne _ _ _ _ hc]
    change ((s.waiting b r).slice c).port.queue = []
    rw [waiting_slice_ne s r hc]
    exact hq c
  have hstill : w.still := State.still_of (b := b) (r := r) (by rw [hport]) hother fun _ => by
    rw [if_pos h.write]
    exact lookWrite_full (.inl (by rw [hport]; rfl))
  have hj : judgeQueue false b (s.waiting b r) = (w, (s.cache.loser v).toList.map lossReport) := by
    rw [judgeQueue_single (r := r) (by rw [waiting_port]), if_pos h.write]
    exact hlook
  unfold admitAndServe
  rw [enqueue_alone h.alone]
  refine (if_neg (by simp [h.write])).trans ((serve_first hj []).trans (serve_still hstill _ _))

end Sys2Proof.Machine
end

section
/-! PROOFS. The statement of chapters 7 and 8 about server requests: a READ that asks for its block, and the whole (R122, R136). -/

namespace Sys2Proof.Machine

variable {s t u : State} {b c : Bay} {tag : Byte} {start : BitVec 32} {count n m id block last : Nat} {r : ServerRequest} {i v : Fin 256}
  {vs : List (Fin 256)}

/-! ## A fetch asked for (R136) -/

theorem askFetch_full (h : 32 ≤ s.cache.fetches.length) : askFetch b block last s = (s, []) := if_pos h

/-- The id that a new record takes is the one that R135 names. -/
theorem IdAfter.unique {held : List Nat} {l x y : Nat} (hx : IdAfter held l x) (hy : IdAfter held l y) : x = y := by
  obtain ⟨k, rfl, hout, hin⟩ := hx
  obtain ⟨k', rfl, hout', hin'⟩ := hy
  rcases lt_trichotomy k k' with hlt | rfl | hgt
  · exact absurd (hin' k hlt) hout
  · rfl
  · exact absurd (hin k' hgt) hout'

/-- The state once a fetch record is made and its victims are taken (R136). -/
def State.fetched (s : State) (b : Bay) (block : Nat) (vs : List (Fin 256)) : State :=
  s.withCache { Cache.takeAll (fun x => s.key b (block + x)) s.cache.nextFetchId vs 0 s.cache with
    fetches := s.cache.fetches ++ [⟨s.cache.nextFetchId, b, (s.slice b).medium.generation, block, List.replicate vs.length false, .pending,
      none, false⟩]
    lastFetchId := s.cache.nextFetchId }

theorem askFetch_picks (hroom : s.cache.fetches.length < 32) (hext : fetchExtent s b (last + s.cache.readAhead) 8 block = List.range' block m)
    (hp : Cache.Picks (fun x => s.key b (block + x)) s.cache.nextFetchId b vs m 0 s.cache) :
    ∃ reports, askFetch b block last s = if vs = [] then (s, []) else (s.fetched b block vs, reports) := by
  obtain ⟨lost, hl⟩ := takeVictims_picks vs m 0 s.cache hp
  rw [Nat.add_zero] at hl
  have hfetches : (Cache.takeAll (fun x => s.key b (block + x)) s.cache.nextFetchId vs 0 s.cache).fetches = s.cache.fetches := by
    rw [Cache.takeAll_fields]
  have hnil : (0 + vs.length = 0) ↔ vs = [] := by
    rw [Nat.zero_add]
    exact List.length_eq_zero_iff
  refine ⟨lost.map lossReport, ?_⟩
  unfold askFetch
  refine (if_neg (show ¬ Config.fetchMax ≤ s.cache.fetches.length from Nat.not_le.mpr hroom)).trans ?_
  dsimp only
  rw [hext, hl]
  dsimp only
  rw [hfetches]
  by_cases hvs : vs = []
  · rw [if_pos (hnil.mpr hvs), if_pos hvs]
  · rw [if_neg (fun h => hvs (hnil.mp h)), if_neg hvs, Nat.zero_add]
    rfl

/-- With the fetch table full, or with no victim, nothing is asked for. -/
theorem askFetch_nothing (h : 32 ≤ s.cache.fetches.length ∨ ∀ i, ¬VictimFor s.cache b i) : askFetch b block last s = (s, []) := by
  by_cases hroom : 32 ≤ s.cache.fetches.length
  · exact askFetch_full hroom
  · obtain ⟨m, hext, -⟩ := fetchExtent_run s b (last + s.cache.readAhead) 8 block
    obtain ⟨_, he⟩ := askFetch_picks (vs := []) (Nat.lt_of_not_le hroom) hext (.inr (Cache.victim_none (h.resolve_left hroom)))
    rw [he, if_pos rfl]

theorem fetched_entry_other (h : i ∉ vs) : (s.fetched b block vs).cache.entry i = s.cache.entry i :=
  Cache.takeAll_entry_other vs 0 s.cache h

theorem fetched_entry (hn : vs.Nodup) {x : Nat} (hx : vs[x]? = some i) : (s.fetched b block vs).cache.entry i = { s.cache.entry i with
    state := .filling, key := some (s.key b (block + x)), stamp := s.cache.useCounter + BitVec.ofNat 32 (x + 1)
    owner := some (.fetch s.cache.nextFetchId x) } := by
  have h := Cache.takeAll_entry (key := fun x => s.key b (block + x)) (id := s.cache.nextFetchId) vs 0 s.cache hn x i hx
  rw [Nat.zero_add] at h
  exact h

theorem fetched_cache (s : State) (b : Bay) (block : Nat) (vs : List (Fin 256)) : (s.fetched b block vs).cache = { s.cache with
    entries := (s.fetched b block vs).cache.entries
    useCounter := s.cache.useCounter + BitVec.ofNat 32 vs.length
    fetches := s.cache.fetches ++ [⟨s.cache.nextFetchId, b, (s.slice b).medium.generation, block, List.replicate vs.length false, .pending,
      none, false⟩]
    lastFetchId := s.cache.nextFetchId } :=
  congrArg (fun c : Cache => { c with
    fetches := s.cache.fetches ++ [(⟨s.cache.nextFetchId, b, (s.slice b).medium.generation, block, List.replicate vs.length false, .pending,
      none, false⟩ : FetchRecord)]
    lastFetchId := s.cache.nextFetchId }) (Cache.takeAll_fields (key := fun x => s.key b (block + x)) (id := s.cache.nextFetchId) vs 0 s.cache)

theorem fetched_slice (s : State) (b c : Bay) (block : Nat) (vs : List (Fin 256)) : (s.fetched b block vs).slice c = s.slice c := rfl

/-- The first block asked for is held by a FILLING entry. -/
theorem fetched_find (hm : MissingBlock s b block) (hn : vs.Nodup) (hvs : vs ≠ []) :
    ∃ i, (s.fetched b block vs).cache.find (s.key b block) = some i ∧ ((s.fetched b block vs).cache.entry i).state = .filling := by
  have hfilling (i : Fin 256) (hi : i ∈ vs) : ((s.fetched b block vs).cache.entry i).state = .filling := by
    obtain ⟨x, hx⟩ := List.getElem?_of_mem hi
    rw [fetched_entry hn hx]
  obtain ⟨v, rest, rfl⟩ := List.exists_cons_of_ne_nil hvs
  have hhead : ((s.fetched b block (v :: rest)).cache.entry v).key = some (s.key b block) := by
    rw [fetched_entry (x := 0) hn rfl]
    rfl
  cases hf : (s.fetched b block (v :: rest)).cache.find (s.key b block) with
  | none =>
    refine absurd hhead (Cache.find_none hf v ?_)
    rw [hfilling v List.mem_cons_self]
    nofun
  | some i =>
    refine ⟨i, rfl, hfilling i ?_⟩
    by_contra hi
    obtain ⟨hs, hk⟩ := Cache.find_spec hf
    rw [fetched_entry_other hi] at hs hk
    exact (hm i).elim hs fun h => h hk

/-! ## A READ whose first block is missing (R122, R136) -/

/-- The READ that stands alone and misses its block. -/
structure Missing (s : State) (b : Bay) (r : ServerRequest) : Prop where
  quiet : s.quiet
  read : r.write = false
  missing : MissingBlock s b r.next

theorem Missing.find (h : Missing s b r) : (s.waiting b r).cache.find ((s.waiting b r).key b r.next) = none := by
  rw [waiting_find]
  exact find_of_missing h.missing

theorem Missing.asks (h : Missing s b r) {reports : List Report} (ha : askFetch b r.next (r.start + r.count - 1) (s.waiting b r) = (u, reports)) :
    admitAndServe b r s = serve serveLimit (⟨b, false, false⟩ :: reports) u := by
  unfold admitAndServe
  rw [enqueue_alone (h.quiet b)]
  dsimp only
  rw [if_pos (by rw [h.find]; simp [h.read]), ha]

theorem Missing.waits (h : Missing s b r) (hw : 32 ≤ s.cache.fetches.length ∨ ∀ i, ¬VictimFor s.cache b i) :
    admitAndServe b r s = s.waiting b r := by
  rw [h.asks (askFetch_nothing (s := s.waiting b r) hw)]
  refine serve_alone ?_
  rw [judgeQueue_single (r := r) (by rw [waiting_port]), if_neg (by simp [h.read])]
  exact lookRead_missing h.find

theorem Missing.fetches (h : Missing s b r) (hroom : s.cache.fetches.length < 32)
    (hext : fetchExtent (s.waiting b r) b (r.start + r.count - 1 + s.cache.readAhead) 8 r.next = List.range' r.next m)
    (hp : Cache.Picks (fun x => s.key b (r.next + x)) s.cache.nextFetchId b vs m 0 s.cache) (hn : vs.Nodup) (hvs : vs ≠ []) :
    admitAndServe b r s = (s.waiting b r).fetched b r.next vs := by
  have hkey : (fun x => (s.waiting b r).key b (r.next + x)) = fun x => s.key b (r.next + x) := funext fun x => waiting_key s b r _
  obtain ⟨reports, he⟩ := askFetch_picks (s := s.waiting b r) hroom hext (by rw [hkey]; exact hp)
  rw [if_neg hvs] at he
  rw [h.asks he]
  refine serve_still (State.still_of (b := b) (r := r) ?_ (fun c hc => ?_) fun ask => ?_) _ _
  · rw [fetched_slice, waiting_port]
  · rw [fetched_slice, waiting_slice_ne s r hc]
    exact h.quiet c
  · obtain ⟨i, hf, hs⟩ := fetched_find (s := s.waiting b r) ((waiting_missing s b r r.next).mpr h.missing) hn hvs
    rw [if_neg (by simp [h.read])]
    exact lookRead_filling hf hs

/-! ## The whole -/

/-- Requests judged before they are admitted, by the order of R119 and R120. -/
theorem requests_judged (b : Bay) (tag : Byte) (start : BitVec 32) (count : Nat) (hu : (s.slice b).port.up = true) :
    (4 ≤ (s.slice b).port.queue.length →
      ∀ i ∈ [Instr.read b tag start count, .write b tag start count, .capacity b tag, .ready b tag, .serverRequestInvalid b tag],
        exec i s = .next (s.told b (.status tag .busy))) ∧
    ((s.slice b).port.queue.length < 4 →
      exec (.serverRequestInvalid b tag) s = .next (s.told b (.status tag .invalid)) ∧
      ((s.slice b).medium.state ≠ .present →
        ∀ i ∈ [Instr.read b tag start count, .write b tag start count, .capacity b tag, .ready b tag],
          exec i s = .next (s.told b (.status tag .notReady))) ∧
      ((s.slice b).medium.state = .present → (s.slice b).medium.changed = true →
        ∀ i ∈ [Instr.read b tag start count, .write b tag start count, .capacity b tag, .ready b tag],
          exec i s = .next (s.withSlice b { s.slice b with
            medium := { (s.slice b).medium with changed := false }
            port := { (s.slice b).port with sent := (s.slice b).port.sent ++ [.status tag .mediumChanged] } })) ∧
      ((s.slice b).medium.state = .present → (s.slice b).medium.changed = false →
        exec (.ready b tag) s = .next (s.told b (.status tag .good)) ∧
        (∀ n, (s.slice b).medium.capacity = some n →
          exec (.capacity b tag) s = .next (s.told b (.capacity tag n (s.slice b).medium.writable)) ∧
          (count = 0 ∨ 128 < count ∨ n ≤ start.toNat + count - 1 →
            exec (.read b tag start count) s = .next (s.told b (.status tag .outOfRange)) ∧
            exec (.write b tag start count) s = .next (s.told b (.status tag .outOfRange))) ∧
          (1 ≤ count → count ≤ 128 → start.toNat + count ≤ n → (s.slice b).medium.writable = false →
            exec (.write b tag start count) s = .next (s.told b (.status tag .writeProtected)))))) := by
  refine ⟨fun hq i hi => ?_, fun hq => ⟨exec_invalid hu hq, fun hm => exec_arrivals (arrive_notReady hu hq hm),
    fun hm hc => exec_arrivals (arrive_changed hu hq hm hc), fun hm hc => ?_⟩⟩
  · rw [show [Instr.read b tag start count, .write b tag start count, .capacity b tag, .ready b tag, .serverRequestInvalid b tag] =
      [Instr.read b tag start count, .write b tag start count, .capacity b tag, .ready b tag] ++ [.serverRequestInvalid b tag] from rfl] at hi
    rcases List.mem_append.mp hi with hi | hi
    · exact exec_arrivals (arrive_busy hu hq) i hi
    · rw [List.mem_singleton.mp hi]
      exact exec_invalid_busy hu hq
  · have h : Serves b s := ⟨hu, hq, hm, hc⟩
    refine ⟨congrArg Host.Outcome.next (h.arrive tag _), fun n hn => ⟨?_, fun hr => ?_, fun hlo hhi hr hw => ?_⟩⟩
    · refine congrArg Host.Outcome.next ((h.arrive tag _).trans ?_)
      rw [hn]
      rfl
    · have hout : blocksInRange (s.slice b).medium start.toNat count = false := by
        refine Bool.eq_false_iff.mpr fun hin => ?_
        have := (blocksInRange_iff hn _ _).mp hin
        omega
      exact ⟨h.read_outside tag hout, h.write_outside tag hout⟩
    · exact h.write_protected tag ((blocksInRange_iff hn _ _).mpr ⟨hlo, hhi, hr⟩) hw

/-- A READ or a WRITE that passes its checks joins the queue. -/
theorem request_admitted (h : Serves b s) (tag : Byte) (hr : blocksInRange (s.slice b).medium start.toNat count = true) (write : Bool)
    (hw : write = true → (s.slice b).medium.writable = true) :
    exec (if write then .write b tag start count else .read b tag start count) s =
      .next (admitAndServe b (newRequest s.nextSerial tag write start.toNat count) s) := by
  cases write with
  | true => exact h.write_admits tag hr (hw rfl)
  | false => exact h.read_admits tag hr

/-- A READ that stands alone and misses its block asks for the extent that the statement names. -/
theorem read_fetches (h : Serves b s) (hq : s.quiet) (hn : (s.slice b).medium.capacity = some n) (hlo : 1 ≤ count)
    (hr : blocksInRange (s.slice b).medium start.toNat count = true) (hm : MissingBlock s b start.toNat) {k : Nat} {victims : List (Fin 256)}
    (hroom : s.cache.fetches.length < 32) (hlast : s.cache.lastFetchId ≤ 255)
    (hid : IdAfter (s.cache.fetches.map FetchRecord.id) s.cache.lastFetchId id) (hk : k ≤ 8)
    (hin : ∀ x < k, MissingBlock s b (start.toNat + x) ∧ start.toNat + x < n ∧ x < count + s.cache.readAhead)
    (hout : k < 8 → ¬(MissingBlock s b (start.toNat + k) ∧ start.toNat + k < n ∧ k < count + s.cache.readAhead))
    (hv : (victims = s.cache.freeList.take k ∧ victims ≠ [] ∧ (victims.length = k ∨ ∀ i, ¬ValidEligible s.cache b i)) ∨
      (k = 1 ∧ ∃ v, victims = [v] ∧ VictimFor s.cache b v)) {w : State}
    (hw : w = s.waiting b (newRequest s.nextSerial tag false start.toNat count)) :
    ∃ t, exec (.read b tag start count) s = .next t ∧ t = { w with cache := t.cache } ∧
      t.cache = { s.cache with
        entries := t.cache.entries
        useCounter := s.cache.useCounter + BitVec.ofNat 32 victims.length
        fetches := s.cache.fetches ++ [⟨id, b, (s.slice b).medium.generation, start.toNat, List.replicate victims.length false,
          .pending, none, false⟩]
        lastFetchId := id } ∧
      (∀ i, i ∉ victims → t.cache.entry i = s.cache.entry i) ∧
      ∀ x i, victims[x]? = some i → t.cache.entry i = { s.cache.entry i with
        state := .filling, key := some ⟨b, (s.slice b).medium.generation, start.toNat + x⟩
        stamp := s.cache.useCounter + BitVec.ofNat 32 (x + 1), owner := some (.fetch id x) } := by
  have hmiss : Missing s b (newRequest s.nextSerial tag false start.toNat count) := ⟨hq, rfl, hm⟩
  obtain rfl : s.cache.nextFetchId = id := (freshId_idAfter (by rw [List.length_map]; omega) hlast).unique hid
  have hnodup : victims.Nodup := by
    rcases hv with ⟨rfl, -, -⟩ | ⟨-, v, rfl, -⟩
    · exact s.cache.freeList_nodup.sublist (List.take_sublist _ _)
    · exact List.nodup_singleton v
  have hne : victims ≠ [] := by
    rcases hv with ⟨-, hne, -⟩ | ⟨-, v, rfl, -⟩
    · exact hne
    · exact List.cons_ne_nil _ _
  have hpicks : Cache.Picks (fun x => s.key b (start.toNat + x)) s.cache.nextFetchId b victims k 0 s.cache := by
    rcases hv with ⟨rfl, -, h⟩ | ⟨rfl, v, rfl, h⟩
    · exact Cache.picks_free (b := b) (key := fun x => s.key b (start.toNat + x)) (fun _ => rfl) k 0 s.cache h
    · exact Cache.picks_one h
  have hcond (x : Nat) : w.inExtent b (start.toNat + count - 1 + s.cache.readAhead) (start.toNat + x) ↔
      MissingBlock s b (start.toNat + x) ∧ start.toNat + x < n ∧ x < count + s.cache.readAhead := by
    unfold State.inExtent
    rw [hw, waiting_missing, waiting_medium, hn, Option.getD_some]
    refine and_congr Iff.rfl (and_congr Iff.rfl ?_)
    omega
  have hext := fetchExtent_eq (s := w) 8 start.toNat k (fun x hx => (hcond x).mpr (hin x hx)) hk fun hlt h => hout hlt ((hcond k).mp h)
  subst hw
  have hend := hmiss.fetches hroom hext hpicks hnodup hne
  refine ⟨_, (h.read_admits tag hr).trans (congrArg Host.Outcome.next hend), rfl, ?_, fun i hi => fetched_entry_other hi, fun x i hx => ?_⟩
  · have hc := fetched_cache (s.waiting b (newRequest s.nextSerial tag false start.toNat count)) b start.toNat victims
    rw [waiting_medium] at hc
    exact hc
  · have he := fetched_entry (s := s.waiting b (newRequest s.nextSerial tag false start.toNat count)) (b := b) (block := start.toNat) hnodup hx
    rw [waiting_key] at he
    exact he

/-- Settles O45: the judgement, the admission, and what the engine does with a READ or a WRITE that stands alone. -/
theorem serverRequestsAreAdmitted : Obligations.ServerRequestsAreAdmitted := by
  unfold Obligations.ServerRequestsAreAdmitted
  refine ⟨fun s b tag start count hu => requests_judged b tag start count hu,
    fun s b tag start count n hu hq hm hc hn hlo hhi hr => ⟨fun write hw => ?_, fun i hempty ht hv hf => ?_⟩,
    fun s b tag start count n waits hq hu ht hm hc hn hlo hhi hr hwaits => ?_⟩
  · have h : Serves b s := ⟨hu, hq, hm, hc⟩
    have hin := (blocksInRange_iff hn start.toNat count).mpr ⟨hlo, hhi, hr⟩
    exact ⟨_, request_admitted h tag hin write hw, admitAndServe_admits b _ s rfl⟩
  · have h : Serves b s := ⟨hu, hq, hm, hc⟩
    have hin := (blocksInRange_iff hn start.toNat count).mpr ⟨hlo, hhi, hr⟩
    refine (h.read_admits tag hin).trans (congrArg Host.Outcome.next ?_)
    rw [admitAndServe_read_hit (r := newRequest s.nextSerial tag false start.toNat count) hempty ht rfl hf hv, startTransfer_held]
    rfl
  have h : Serves b s := ⟨hu, by rw [hq b]; decide, hm, hc⟩
  have hin := (blocksInRange_iff hn start.toNat count).mpr ⟨hlo, hhi, hr⟩
  have hwait (write : Bool) : s.waiting b (newRequest s.nextSerial tag write start.toNat count) = waits write := (hwaits write).symm
  refine ⟨fun hmiss => ⟨fun hw => ?_, fun k id victims hroom hlast hid _ hk8 hext hout hvs => ?_⟩,
    fun hwr => ⟨fun i hf => ⟨fun hp hv hpin => ?_, fun hw => ?_⟩, fun hmiss => ⟨fun hw => ?_, fun v hp hv => ?_⟩⟩⟩
  · have hmissing : Missing s b (newRequest s.nextSerial tag false start.toNat count) := ⟨hq, rfl, hmiss⟩
    exact (h.read_admits tag hin).trans (congrArg Host.Outcome.next ((hmissing.waits hw).trans (hwait false)))
  · exact read_fetches h hq hn hlo hin hmiss hroom hlast hid hk8 hext hout hvs (hwait false).symm
  all_goals
    have hwriting : Writing s b (newRequest s.nextSerial tag true start.toNat count) := ⟨hq b, ht, rfl, hlo⟩
    refine (h.write_admits tag hin hwr).trans (congrArg Host.Outcome.next ?_)
  · rw [hwriting.hit hp hf hv hpin, startTransfer_held]
    rfl
  · exact (hwriting.waits hf hw).trans (hwait true)
  · exact (hwriting.missing_waits hmiss hw).trans (hwait true)
  · rw [hwriting.missing hq hmiss hp hv, startTransfer_taken]
    rfl

end Sys2Proof.Machine
end
